-- ==== Sys2Proof/Word.lean ====
section
/-! DEFINITION. The plain word types: bytes as the packets, descriptors and journal entries of the
LX-100 carry them (R7: every multi-byte field is little-endian). -/
namespace Sys2Proof

/-- One byte on a wire or in a layout. -/
abbrev Byte := BitVec 8

/-- A run of bytes, the byte at the lowest offset first. -/
abbrev Bytes := List Byte

end Sys2Proof
end

