-- ==== Sys2Proof/Syntax.lean ====
section
/-! DEFINITION. The commands of the block: one constructor of `Instr` per row of
spec/opcode_table.json, with the operands the row's rule gives it. Host opcodes carry the whole
packet as it left its transport; events carry what they happened to. -/
namespace Sys2Proof

/-- An ECC error of the Hold met while a step reads it (R21): single or double bit, and its byte
address in the map of R18; addresses from 2³² up are Sheave-local, 2³² + loop × 1,024 + offset (R195). -/
structure HoldEcc where
  double : Bool
  addr : Nat
deriving DecidableEq, Repr

/-- A Gaward packet as its transport delivers it (R58, R59): the port it came on, the address it
came from there, the header fields a host chooses, payload and tag. MAGIC is right and PLEN is the
payload's length in a packet of this form; `ecc` are Hold errors met while it executes. -/
structure Packet where
  port : Nat
  addr : Nat
  version : Byte
  flags : Byte
  session : Byte
  rsvd5 : Byte
  hostTag : BitVec 64
  rsvd18 : Bytes
  payload : Bytes
  mac : Bytes
  ecc : List HoldEcc
deriving DecidableEq, Repr

/-- A UDP datagram on Ethernet interface 0 to 2 (R45). -/
structure UdpIn where
  iface : Nat
  tagged : Bool
  srcIp : BitVec 32
  dstIp : BitVec 32
  srcPort : BitVec 16
  dstPort : BitVec 16
  cksum : BitVec 16
  data : Bytes
deriving DecidableEq, Repr

/-- An IPv4 fragment (R46): `offset` in bytes, `more` the more-fragments bit, `data` the fragment's
bytes of the IPv4 payload. -/
structure IpFrag where
  iface : Nat
  tagged : Bool
  srcIp : BitVec 32
  dstIp : BitVec 32
  ident : BitVec 16
  proto : Byte
  offset : Nat
  more : Bool
  data : Bytes
deriving DecidableEq, Repr

/-- A CAN frame on CAN0 or CAN1 (R47, R48); `port` is 3 or 4 in the order of R100. -/
structure CanFrame where
  port : Nat
  fd : Bool
  ext : Bool
  ident : BitVec 29
  data : Bytes
deriving DecidableEq, Repr

/-- What a port measures of the line current around a reply slot or a search window, in 0.1 mA (R148): samples of the
24 µs before it, whose mean is the baseline, and the greatest current in it. -/
structure Sink where
  before : List Nat
  peak : Nat
deriving DecidableEq, Repr

/-- What a port receives in one reply slot (R148, R153, R156): the currents, the time of the first sink edge against the
nominal slot start in µs, and the bytes of the decoded cells, six of 48 cells; none where a cell lacks its start edge or a
sink is still on at the guard. -/
structure SlotRx where
  sink : Sink
  edge : Int
  cells : Option Bytes
deriving DecidableEq, Repr

/-- What a port receives in one exchange of an enumeration run (R154, R159): the sixteen windows of a SEARCH, the bytes of
an IDENTIFY reply, the bytes of an acknowledgement; none where no whole bytes came. -/
inductive EnumRx where
  | search (windows : List Sink)
  | identify (reply : Option Bytes)
  | assign (ack : Option Bytes)
deriving DecidableEq, Repr

/-- A reading of the field or of a supply that a die or the Bosun holds in a register. Units: mA,
0.01 V, 0.01 A, 0.1 mA, binary32 bits. -/
inductive Meas where
  | dioCurrent (ch mA : Nat)
  | loadCurrent (ch mA : Nat)
  | loadSense (ch cV : Nat)
  | bankAvg (bank cA : Nat)
  | vbb (bank cV : Nat)
  | vdio (grp cV : Nat)
  | vhal (grp cV : Nat)
  | vsup (cV : Nat)
  | vio (cV : Nat)
  | lineCurrent (port dmA : Nat)
  | lineVoltage (port cV : Nat)
  | aoReadback (ch : Nat) (bits : BitVec 32)
  /-- Land voltage of a DIO channel, 0.01 V (R301). -/
  | dioLand (ch cV : Nat)
  /-- The local sensor of a DIO or load switch is at or above 160 °C (R298, R319). -/
  | dioHot (ch : Nat) (hot : Bool)
  | loadHot (ch : Nat) (hot : Bool)
deriving DecidableEq, Repr

/-- What a tick meets (R22): loops whose inputs arrive too late, groups hit by a ring parity error
(R212), loops whose slot SRAM has a double-bit error (R195), Hold errors (R21), and new readings. -/
structure TickEnv where
  late : List Nat
  ringParity : List Nat
  slotEcc : List Nat
  ecc : List HoldEcc
  meas : List Meas
deriving DecidableEq, Repr

/-- What a converter delivers at the end of a result (R275 to R278, R281): the channel; the readings of its windows as
binary32 bits, in mV for VOLT and CURRENT, mV/V for RATIO and as the ratio to RREF for RES, the second window, in negative
polarity, counting only under SWAP; the land temperature in centi-degrees for cold junctions; and how far pins moved in the
open-input test, pin and mV. -/
structure ConvIn where
  ref : Nat
  first : BitVec 32
  second : BitVec 32
  landTemp : Int
  moved : List (Nat × Nat)
deriving DecidableEq, Repr

/-- A load clamp that has engaged (R314): the current that it limits, mA, and the µs for which it has held. -/
structure ClampIn where
  mA : Nat
  us : Nat
deriving DecidableEq, Repr

/-- A Telltale occurrence (R347) raised by die 0 control, 1 port, 2 power 0 or 3 power 1. -/
structure OccIn where
  die : Nat
  code : Nat
  source : Nat
  data : Bytes
deriving DecidableEq, Repr

/-- The commands: one constructor per row of the opcode table, in the table's order. -/
inductive Instr where
  | udpDatagram (d : UdpIn)
  | ipFragment (f : IpFrag)
  | fragmentTimeout (iface : Nat) (srcIp : BitVec 32) (ident : BitVec 16)
  | arpRequest (iface : Nat) (targetIp senderIp : BitVec 32) (senderMac : BitVec 48)
  | icmpEcho (iface : Nat) (srcIp dstIp : BitVec 32) (data : Bytes)
  | canSegment (f : CanFrame)
  | canSegmentTimeout (port node : Nat)
  | canBusOff (port : Nat)
  | canBusOffRecovery (port : Nat)
  | rs485Frame (port : Nat) (frame : Bytes)
  | rs485GapTimeout (port : Nat)
  | rs485ReplyWindow (port : Nat)
  | t1lLinkChange (port : Nat) (up : Bool)
  | rmiiLinkPoll (phys : List (Nat × Bool))
  | spiInGo (word : BitVec 32)
  | spiInTaken
  | spiOutDone (word : BitVec 32)
  | spiOutPlace
  | spiInBufferWrite (addr : Nat) (data : Bytes)
  | spiIrqStatusClear (word : BitVec 32)
  | spiRegisterWrite (addr : Nat) (data : Bytes)
  | hello (p : Packet)
  | helloContextExpiry (nonce : Bytes)
  | auth (p : Packet)
  | keepalive (p : Packet)
  | bye (p : Packet)
  | subscribe (p : Packet)
  | getReady (p : Packet)
  | journalHead (p : Packet)
  | journalRead (p : Packet)
  | resultOf (p : Packet)
  | stateDigest (p : Packet)
  | objectVersions (p : Packet)
  | rigBegin (p : Packet)
  | rigPut (p : Packet)
  | rigCommit (p : Packet)
  | rigCommitComplete
  | rigActivation
  | rigAbort (p : Packet)
  | rigTxnTimeout
  | rigGet (p : Packet)
  | rigSave (p : Packet)
  | rigSaveComplete
  | rigBankSelect (p : Packet)
  | pointRead (p : Packet)
  | scanSetPeriod (p : Packet)
  | scanExtraCycle (p : Packet)
  | enumerateDiscover (p : Packet)
  | enumerateAssign (p : Packet)
  | enumerateReport (p : Packet)
  | enumerateRunStart (port : Nat)
  | enumerateRunEnd (port : Nat) (rx : List (Nat × SlotRx))
  | pointThreshSet (p : Packet)
  | frontRead (p : Packet)
  | trendOpen (p : Packet)
  | trendRead (p : Packet)
  | trendClose (p : Packet)
  | trendStatus (p : Packet)
  | frontLog (p : Packet)
  | loopSetSp (p : Packet)
  | loopMode (p : Packet)
  | loopRead (p : Packet)
  | loopClearFlags (p : Packet)
  | injectStart (p : Packet)
  | captureRead (p : Packet)
  | captureFree (p : Packet)
  | mastMode (p : Packet)
  | mastRead (p : Packet)
  | ledgerRead (p : Packet)
  | dryerMode (p : Packet)
  | dryerNext (p : Packet)
  | dryerPause (p : Packet)
  | dryerResume (p : Packet)
  | dryerAck (p : Packet)
  | dryerEmpty (p : Packet)
  | dryerRead (p : Packet)
  | routeClaim (p : Packet)
  | routeRelease (p : Packet)
  | routeStart (p : Packet)
  | routeStopNormal (p : Packet)
  | routeStopQuick (p : Packet)
  | routeAck (p : Packet)
  | routeRead (p : Packet)
  | dioWrite (p : Packet)
  | dioRead (p : Packet)
  | loadWrite (p : Packet)
  | loadRead (p : Packet)
  | aoWrite (p : Packet)
  | fanSet (p : Packet)
  | fanRead (p : Packet)
  | faultClear (p : Packet)
  | afeRead (p : Packet)
  | threshRead (p : Packet)
  | ttOpen (p : Packet)
  | ttClose (p : Packet)
  | ttNotify (p : Packet)
  | ttRead (p : Packet)
  | ttPin (p : Packet)
  | ttUnpin (p : Packet)
  | ttClear (p : Packet)
  | ttLimitsSet (p : Packet)
  | ttLimitsGet (p : Packet)
  | sysInfo (p : Packet)
  | timeMark (p : Packet)
  | resetWarm (p : Packet)
  | resetCold (p : Packet)
  | powerPlanGet (p : Packet)
  | powerPlanClear (p : Packet)
  | powerPlanSet (p : Packet)
  | quotaSet (p : Packet)
  | roleLower (p : Packet)
  | roleEvict (p : Packet)
  | roleRelease (p : Packet)
  | keySet (p : Packet)
  | fwBegin (p : Packet)
  | fwData (p : Packet)
  | fwEnd (p : Packet)
  | fwEndComplete
  | fwActivate (p : Packet)
  | fwAbort (p : Packet)
  | fwUpdateTimeout
  | commandExecution (ecc : List HoldEcc)
  | hostSilence
  | sessionExpiry (slot : Nat)
  | orphanHoldExpiry (owner : Nat)
  | readyNotice
  | scanCycleStart
  | halyardSlotEnd (port phase slot : Nat) (rx : SlotRx)
  | scheduleEnd (port : Nat) (dmA : Nat)
  | pointRecord (ecc : List HoldEcc)
  | frontJob (ecc : List HoldEcc)
  | trendSnapshot (late : Bool)
  | trendSpill (stream : Nat)
  | switchOnProbe (port : Nat) (shorted : Bool)
  | poweringEnd (port : Nat)
  | lineShort (port : Nat)
  | shortRetry (port : Nat)
  | lineForeign (port : Nat)
  | lowSupply (grp cV : Nat)
  | lowSupplyRecovery (grp cV : Nat)
  | lowLine (port cV : Nat)
  | lowLineClear (port cV : Nat)
  | tick (e : TickEnv)
  | loopOverrun (loop : Nat)
  | mastEvaluation
  | mastTimedCheck
  | ledgerSave
  | dryerEvaluation
  | dryerSaveRefresh
  | routeEvaluation
  | lockoutChange (dies : Nat)
  | lockoutRelease
  | lockoutDisagree (dies : Nat)
  | scanPlaneStep (conv : Nat)
  | conversionResult (r : ConvIn)
  | scanSwitchStuck (conv : Nat)
  | excOpen (ref : Nat)
  | excShort (ref : Nat)
  | excRetry (ref : Nat)
  | inputCommonMode (ref : Nat)
  | shuntOvercurrent (ref : Nat)
  | rangeClip (ref : Nat) (second : Bool)
  | channelStale (ref : Nat)
  | afeCalibration
  | aoShort (ch : Nat)
  | aoOpen (ch : Nat) (compliance : Bool)
  | dioInputChange (ch : Nat) (land : Bool)
  | dioOverload (ch mA : Nat)
  | dioThermal (ch mA : Nat)
  | dioRetry (ch : Nat) (hot : Bool)
  | dioGroupShed (grp mA : Nat)
  | dioReadbackHigh (ch : Nat)
  | dioExtSupplyEnd (ch : Nat)
  | dioOpenFlag (ch : Nat) (open_ : Bool)
  | dioSupplyLow (grp cV : Nat)
  | fuseModelStep (meanSq : List (Nat × Nat))
  | lampDutyUpdate (vbb : List Nat)
  | loadShort (ch : Nat) (hit : ClampIn)
  | loadThermal (ch mA : Nat)
  | loadRetry (ch : Nat) (hot : Bool)
  | loadReverse (ch mA : Nat)
  | loadExtSupply (ch : Nat) (high : Bool)
  | loadOpenFlag (ch : Nat) (open_ : Bool)
  | bankShed (bank cA : Nat)
  | moduleShedCheck (cA : List Nat)
  | bankHold (bank cV : Nat)
  | bankHoldExit (bank cV : Nat)
  | bankUndervoltage (bank cV : Nat)
  | bankRestart (bank cV : Nat)
  | channelRestartDelay (ch : Nat)
  | fanDutyUpdate
  | tachEdge (ch cycles : Nat)
  | tachTimeout (ch : Nat)
  | kickEnd (ch : Nat)
  | provingTimeout (ch : Nat)
  | retryWaitEnd (ch : Nat)
  | tachLoss (ch : Nat)
  | tachLossClear (ch : Nat)
  | pwmShort (ch : Nat)
  | fanTableUpdate (ch : Nat)
  | fullOnWatchdogExpiry
  | ttOccurrence (o : OccIn)
  | ttRecordWrite
  | ttTokenRefill (code : Nat)
  | vsupSag (cV : Nat)
  | vsupSagEnd (cV : Nat)
  | powerFail (cV : Nat)
  | vioLow (cV : Nat)
  | vioRecovery (cV : Nat)
  | xt25Fail
  | xt32Fail
  | crystalRecovery (xt25 : Bool)
  | optimeSave
  | coldStart (cV : Nat)
  | nrstAssert
  | lockstepMismatch
  | bosunWatchdog
  | adoption
  | keepWindowExpiry (die : Nat)
  | bosunRefresh
  | logicSilence (die : Nat)
  | scrubBlock (bad : List Nat)
  | domainHoist (domain : Nat)
  | domainFurl (domain : Nat)
  | pllStop (domain : Nat)
  | nrstRelease
  | sessionSilent (slot : Nat)
  | phaseSlotMark (phase : Nat)
  | enumerateExchange (port : Nat) (rx : EnumRx)
  | parallelTestPulse (ch : Nat) (fell : Bool)
  | dioRetrySeriesEnd (ch : Nat)
  | loadRetrySeriesEnd (ch : Nat)
deriving DecidableEq, Repr

end Sys2Proof
end

