-- ==== Sys2Proof/Machine/Bytes.lean ====
section
/-! DEFINITION. Little-endian fields (R7), signed fields, and the rounding and saturating helpers
that the layouts and laws share. -/
namespace Sys2Proof.Machine

/-- `n` bytes of `v`, least significant first (R7); higher bits are dropped. -/
def le : Nat → Nat → Bytes
  | 0, _ => []
  | n + 1, v => BitVec.ofNat 8 v :: le n (v / 256)

/-- `n` bytes of `v`, most significant first. -/
def be (n v : Nat) : Bytes := (le n v).reverse

/-- The number a run of bytes spells, least significant first. -/
def leNat : Bytes → Nat
  | [] => 0
  | b :: bs => b.toNat + 256 * leNat bs

/-- The number a run of bytes spells, most significant first. -/
def beNat (bs : Bytes) : Nat := leNat bs.reverse

/-- `n` bytes of a signed value in two's complement, least significant first. -/
def leInt (n : Nat) (v : Int) : Bytes := le n (v % (256 ^ n : Nat)).toNat

/-- The field of `n` bytes at offset `off`; bytes beyond the end read 0. -/
def fld (bs : Bytes) (off n : Nat) : Nat := leNat ((bs.drop off).take n)

/-- The `n` bytes at offset `off`. -/
def cut (bs : Bytes) (off n : Nat) : Bytes := (bs.drop off).take n

/-- `n` zero bytes: reserved fields (R8). -/
def zeros (n : Nat) : Bytes := List.replicate n 0#8

/-- Whether every byte is zero. -/
def allZero (bs : Bytes) : Bool := bs.all (· == 0#8)

/-- A value of `bits` bits read as two's complement. -/
def signed (bits v : Nat) : Int :=
  let w := v % 2 ^ bits
  if w < 2 ^ (bits - 1) then (w : Int) else (w : Int) - (2 ^ bits : Nat)

/-- The signed field of `n` bytes at offset `off`. -/
def sfld (bs : Bytes) (off n : Nat) : Int := signed (8 * n) (fld bs off n)

/-- Bits `[lo + n - 1 : lo]` of `v`. -/
def bits (v lo n : Nat) : Nat := (v / 2 ^ lo) % 2 ^ n

/-- Bit `i` of `v`. -/
def bit (v i : Nat) : Bool := v.testBit i

/-- A flag as a number. -/
def b2n (b : Bool) : Nat := if b then 1 else 0

/-- `data` written over `bs` at `off`; `bs` keeps its length. -/
def patch (bs : Bytes) (off : Nat) (data : Bytes) : Bytes :=
  bs.take off ++ (data.take (bs.length - off)) ++ bs.drop (off + data.length)

/-- `bs` cut or filled with zeros to `n` bytes. -/
def fit (n : Nat) (bs : Bytes) : Bytes := (bs ++ zeros (n - bs.length)).take n

/-- Replace element `i`, when there is one. -/
def setAt {α : Type} (l : List α) (i : Nat) (v : α) : List α := l.set i v

/-- `v` held within `lo` to `hi` (R10). -/
def clampI (lo hi v : Int) : Int := if v < lo then lo else if hi < v then hi else v

/-- A count that holds at `m`. -/
def satInc (m v : Nat) : Nat := if v < m then v + 1 else m

/-- `a / b` rounded to nearest, halves away from zero (R199); `b > 0`. -/
def divRound (a : Int) (b : Nat) : Int :=
  if 0 ≤ a then (2 * a + b) / (2 * b) else -((2 * (-a) + b) / (2 * b))

/-- A rational rounded to nearest, halves away from zero. -/
def ratRound (q : Rat) : Int :=
  if 0 ≤ q then (q + 1 / 2).floor else -((-q + 1 / 2).floor)

/-- Even-odd list folding: xor of two byte runs of one length. -/
def xorBytes : Bytes → Bytes → Bytes
  | a :: as, b :: bs => (a ^^^ b) :: xorBytes as bs
  | _, _ => []

end Sys2Proof.Machine
end

