-- ==== Sys2Proof/Config.lean ====
section
/-! DEFINITION. What an individual module fixes at manufacture, and the free values: values the
spec leaves open, each an opaque constant that no proof can evaluate. -/
namespace Sys2Proof.Config

/-- The free-value source: a 256-bit number for each count of `State.free` (log 8). Every value
drawn from it is open in the spec: DEVICE_NONCE (R63), signature nonces of RIG_SAVE (R127). -/
opaque freeBits : Nat → BitVec 256

/-- Which two bits a double-bit error leaves in error: the spec gives a damaged word no value (log 19). Arguments: 0 for a
journal entry, 1 for a Telltale record, 2 for a trend group or 3 for a capture buffer, and its number. -/
opaque badBits : Nat → Nat → BitVec 16

/-- DEVICE_ID, 64 bits, fixed at manufacture (R78; log 9). -/
opaque deviceId : BitVec 64

/-- The Maintainer key the module leaves manufacture with (R88: its value comes with the
commissioning record; log 9). -/
opaque maintainerKey : BitVec 256

/-- The MAC address given to Ethernet interface 0 to 2 at manufacture (R125; log 9). -/
opaque factoryMac : Nat → BitVec 48

/-- The private half of the module key, a P-256 scalar (R127; log 9). -/
opaque moduleKey : BitVec 256

/-- The Nirsote firmware key, x then y (R84; log 9). -/
opaque firmwareKeyX : BitVec 256
/-- The y coordinate of the Nirsote firmware key (R84; log 9). -/
opaque firmwareKeyY : BitVec 256

/-- FW_VERSION of the firmware the module leaves manufacture with (R392; log 9). -/
opaque firmwareVersion : BitVec 32
/-- SEC_VERSION of that firmware, and so the floor (R86, R392; log 9). -/
opaque firmwareSecVersion : BitVec 32

/-- How far the grain-curve result lies from the exact value of its form, in counts of 0.01 %: open
in the spec within the bound of R177 (log 14). Arguments: form, the three coefficients as binary32
bits, temperature and RH in counts. -/
opaque emcError : Nat → Nat → Nat → Nat → Int → Int → Int

/-- The grain-curve result where R177 states no bound (M_wb above 50 %), in counts (log 14). -/
opaque emcBeyondBound : Nat → Nat → Nat → Nat → Int → Int → Int

/-- How far a sensor-curve result lies from the exact value of its form, in counts: open within the
bound of R283 (log 15). Arguments: the curve slot's bytes, measured quantity as binary32 bits, cold-junction temperature in
centi-degrees. -/
opaque curveError : List (BitVec 8) → Nat → Int → Int

/-- AVG_MW of a domain's record (R374): the mean draw estimated from the hoisted time and the figures of R369; the spec
does not say which of the columns it takes (log 32). Arguments: domain, µs hoisted and µs since STATS_FROM. -/
opaque avgMw : Nat → Nat → Nat → BitVec 16

end Sys2Proof.Config
end

