-- ==== Sys2Proof/Machine/Tbl.lean ====
section
/-! DEFINITION. Sparse tables by number, and byte memories, in one canonical form: keys strictly
rising, and no entry equal to what an unlisted key reads as. -/
namespace Sys2Proof.Machine

/-- A sparse table: key and value pairs. What an unlisted key reads as is given at each read. -/
abbrev Tbl (α : Type) := List (Nat × α)

/-- Read key `k`; an unlisted key reads as `d`. -/
def Tbl.rd {α : Type} (d : α) : Tbl α → Nat → α
  | [], _ => d
  | (a, v) :: t, k => if a = k then v else Tbl.rd d t k

/-- Write `v` at key `k`, keeping the canonical form: writing `d` removes the entry. -/
def Tbl.wr {α : Type} [DecidableEq α] (d : α) : Tbl α → Nat → α → Tbl α
  | [], k, v => if v = d then [] else [(k, v)]
  | (a, w) :: t, k, v =>
    if k < a then (if v = d then (a, w) :: t else (k, v) :: (a, w) :: t)
    else if k = a then (if v = d then t else (k, v) :: t)
    else (a, w) :: Tbl.wr d t k v

/-- Every key of the table is above `lo`, keys rise strictly, no value is the default. -/
def Tbl.above {α : Type} [DecidableEq α] (d : α) : Option Nat → Tbl α → Bool
  | _, [] => true
  | lo, (a, v) :: t =>
    (match lo with | none => true | some l => decide (l < a)) && decide (v ≠ d) && Tbl.above d (some a) t

/-- The canonical form. -/
def Tbl.wf {α : Type} [DecidableEq α] (d : α) (m : Tbl α) : Bool := Tbl.above d none m

/-- Drop every entry whose key is below `k`. -/
def Tbl.dropBelow {α : Type} (k : Nat) : Tbl α → Tbl α
  | [] => []
  | (a, v) :: t => if a < k then Tbl.dropBelow k t else (a, v) :: t

/-- Every value changed by `f`; an entry that reaches the default is removed. -/
def Tbl.mapv {α : Type} [DecidableEq α] (d : α) (f : α → α) : Tbl α → Tbl α
  | [] => []
  | (a, v) :: t => if f v = d then Tbl.mapv d f t else (a, f v) :: Tbl.mapv d f t

/-- A byte memory: unlisted bytes read as 0 (log 18). -/
abbrev Memory := Tbl Byte

/-- A memory's canonical form. -/
abbrev Memory.wf (m : Memory) : Bool := Tbl.wf 0#8 m

/-- One byte of a memory. -/
def Memory.byte (m : Memory) (a : Nat) : Byte := Tbl.rd 0#8 m a

/-- `n` bytes from address `a`. -/
def Memory.read (m : Memory) (a : Nat) : Nat → Bytes
  | 0 => []
  | n + 1 => Memory.byte m a :: Memory.read m (a + 1) n

/-- Store bytes from address `a` upward. -/
def Memory.write (m : Memory) (a : Nat) : Bytes → Memory
  | [] => m
  | b :: bs => Memory.write (Tbl.wr 0#8 m a b) (a + 1) bs

end Sys2Proof.Machine
end

