-- ==== Sys2Proof/Machine/State.lean ====
section
/-! DEFINITION. The state of the block as plain data: every register, table, queue and counter the
spec gives the LX-100, grouped by subject, and the reset state. Each field's docstring names its
rule and its reset value; times are µs of powered time unless said otherwise. -/
namespace Sys2Proof.Machine

/-- No row of the table is without an effect in the spec, so no meaning faults; the type is kept for
the host's interface. -/
inductive Fault where
  /-- Raised by no meaning. Safe. -/
  | none
deriving DecidableEq, Repr

/-- Why a step may be refused. -/
inductive Refusal where
  /-- A row that has no meaning yet; raised by its arm of `exec` alone. Safe. -/
  | notModelled (mnemonic : String)
deriving DecidableEq, Repr

/-- What the module sends, as it leaves its transport (02). -/
inductive Frame where
  /-- One IPv4 packet of an interface, handed to the neighbour `hop` (R44 to R46): protocol 17 or 1, the offset of its
  bytes in the datagram's payload, whether more fragments follow, and the bytes. -/
  | ip (iface hop dstIp proto off : Nat) (more : Bool) (data : Bytes)
  /-- ARP reply (R44). -/
  | arp (iface ownIp : Nat) (ownMac : Bytes) (targetIp : Nat) (targetMac : Nat)
  /-- One CAN FD frame (R47, R48): identifier, bit rate switching, data field. -/
  | can (port ident : Nat) (brs : Bool) (data : Bytes)
  /-- One RS-485 frame (R51). -/
  | rs485 (port : Nat) (bytes : Bytes)
  /-- A packet placed in the SPI OUT buffer (R55). -/
  | spi (bytes : Bytes)
  /-- CONVERT on a Halyard port (R152). -/
  | convert (port : Nat) (bytes : Bytes)
  /-- The slot mark of a phase on a Halyard port (R155). -/
  | mark (port phase : Nat)
  /-- A SEARCH, IDENTIFY or ASSIGN frame on a Halyard port (R154). -/
  | enum (port : Nat) (bytes : Bytes)
deriving DecidableEq, Repr


/-! ## AON, supplies, start-up -/

/-- The AON domain and the device-area values that go with it. -/
structure Aon where
  /-- OPTIME in µs of powered time, 48 bits of ms (R15, R365, R367); reset 0 at manufacture (R15). -/
  nowUs : Nat
  /-- POWERCYCLE, 32 bits (R15, R377); reset DESIGN CHOICE 0 at manufacture (log 13). -/
  powercycle : Nat
  /-- OPTIME last written to the memory die, ms (R365); reset DESIGN CHOICE 0 (log 13). -/
  savedOptime : Nat
  /-- Whether a power failure wrote it (R365); reset DESIGN CHOICE false (log 13). -/
  savedAtFail : Bool
  /-- Time of the last write, µs, for the 60 s rhythm (R365); reset DESIGN CHOICE 0 (log 13). -/
  optimeSavedAt : Nat
  /-- Scrubber position, 13-bit block number (R421); reset DESIGN CHOICE 0 (log 13). -/
  scrubPos : Nat
  /-- Blocks left of the catch-up pass (R421); reset 0. -/
  scrubLeft : Nat
  /-- Time of the last scrubbed block, µs (R421); reset DESIGN CHOICE 0 (log 13). -/
  scrubAt : Nat
deriving DecidableEq, Repr

/-- What the module as a whole is doing (R376 to R390). -/
inductive Phase where
  /-- Cold reset, or unpowered: every output off (R26 row 1). -/
  | cold
  /-- The control die is restarting from a warm reset (R385 steps 1 to 5). -/
  | warm
  /-- Running. -/
  | run
deriving DecidableEq, Repr

/-- One clock domain (R31, R32, R374). -/
structure Domain where
  /-- Hoisted (R31); reset false, but AON. -/
  hoisted : Bool
  /-- PLL running (R32); reset false. -/
  pll : Bool
  /-- HOISTS, 32 bits wrapping (R374); reset 0. -/
  hoists : Nat
  /-- Time hoisted since STATS_FROM, µs, for HOISTED_MS (R374); reset 0. -/
  hoistedUs : Nat
  /-- LOCKS, 32 bits wrapping (R374); reset 0. -/
  locks : Nat
  /-- Time of the last hoist or furl, µs (R32); reset 0. -/
  at_ : Nat
  /-- Latest tick edge at which its work was pending, µs (R31); reset 0. -/
  workAt : Nat
deriving DecidableEq, Repr

/-- Supplies, crystals, power (chapter 17). Readings in 0.01 V. -/
structure Pwr where
  /-- Cold reset, warm restart or running (R376); reset cold. -/
  phase : Phase
  /-- VSUP reading, 16 bits (R374); reset DESIGN CHOICE 0 (log 13). -/
  vsup : Nat
  /-- VIO reading, 16 bits (R374); reset DESIGN CHOICE 0 (log 13). -/
  vio : Nat
  /-- VHAL0 to VHAL7, 16 bits each (R374); reset DESIGN CHOICE 0 (log 13). -/
  vhal : Tbl Nat
  /-- VDIO0 to VDIO3, 16 bits each (R374); reset DESIGN CHOICE 0 (log 13). -/
  vdio : Tbl Nat
  /-- VBB0 to VBB3, 16 bits each (R374); reset DESIGN CHOICE 0 (log 13). -/
  vbb : Tbl Nat
  /-- SUPPLY is SAG (R362, R374); reset false. -/
  sag : Bool
  /-- Time at which the present or latest SAG began, µs (R362); reset 0. -/
  sagAt : Nat
  /-- SAGS, 32 bits holding (R362, R374); reset 0. -/
  sags : Nat
  /-- VIO low, CLOCKS[2] (R363, R374); reset false. -/
  vioLow : Bool
  /-- XT25 failed, CLOCKS[0] (R368, R374); reset false. -/
  xt25Fail : Bool
  /-- XT32 failed, CLOCKS[1] (R368, R374); reset false. -/
  xt32Fail : Bool
  /-- CAP_MW in force, 16 bits, durable (R374, R375); reset 0. -/
  capMw : Nat
  /-- STATS_FROM, OPTIME in ms (R374); reset DESIGN CHOICE 0 (log 13), set at each start. -/
  statsFrom : Nat
  /-- What the latest tick edge saw of the Bosun's work and of the memory link's (R31); reset none. -/
  bsnSeen : List Nat
  nvmSeen : List Nat
  /-- The 14 domains AON to TRC in the order of R369; reset furled, AON hoisted. -/
  domains : Tbl Domain
  /-- Step 4 of a power failure completed since the last start (R362, R376); reset false. -/
  saveDone : Bool
  /-- nRST is held low (R378); reset false. -/
  nrstLow : Bool
  /-- PGOOD released (R378); reset false. -/
  pgood : Bool
  /-- Kind code the next cold start takes when a reset other than power loss caused it, 0 for none
  (R376); reset 0. -/
  coldKind : Nat
deriving DecidableEq, Repr

/-- A reset that a command asked for and that waits for its reply to leave (R391). -/
structure ResetReq where
  /-- Kind code of R376. -/
  kind : Nat
  /-- Port the reply leaves by. -/
  port : Nat
  /-- Time of DONE, µs. -/
  at_ : Nat
deriving DecidableEq, Repr

/-- Start-up and readiness (chapter 18). -/
structure Start where
  /-- READY bits 0 to 17 (R381); reset 0. -/
  ready : Nat
  /-- PORTS, 128 bits (R383); reset 0. -/
  ports : Nat
  /-- START_OPTIME, 48 bits (R383); reset DESIGN CHOICE 0 (log 13), set by each start. -/
  startOptime : Nat
  /-- START_JSEQ, 64 bits (R383); reset DESIGN CHOICE 0 (log 13), set by each start. -/
  startJseq : Nat
  /-- KIND of the present start, 8 bits (R383); reset DESIGN CHOICE 0 (log 13), set by each start. -/
  kind : Nat
  /-- KEEP, 2 bits (R393); reset DESIGN CHOICE 0 (log 13), set by each start. -/
  keep : Nat
  /-- WARM_RUN, 8 bits (R388, R392); reset 0. -/
  warmRun : Nat
  /-- WARM_RESETS, 32 bits (R392); reset 0. -/
  warmResets : Nat
  /-- CORRECTED_N, 16 bits (R392); reset 0. -/
  correctedN : Nat
  /-- CORRECTED, 352 bits (R392); reset 0. -/
  corrected : Nat
  /-- A reset waiting for its reply (R391); reset none. -/
  resetReq : Option ResetReq
  /-- READY as last reported by notice 0x8106 (R384); reset 0. -/
  seenReady : Nat
  /-- PORTS as last reported by notice 0x8106 (R384); reset 0. -/
  seenPorts : Nat
  /-- Time of the tick edge that first saw a change of READY or PORTS not yet reported, µs (R384); reset none. -/
  readyAt : Option Nat
  /-- Time of the last refresh the Bosun sent, µs (R30, R379); reset 0. -/
  refreshAt : Nat
  /-- A calibration of AFE began and has not ended (R272, R385 step 6); reset false. -/
  afeCalibrating : Bool
deriving DecidableEq, Repr

/-! ## Host ports -/

/-- A packet waiting to leave (R38, R53, R55). -/
structure OutPkt where
  /-- Session slot it belongs to, for the drop count; 0xFF for none. -/
  slot : Nat
  /-- SESSION_JSEQ of that session, 0 for none. -/
  sess : Nat
  /-- A notification, discarded when its session ends (R92). -/
  notice : Bool
  /-- Transport address it goes to (R37). -/
  addr : Nat
  /-- The packet. -/
  bytes : Bytes
deriving DecidableEq, Repr

/-- One host port's own state (02). -/
structure PortSt where
  /-- Link up (R40; ports without link state count as up); reset DESIGN CHOICE down for Ethernet
  (log 13). -/
  up : Bool
  /-- Queued outbound packets, oldest first (R38, R53, R55); reset empty. -/
  outQ : List OutPkt
  /-- Ethernet and CAN: the frames still to be sent of the packet being sent (R38, R46, R50); reset none. -/
  sending : List Frame
  /-- Frame errors counted (R52); reset 0. -/
  frameErrs : Nat
  /-- RS-485: a valid frame carrying the module's address opens a reply window (R53); reset false. -/
  window : Bool
  /-- RS-485: that window carries EMPTY, its packet having met a full region (R41); reset false. -/
  empty : Bool
deriving DecidableEq, Repr

/-- A fragment reassembly context (R46). -/
structure FragCtx where
  iface : Nat
  src : Nat
  dst : Nat
  ident : Nat
  /-- Arrival of the first fragment, µs. -/
  at_ : Nat
  /-- Offset and bytes of each fragment held. -/
  parts : List (Nat × Bytes)
  /-- Whole length, once the last fragment has come. -/
  total : Option Nat
deriving DecidableEq, Repr

/-- A CAN reassembly (R49). -/
structure CanCtx where
  port : Nat
  node : Nat
  /-- Next SEQ expected (R48). -/
  seq : Nat
  /-- PLEN of the first segment. -/
  plen : Nat
  got : Bytes
  /-- Arrival of the last segment, µs. -/
  at_ : Nat
deriving DecidableEq, Repr

/-- Host ports and their reassemblies. -/
structure Net where
  /-- The eight ports in the order of R100. -/
  ports : Tbl PortSt
  /-- At most 8 contexts per Ethernet interface, oldest first (R46); reset none. -/
  frags : List FragCtx
  /-- At most 16 reassemblies per CAN port (R49); reset none. -/
  can : List CanCtx
  /-- CAN ports in bus-off (R50); reset none. -/
  busOff : List Nat
  /-- Interface and time of the ICMP replies of the last second (R44); reset none. -/
  icmp : List (Nat × Nat)
  /-- Host port descriptors that stand until the reply of the commit that changes them has been sent (R138); reset none. -/
  held : Tbl (Option Bytes)
  /-- JSEQ of that commit (R138); reset 0. -/
  heldBy : Nat
deriving DecidableEq, Repr

/-- The SPI mailbox (R54). MB_ID is constant; IN_FREE, OUT_VALID and ERR of +4 are kept here. -/
structure Spi where
  /-- IN_FREE, 1 bit (R54); reset 1. -/
  inFree : Bool
  /-- OUT_VALID, 1 bit (R54); reset 0. -/
  outValid : Bool
  /-- OUT_LEN, 16 bits (R54); reset 0. -/
  outLen : Nat
  /-- IN_LEN, 14 bits (R54); reset 0. -/
  inLen : Nat
  /-- IRQ_MASK, 3 bits (R54); reset 0. -/
  irqMask : Nat
  /-- IRQ_STATUS, 3 bits (R54); reset 0. -/
  irqStatus : Nat
  /-- ERR_COUNT, 32 bits holding (R54); reset 0. -/
  errCount : Nat
  /-- IN buffer, 8,232 bytes by offset (R54); reset DESIGN CHOICE bytes read 0 (log 18). -/
  inBuf : Memory
  /-- OUT buffer, 8,232 bytes by offset (R54); reset DESIGN CHOICE bytes read 0 (log 18). -/
  outBuf : Memory
deriving DecidableEq, Repr

/-! ## Sessions, queue, journal -/

/-- A pending HELLO context (R63). -/
structure HelloCtx where
  hostNonce : Bytes
  devNonce : Bytes
  /-- Time of the HELLO, µs. -/
  at_ : Nat
deriving DecidableEq, Repr

/-- Authentication (03, 04 R88). -/
structure Auth where
  /-- Pending contexts, oldest first, at most 8 (R63); reset none. -/
  ctxs : List HelloCtx
  /-- HELLO bucket in millionths of a token, at most 100 tokens (R63); reset full. -/
  tok : Nat
  /-- Time the bucket was last brought up to date, µs; reset 0. -/
  tokAt : Nat
  /-- Role keys 1 to 4 as 256-bit numbers, most significant byte first; unset = none (R88); reset:
  Maintainer set to a device constant (log 9, log 10), the others unset. -/
  keys : Tbl (Option Nat)
deriving DecidableEq, Repr

/-- Quotas (R103). -/
structure Quota where
  rate : Nat
  queue : Nat
  capture : Nat
  trend : Nat
  cursor : Nat
deriving DecidableEq, Repr

/-- A resend that waits for its command's own reply (R67). -/
structure Waiter where
  tag : Nat
  opcode : Nat
  port : Nat
  addr : Nat
deriving DecidableEq, Repr

/-- Why and how a session marked to end will end (R92, R93, R99). -/
structure Ending where
  /-- SESSION_END reason: 1 EXPIRED, 2 EVICTED, 3 TAKEN_OVER; 0 for BYE. -/
  reason : Nat
  /-- Objects orphaned (true) or released. -/
  orphan : Bool
  /-- JSEQ of the BYE or ROLE_SET entry; 0 when SESSION_END records it. -/
  jseq : Nat
deriving DecidableEq, Repr

/-- A journal entry as fields (R109, R110). `kind` 2 is a continuation. -/
structure JEntry where
  kind : Nat
  jseq : Nat
  optime : Nat
  sess : Nat
  tag : Nat
  powercycle : Nat
  opcode : Nat
  slot : Nat
  state : Nat
  role : Nat
  status : Nat
  items : Nat
  cont : Nat
  reason : Nat
  pdigest : Bytes
  /-- The outcomes held: 24 words at most in a main entry, 42 in a continuation. -/
  outcomes : List Nat
  /-- Continuation: PARENT. -/
  parent : Nat
  /-- Continuation: FIRST_ITEM. -/
  first : Nat
  /-- START and continuations and device entries aside, whether the command is multi-item. -/
  multi : Bool
deriving DecidableEq, Repr

/-- One session slot. -/
structure Sess where
  /-- Live (R63); reset false. -/
  live : Bool
  /-- ROLE, 1 to 4 (R87); reset 0. -/
  role : Nat
  /-- SESSION_JSEQ, 64 bits (R63); reset 0. -/
  jseq : Nat
  /-- K_S, 32 bytes (R62); reset empty. -/
  ks : Bytes
  /-- Highest admitted tag, 64 bits (R66); reset 0. -/
  highTag : Nat
  /-- Notice sequence number of the last notification (R75); reset 0. -/
  notice : Nat
  /-- DROPS, 32 bits holding (R79); reset 0. -/
  drops : Nat
  /-- SUBSCRIBE mask, 6 bits (R83); reset 0. -/
  mask : Nat
  /-- Return path: port (R37); reset 0. -/
  port : Nat
  /-- Return path: address (R37); reset 0. -/
  addr : Nat
  /-- Time last heard, µs (R91); reset 0. -/
  heardAt : Nat
  /-- Silent mark (R90, R91); reset false. -/
  silent : Bool
  /-- Quotas in force (R103); reset 0. -/
  quota : Quota
  /-- Rate bucket in millionths of a token (R104); reset 0. -/
  tok : Nat
  /-- Time the bucket was last brought up to date, µs; reset 0. -/
  tokAt : Nat
  /-- Families selected by NOTIFY, 16 bits (R353); reset 0. -/
  fams : Nat
  /-- Resends waiting for a pending command (R67); reset none. -/
  waiters : List Waiter
  /-- Marked to end when its admitted commands have replied (R92); reset none. -/
  ending : Option Ending
  /-- Its newest 1,024 journal entries in the working tail, oldest first: the duplicate window (R112); reset none. -/
  tail : List JEntry
deriving DecidableEq, Repr

/-- An admitted command (R100). -/
structure Cmd where
  jseq : Nat
  slot : Nat
  /-- SESSION_JSEQ. -/
  sess : Nat
  role : Nat
  op : Nat
  tag : Nat
  payload : Bytes
  port : Nat
  addr : Nat
  /-- Arrival, µs (R100). -/
  at_ : Nat
  /-- Hold errors its own row said it meets (R21). -/
  ecc : List HoldEcc
deriving DecidableEq, Repr

/-- The command queue and module-wide host state (04). -/
structure HostSt where
  /-- Admitted commands not yet started, in JSEQ order (R100); reset empty. -/
  queue : List Cmd
  /-- Deferred commands at work (R101); reset empty. -/
  running : List Cmd
  /-- Aggregate bucket in millionths of a token, at most 1,000 tokens (R104); reset DESIGN CHOICE
  full (log 13). -/
  aggTok : Nat
  /-- Time the bucket was last brought up to date, µs; reset 0. -/
  aggAt : Nat
  /-- Quota defaults, durable (R103, R106); reset 2,000, 64, 4, 20, 1. -/
  defQuota : Quota
  /-- Host silence holds (R94); reset false. -/
  silence : Bool
  /-- Time the host-silence count runs from, µs (R94); reset 0. -/
  opHeard : Nat
deriving DecidableEq, Repr

/-- The journal (R108 to R115). -/
structure Jrnl where
  /-- Newest JSEQ, 64 bits (R114); reset 0, since JSEQ counts from 1 at manufacture. -/
  head : Nat
  /-- The ring by JSEQ, 65,536 entries at most (R35, R109, R110); reset empty. -/
  ring : Tbl JEntry
  /-- Entries that hold a word with a double-bit error (R113, R115, R421); reset none. -/
  bad : List Nat
deriving DecidableEq, Repr

/-- Ownership record of one ownable object (R96, R116, R424). -/
structure Own where
  /-- VERSION, 32 bits (R116); reset 0. -/
  version : Nat
  /-- OWN: 0 Unowned, 1 Owned, 2 Orphaned (R116); reset 0. -/
  own : Nat
  /-- OWNER_ROLE (R116); reset 0. -/
  role : Nat
  /-- OWNER, a SESSION_JSEQ (R116); reset 0. -/
  owner : Nat
  /-- LAST_JSEQ, 64 bits (R116); reset 0. -/
  last : Nat
  /-- OPTIME, ms, of the entry that orphaned the object (R424); reset 0. -/
  orphanMs : Nat
deriving DecidableEq, Repr

/-! ## Firmware -/

/-- An open firmware update (R85). -/
structure FwUpd where
  slot : Nat
  /-- SESSION_JSEQ of the holder. -/
  sess : Nat
  /-- LENGTH of BEGIN. -/
  length : Nat
  /-- Bytes received so far. -/
  got : Nat
  /-- Time of the last step, µs. -/
  at_ : Nat
  /-- END returned OK. -/
  endOk : Bool
deriving DecidableEq, Repr

/-- One firmware slot of 896 KiB (R84). `factory`: it holds the image it left manufacture with. -/
structure FwSlot where
  factory : Bool
  mem : Memory
  /-- A word of it has a double-bit error (R421). -/
  bad : Bool
deriving DecidableEq, Repr

/-- Firmware slots and update. -/
structure Fw where
  /-- The open update (R85); reset none. -/
  upd : Option FwUpd
  /-- Slot 0; reset the factory image (R423). -/
  slot0 : FwSlot
  /-- Slot 1; reset DESIGN CHOICE bytes read 0 (log 18). -/
  slot1 : FwSlot
  /-- FW_SLOT, the running slot (R392); reset 0 (R423). -/
  running : Nat
  /-- The slot marked for the next start (R85, R86); reset 0 (R423). -/
  marked : Nat
  /-- FW_VERSION of the running firmware, 32 bits (R392); reset a device constant (log 9). -/
  version : Nat
  /-- SEC_FLOOR, 32 bits (R86, R392); reset a device constant (log 9). -/
  floor : Nat
deriving DecidableEq, Repr

/-! ## Rig -/

/-- A delta record (R120): the item that wrote it and the bytes. -/
structure Delta where
  jseq : Nat
  item : Nat
  /-- Descriptor key: DTYPE × 2²⁴ + INDEX. -/
  key : Nat
  off : Nat
  bytes : Bytes
deriving DecidableEq, Repr

/-- State of a rig bank (R119, R144): 0 EMPTY, 1 UPLOADING, 2 VALID, 3 INVALID. -/
structure Bank where
  st : Nat
  /-- The bank's bytes by offset (R119); unwritten bytes read 0 (R130). -/
  mem : Memory
  /-- A word of it has a double-bit error (R421). -/
  bad : Bool
deriving DecidableEq, Repr

/-- A staged field of an open transaction (R129, R130). -/
structure Staged where
  key : Nat
  off : Nat
  bytes : Bytes
  /-- JSEQ and item of the RIG_PUT. -/
  item : Nat
deriving DecidableEq, Repr

/-- The rig transaction (R128 to R134). -/
structure Txn where
  slot : Nat
  /-- SESSION_JSEQ of the holder. -/
  sess : Nat
  /-- MODE: 0 FIELDS, 1 UPLOAD, 2 LOAD. -/
  mode : Nat
  bank : Nat
  length : Nat
  staged : List Staged
  /-- The staged fields as the RIG_COMMIT at work took them (R132). -/
  commitSet : List Staged
  /-- Time of the session's last rig opcode, µs. -/
  at_ : Nat
  /-- DONE and waiting for T_act (R133). -/
  waiting : Bool
  /-- JSEQ of the RIG_COMMIT. -/
  commit : Nat
  /-- Time of DONE, µs. -/
  doneAt : Nat
  /-- T_act is a scan-cycle start (R133). -/
  scan : Bool
  /-- The live rig that T_act brings (LOAD: the image's descriptors). -/
  image : Tbl Bytes
deriving DecidableEq, Repr

/-- The rig (05). -/
structure Rig where
  /-- Live descriptors by key; an unlisted descriptor has its reset values (R120, R122, R123);
  reset: the bare rig (R142, R143). -/
  live : Tbl Bytes
  /-- Delta records in order, at most 4,096 (R119, R120); reset empty (R143). -/
  delta : List Delta
  /-- Bank A (R119); reset EMPTY (R143). -/
  bankA : Bank
  /-- Bank B (R119); reset EMPTY (R143). -/
  bankB : Bank
  /-- BASE: 0 A, 1 B, 0xFF bare rig (R143, R144); reset 0xFF. -/
  base : Nat
  /-- NEXT, coded as BASE (R143, R144); reset 0xFF. -/
  next : Nat
  /-- RIG_VERSION, 32 bits (R133, R143); reset 0. -/
  version : Nat
  /-- The transaction, open or awaiting its boundary (R128); reset none. -/
  txn : Option Txn
  /-- Delta records that the image of a RIG_SAVE at work holds (R139); reset none. -/
  imaged : List Delta
  /-- A change that was DONE and not activated when a reset came: its commit and the keys of the descriptors it changes
  (R135, R425); reset none. -/
  pendingDone : Option (Nat × List Nat)
deriving DecidableEq, Repr

/-! ## Telltale -/

/-- A Telltale record (R343); its CRC is formed when it is read. -/
structure TRec where
  optime : Nat
  powercycle : Nat
  code : Nat
  source : Nat
  repeat_ : Nat
  data : Bytes
  /-- A double-bit error has left the record damaged (R21, R344). -/
  damaged : Bool
deriving DecidableEq, Repr

/-- An occurrence on its way to a record (R347). -/
structure TOcc where
  optime : Nat
  powercycle : Nat
  code : Nat
  source : Nat
  data : Bytes
deriving DecidableEq, Repr

/-- The bucket of a code (R349, R350). Tokens held are BURST less `spent`. -/
structure Bucket where
  /-- Tokens below BURST; reset 0 (full at every cold start). -/
  spent : Nat
  /-- SUPP, 32 bits (R349, R352); reset 0. -/
  supp : Nat
  /-- OPTIME of the first suppressed occurrence, ms; reset 0. -/
  firstAt : Nat
  /-- SOURCE of the latest suppressed occurrence; reset 0. -/
  source : Nat
  /-- Time the running refill period began, µs (R349); reset 0. -/
  refillAt : Nat
  /-- A token is held for a summary that found the FIFO full: OPTIME of the gain, ms (R350); reset none. -/
  heldAt : Option Nat
deriving DecidableEq, Repr

/-- Limits of a code (R349, R352). -/
structure Limits where
  burst : Nat
  refillMs : Nat
deriving DecidableEq, Repr

/-- A cursor (R353, R355). -/
structure Cursor where
  /-- SESSION_JSEQ of the session that holds it, 0 when free; reset 0. -/
  sess : Nat
  /-- Next RNUM to read; reset 0. -/
  pos : Nat
  /-- Pinned span: first RNUM and COUNT; reset none. -/
  pin : Option (Nat × Nat)
  /-- Marked lost (R355); reset false. -/
  lost : Bool
deriving DecidableEq, Repr

/-- The Telltale (16). -/
structure Telltale where
  /-- Next RNUM, 64 bits (R342); reset 1. -/
  next : Nat
  /-- OLDEST, 64 bits (R342); reset 1. -/
  oldest : Nat
  /-- Records by RNUM, 65,536 at most (R342); reset empty. -/
  ring : Tbl TRec
  /-- Intake FIFO, 64 entries at most (R347); reset empty. -/
  fifo : List TOcc
  /-- LOST, 32 bits holding (R348); reset 0. -/
  lost : Nat
  /-- CODE of the first occurrence lost (R348); reset 0. -/
  lostCode : Nat
  /-- OPTIME of the first loss, ms (R348); reset 0. -/
  lostAt : Nat
  /-- Warm-reset stores of port die, power die 0, power die 1, 32 entries each (R347); reset empty. -/
  stores : Tbl (List TOcc)
  /-- Buckets by code (R349); reset full. -/
  buckets : Tbl Bucket
  /-- Limits by code, durable; unlisted codes have the defaults of R349. -/
  limits : Tbl Limits
  /-- LX-20 mode, durable (R351, R352); reset false. -/
  lx20 : Bool
  /-- Cursors 0 to 7 (R353); reset free. -/
  cursors : Tbl Cursor
  /-- OFFSET of wall time, 64-bit signed ms (R358); reset none. -/
  offset : Option Int
  /-- Stamp of the newest FIFO entry, ms, below which no later stamp falls (R347); reset 0. -/
  stamp : Nat
deriving DecidableEq, Repr

/-- Domain default: furled, counters 0. -/
def Domain.dflt : Domain := { hoisted := false, pll := false, hoists := 0, hoistedUs := 0, locks := 0, at_ := 0, workAt := 0 }
/-- Host port default: link without state up, nothing queued. -/
def PortSt.dflt : PortSt := { up := true, outQ := [], sending := [], frameErrs := 0, window := false, empty := false }
/-- Quota of an unused slot. -/
def Quota.zero : Quota := { rate := 0, queue := 0, capture := 0, trend := 0, cursor := 0 }
/-- The defaults of R103. -/
def Quota.std : Quota := { rate := 2000, queue := 64, capture := 4, trend := 20, cursor := 1 }
/-- An entry that no JSEQ below the head's ring holds. -/
def JEntry.dflt : JEntry :=
  { kind := 0, jseq := 0, optime := 0, sess := 0, tag := 0, powercycle := 0, opcode := 0, slot := 0,
    state := 0, role := 0, status := 0, items := 0, cont := 0, reason := 0, pdigest := [],
    outcomes := [], parent := 0, first := 0, multi := false }
/-- A free session slot. -/
def Sess.dflt : Sess :=
  { live := false, role := 0, jseq := 0, ks := [], highTag := 0, notice := 0, drops := 0, mask := 0,
    port := 0, addr := 0, heardAt := 0, silent := false, quota := Quota.zero, tok := 0, tokAt := 0,
    fams := 0, waiters := [], ending := none, tail := [] }
/-- Unowned, never changed (R116). -/
def Own.dflt : Own := { version := 0, own := 0, role := 0, owner := 0, last := 0, orphanMs := 0 }
/-- A full bucket (R349). -/
def Bucket.dflt : Bucket := { spent := 0, supp := 0, firstAt := 0, source := 0, refillAt := 0, heldAt := none }
/-- A free cursor. -/
def Cursor.dflt : Cursor := { sess := 0, pos := 0, pin := none, lost := false }
/-- A record number that is not in the ring. -/
def TRec.dflt : TRec :=
  { optime := 0, powercycle := 0, code := 0, source := 0, repeat_ := 0, data := [], damaged := false }
/-- The limits of R349: BURST 8, REFILL_MS 1,000, and 60,000 for ECC_CORRECTED. -/
def Limits.dflt (code : Nat) : Limits :=
  { burst := 8, refillMs := if code = 0x0D41 then 60000 else 1000 }

/-- AON at manufacture. -/
def Aon.reset : Aon :=
  { nowUs := 0, powercycle := 0, savedOptime := 0, savedAtFail := false, optimeSavedAt := 0,
    scrubPos := 0, scrubLeft := 0, scrubAt := 0 }
/-- Supplies and domains at manufacture, in cold reset. -/
def Pwr.reset : Pwr :=
  { phase := .cold, vsup := 0, vio := 0, vhal := [], vdio := [], vbb := [], sag := false, sagAt := 0, sags := 0,
    vioLow := false, xt25Fail := false, xt32Fail := false, capMw := 0, statsFrom := 0,
    domains := [(0, { Domain.dflt with hoisted := true })], bsnSeen := [], nvmSeen := [], saveDone := false, nrstLow := false,
    pgood := false, coldKind := 0 }
/-- Start-up state before the first start. -/
def Start.reset : Start :=
  { ready := 0, ports := 0, startOptime := 0, startJseq := 0, kind := 0, keep := 0, warmRun := 0,
    warmResets := 0, correctedN := 0, corrected := 0, resetReq := none, seenReady := 0, seenPorts := 0,
    readyAt := none, refreshAt := 0, afeCalibrating := false }
/-- Host ports: Ethernet links down. -/
def Net.reset : Net :=
  { ports := [(0, { PortSt.dflt with up := false }), (1, { PortSt.dflt with up := false }),
      (2, { PortSt.dflt with up := false })],
    frags := [], can := [], busOff := [], icmp := [], held := [], heldBy := 0 }
/-- The mailbox at its reset values (R54). -/
def Spi.reset : Spi :=
  { inFree := true, outValid := false, outLen := 0, inLen := 0, irqMask := 0, irqStatus := 0,
    errCount := 0, inBuf := [], outBuf := [] }
/-- Authentication at manufacture: the Maintainer key alone is set (R88). -/
def Auth.reset : Auth :=
  { ctxs := [], tok := 100000000, tokAt := 0, keys := [(4, some Config.maintainerKey.toNat)] }
/-- Host state at manufacture. -/
def HostSt.reset : HostSt :=
  { queue := [], running := [], aggTok := 1000000000, aggAt := 0, defQuota := Quota.std,
    silence := false, opHeard := 0 }
/-- The journal at manufacture: empty. -/
def Jrnl.reset : Jrnl := { head := 0, ring := [], bad := [] }
/-- Firmware at manufacture: slot 0 runs (R423). -/
def Fw.reset : Fw :=
  { upd := none, slot0 := { factory := true, mem := [], bad := false },
    slot1 := { factory := false, mem := [], bad := false }, running := 0, marked := 0,
    version := Config.firmwareVersion.toNat, floor := Config.firmwareSecVersion.toNat }
/-- An EMPTY bank. -/
def Bank.empty : Bank := { st := 0, mem := [], bad := false }
/-- The Telltale, empty (R342). -/
def Telltale.reset : Telltale :=
  { next := 1, oldest := 1, ring := [], fifo := [], lost := 0, lostCode := 0, lostAt := 0, stores := [],
    buckets := [], limits := [], lx20 := false, cursors := [], offset := none, stamp := 0 }

/-! ## Halyard ports -/

/-- LINE_STATE (R158), in the order of its codes. -/
inductive LineSt where
  | off | powering | ok | short | open_ | foreign | lowSupply | enumerating
deriving DecidableEq, Repr

/-- The summary of an enumeration (R158); every count 16 bits but DURATION, 32. -/
structure EnumSum where
  found : Nat
  assigned : Nat
  parked : Nat
  missing : Nat
  unmapped : Nat
  conflict : Nat
  searches : Nat
  durationMs : Nat
deriving DecidableEq, Repr

/-- An enumeration record (R158). -/
structure EnumRec where
  ident : Nat
  before : Nat
  after : Nat
  result : Nat
  verify : Nat
deriving DecidableEq, Repr

/-- What a run waits for (R159). -/
inductive EnumWait where
  /-- The windows of SEARCH with this prefix of nibbles. -/
  | search (pfx : List Nat)
  /-- The reply of IDENTIFY with this prefix, first or second try. -/
  | identify (pfx : List Nat) (again : Bool)
  /-- The acknowledgement of ASSIGN of `want` to the identity whose record is last, first or second
  try, and, between the tries, the reply of IDENTIFY. -/
  | assign (ident want : Nat) (again : Bool)
  | reidentify (ident want : Nat)
  /-- The 50 ms after the switch-on of a line that was off. -/
  | power
  /-- The verification cycle, or nothing: the search is over. -/
  | ended
deriving DecidableEq, Repr

/-- A running enumeration (R159). -/
structure EnumRun where
  /-- MODE 1 ASSIGN. -/
  assign : Bool
  startUs : Nat
  stack : List (List Nat)
  /-- Windows of the last SEARCH still to be handled: prefix followed by nibble, and class. -/
  windows : List (List Nat × Nat)
  wait : EnumWait
deriving DecidableEq, Repr

/-- One Halyard port (06). -/
structure HalPort where
  /-- LINE_STATE (R158, R162), as it is but for a run in progress, which reads ENUMERATING; reset OFF. -/
  line : LineSt
  /-- The 2 ms probe of a switch-on is on (R147); reset false. -/
  probing : Bool
  /-- LOW_LINE flag (R162); reset 0. -/
  lowLine : Bool
  /-- NOISY flag (R162); reset 0. -/
  noisy : Bool
  /-- COLLIDE in the last cycle (R158); reset 0. -/
  collide : Bool
  /-- LINE_CURRENT, 16 bits, 0.1 mA (R158); reset DESIGN CHOICE 0 (log 13). -/
  dmA : Nat
  /-- LINE_VOLTAGE, 16 bits, 0.01 V (R158); reset DESIGN CHOICE 0 (log 13). -/
  cV : Nat
  /-- STRAY count (R156); reset 0. -/
  stray : Nat
  /-- Slots of this cycle classed CRC or CODE (R162); reset 0. -/
  badSlots : Nat
  /-- A slot of this cycle had a class other than MISSING (R162); reset false. -/
  heard : Bool
  /-- A slot of this cycle was COLLIDE (R158); reset false. -/
  collideNow : Bool
  /-- The port takes part in the present cycle (R155, R156); reset false. -/
  taking : Bool
  /-- Next slot of the cycle to end, phase × 256 + slot (R155); reset 0. -/
  slotPos : Nat
  /-- Retries since the line was last OK (R162); reset 0. -/
  retries : Nat
  /-- Time of the last switch-on or switch-off, µs (R147, R162); reset 0. -/
  since : Nat
  /-- INTAKE_LOST, 32 bits (R190); reset 0. -/
  intakeLost : Nat
  /-- The state that LOW_SUPPLY covers and that its end returns to (R162); reset OFF. -/
  under : LineSt
  /-- An accepted PORT_ENUMERATE waits for its start: MODE 1 or not (R159); reset none. -/
  asked : Option Bool
  /-- The run in progress (R159); reset none. -/
  run : Option EnumRun
  /-- Summary of the last enumeration (R158); reset 0. -/
  sum : EnumSum
  /-- Records of the last enumeration, at most 2,048 (R158); reset none. -/
  recs : List EnumRec
deriving DecidableEq, Repr

/-- No enumeration yet (R158). -/
def EnumSum.zero : EnumSum :=
  { found := 0, assigned := 0, parked := 0, missing := 0, unmapped := 0, conflict := 0, searches := 0,
    durationMs := 0 }
/-- A port that is off. -/
def HalPort.dflt : HalPort :=
  { line := .off, probing := false, lowLine := false, noisy := false, collide := false, dmA := 0, cV := 0, stray := 0,
    badSlots := 0, heard := false, collideNow := false, taking := false, slotPos := 0, retries := 0,
    since := 0, intakeLost := 0, under := .off, asked := none, run := none, sum := EnumSum.zero, recs := [] }

/-! ## Points, fronts, trends (07) -/

/-- A point entry (R173). TEMP is −32,768 and RH and EMC are 0xFFFF for no value. -/
structure PointE where
  /-- TEMP, 16 bits signed; reset 0x8000. -/
  temp : Int
  /-- RH, 16 bits; reset 0xFFFF. -/
  rh : Nat
  /-- EMC, 16 bits; reset 0xFFFF. -/
  emc : Nat
  /-- QUAL, 3 bits; reset 0. -/
  qual : Nat
  /-- OVER_RANGE; reset 0. -/
  overR : Bool
  /-- EMC_VALID; reset 0. -/
  emcValid : Bool
  /-- EMC_CLAMPED; reset 0. -/
  emcClamp : Bool
  /-- THSTATE, 2 bits; reset 0. -/
  thState : Nat
  /-- THCOUNT, 4 bits; reset 0. -/
  thCount : Nat
  /-- CYCLE, 32 bits; reset 0. -/
  cycle : Nat
  /-- AGE, 16 bits; reset 0. -/
  age : Nat
  /-- CLASS, 3 bits; reset 0. -/
  cls : Nat
  /-- PSTATUS, 6 bits; reset 0. -/
  pstatus : Nat
deriving DecidableEq, Repr

/-- An intake record (R171). -/
structure Intake where
  point : Nat
  cls : Nat
  temp : Int
  rh : Nat
  cycle : Nat
  status : Nat
deriving DecidableEq, Repr

/-- A notifiable threshold change (R180). -/
structure ThChange where
  point : Nat
  old : Nat
  new : Nat
  q : Int
  qual : Nat
deriving DecidableEq, Repr

/-- A front entry (R184) with its tracker (R183). -/
structure FrontE where
  /-- STATE, 2 bits; reset 0. -/
  state : Nat
  /-- SPEED_VALID; reset 0. -/
  speedValid : Bool
  /-- BRANCH_OPEN; reset 0. -/
  branchOpen : Bool
  /-- COOLING; reset 0. -/
  cooling : Bool
  /-- USED, 16 bits; reset 0. -/
  used : Nat
  /-- POSITION, 16 bits; reset 0xFFFF. -/
  position : Nat
  /-- SPEED, 16 bits signed; reset 0. -/
  speed : Int
  /-- GRADIENT, 16 bits signed; reset 0. -/
  gradient : Int
  /-- REMAIN, 16 bits; reset 0xFFFF. -/
  remain : Nat
  /-- CYCLE, 32 bits; reset 0. -/
  cycle : Nat
  /-- Q_FIRST, 16 bits signed; reset 0. -/
  qFirst : Int
  /-- Q_LAST, 16 bits signed; reset 0. -/
  qLast : Int
  /-- Q_MEAN, 16 bits signed; reset 0. -/
  qMean : Int
  /-- Q_MAX, 16 bits signed; reset 0. -/
  qMax : Int
  /-- HOT, 16 bits; reset 0. -/
  hot : Nat
  /-- Speed filter in 1/256 mm/h (R183); reset 0. -/
  filt : Int
  /-- Cycle start of the previous update, µs (R183); reset 0. -/
  prevUs : Nat
  /-- The previous update exists and was IN_COLUMN (R183, R185); reset false. -/
  prevIn : Bool
deriving DecidableEq, Repr

/-- The scan engine (R171, R188 to R190). -/
structure Scan where
  /-- Scan cycle number, 32 bits (R171); reset 0 before the first cycle of a start. -/
  cycle : Nat
  /-- CYCLE of the schedule on the ports, 32 bits: it outlives a warm reset (R155, R163); reset 0. -/
  portCycle : Nat
  /-- A cycle's schedule is in progress (R155); reset false. -/
  active : Bool
  /-- Start of the present or last cycle, µs (R155); reset 0. -/
  startUs : Nat
  /-- OPTIME of that start, ms (R187); reset 0. -/
  startMs : Nat
  /-- A cycle start is asked for by SCAN_SET ACTION 1 (R189); reset false. -/
  extra : Bool
  /-- Scanning was started from stopped, and its first cycle is still to begin (R188); reset false. -/
  begun : Bool
  /-- Descriptors of points, cables and curve slots as the cycle in progress takes them, by key, where the live rig has
  changed since its start (R29, R138); reset none. -/
  old : Tbl (Option Bytes)
  /-- Time a change of the period was made, µs, for a start that has already passed (R188); reset 0. -/
  changedAt : Nat
  /-- Intake FIFO, 512 records at most (R190); reset empty. -/
  intake : List Intake
  /-- Port record registers, 2 records at most per port (R190); reset empty. -/
  regs : Tbl (List Intake)
  /-- Records discarded because their CYCLE was not the current cycle (R172); reset 0. -/
  discarded : Nat
  /-- Phases whose marks have been sent (R155); reset 0. -/
  marks : Nat
  /-- Front job queue, 256 at most (R185); reset empty. -/
  jobs : List Nat
  /-- Threshold changes of the present phase, 1,024 at most (R180, R190); reset empty. -/
  thr : List ThChange
  /-- Changes of the phase beyond the list (R180); reset 0. -/
  shed : Nat
  /-- The fronts of the present cycle are complete (R185); reset false. -/
  frontsDone : Bool
  /-- Time at which the fronts of the last completed cycle were complete, µs (R185, R228); reset none. -/
  doneUs : Option Nat
  /-- Cycle and OPTIME of a cycle whose trend groups are still to be taken (R193); reset none. -/
  snap : Option (Nat × Nat)
  /-- Phases whose threshold notices have been sent (R180); reset 0. -/
  noticed : Nat
  /-- Earliest time of the first cycle of this start, µs (R380 step 11); reset 0. -/
  firstAt : Nat
  /-- Mast evaluation of the present cycle has been made (R231); reset false. -/
  mastDone : Bool
deriving DecidableEq, Repr

/-- A trend sample group (R191). -/
structure TGroup where
  seq : Nat
  cycle : Nat
  optime : Nat
  gap : Bool
  samples : Bytes
  /-- A double-bit error has left the group damaged (R21); reset false. -/
  damaged : Bool
deriving DecidableEq, Repr

/-- A trend stream (R191 to R193). -/
structure Stream where
  /-- SESSION_JSEQ of the session that opened it; 0 for none. -/
  sess : Nat
  fronts : Bool
  first : Nat
  count : Nat
  every : Nat
  units : Nat
  spill : Bool
  /-- Next SEQ. -/
  seq : Nat
  /-- Cycle of the OPEN; groups come from the cycles after it. -/
  openCycle : Nat
  /-- Groups in the Hold ring, oldest first. -/
  hold : List TGroup
  /-- Groups in the spill ring, oldest first. -/
  spilled : List TGroup
  /-- Bytes moved to spill. -/
  spilledTo : Nat
  /-- LOST, 32 bits. -/
  lost : Nat
  /-- The next group carries GAP. -/
  gap : Bool
  /-- The 64 KiB units of trend memory that make its Hold ring, in the ring's order (log 64); reset none. -/
  unitsAt : List Nat
deriving DecidableEq, Repr

/-- A front log record (R194). -/
structure FLog where
  optime : Nat
  state : Nat
  position : Nat
  speed : Int
  qMean : Int
  qMax : Int
deriving DecidableEq, Repr

/-- Trend memory (07). -/
structure Trend where
  /-- Streams by number, slot × 16 + 0 to 15 (R191); reset none. -/
  streams : Tbl Stream
  /-- Front logs by cable, 64 records at most, durable (R194); reset empty. -/
  logs : Tbl (List FLog)
deriving DecidableEq, Repr

/-- The reset values of R173. -/
def PointE.dflt : PointE :=
  { temp := -32768, rh := 0xFFFF, emc := 0xFFFF, qual := 0, overR := false, emcValid := false, emcClamp := false,
    thState := 0, thCount := 0, cycle := 0, age := 0, cls := 0, pstatus := 0 }
/-- The reset values of R184. -/
def FrontE.dflt : FrontE :=
  { state := 0, speedValid := false, branchOpen := false, cooling := false, used := 0, position := 0xFFFF,
    speed := 0, gradient := 0, remain := 0xFFFF, cycle := 0, qFirst := 0, qLast := 0, qMean := 0, qMax := 0,
    hot := 0, filt := 0, prevUs := 0, prevIn := false }
/-- No stream. -/
def Stream.dflt : Stream :=
  { sess := 0, fronts := false, first := 0, count := 0, every := 0, units := 0, spill := false, seq := 1,
    openCycle := 0, hold := [], spilled := [], spilledTo := 0, lost := 0, gap := false, unitsAt := [] }
/-- The scan engine before its first cycle. -/
def Scan.reset : Scan :=
  { cycle := 0, portCycle := 0, active := false, startUs := 0, startMs := 0, extra := false, begun := false, old := [], changedAt := 0, intake := [], regs := [],
    discarded := 0, marks := 0, jobs := [], thr := [], shed := 0, frontsDone := false, doneUs := none, snap := none, noticed := 0, firstAt := 0,
    mastDone := false }
/-- Trend memory, empty. -/
def Trend.reset : Trend := { streams := [], logs := [] }

/-! ## Sheaves, loops, groups, captures (08) -/

/-- State of a notch biquad (R209): x1, x2 in Q15, y1, y2 in A40. -/
structure Notch where
  x1 : Int
  x2 : Int
  y1 : Int
  y2 : Int
deriving DecidableEq, Repr

/-- State of the plausibility model (R210): delay line newest first (128 entries of Q15), A40 sum, count of
samples in it, ŷ in A40. -/
structure Model where
  line : List Int
  sum : Int
  n : Nat
  y : Int
deriving DecidableEq, Repr

/-- An injection and its capture as started (R220). -/
structure Inj where
  signal : Nat
  at_ : Nat
  ampl : Int
  length : Nat
  shape : Nat
  pre : Nat
  /-- Samples since its first sample. -/
  n : Nat
  /-- Capture buffer, if one is filled. -/
  buf : Option Nat
  /-- SESSION_JSEQ of the session. -/
  sess : Nat
  /-- PRBS-15 register (R221). -/
  prbs : Nat
deriving DecidableEq, Repr

/-- Committed intent of a loop, durable (R116, R207, R208). -/
structure LoopInt where
  /-- MODE, 2 bits; reset 0 AUTO (R216). -/
  mode : Nat
  /-- MAN_OUT, Q15; reset 0. -/
  manOut : Int
  /-- The committed target, Q15; reset none, so that SP_INIT holds (R216). -/
  target : Option Int
deriving DecidableEq, Repr

/-- A loop slot's state region (R195, R201, R219). -/
structure Loop where
  /-- The set-up of R216 is due at the first sample; reset true. -/
  fresh : Bool
  /-- Next due tick, 32 bits and up (R196); reset none: not scheduled. -/
  due : Option Nat
  /-- Mode in force (R207); reset 0. -/
  mode : Nat
  /-- MAN_OUT in force, Q15 (R207); reset 0. -/
  manOut : Int
  /-- Output held by HOLD, Q15 (R207); reset 0. -/
  holdOut : Int
  /-- Target in force before clamping, Q15 (R208); reset 0. -/
  target : Int
  /-- A committed setpoint is pending (R195); reset false. -/
  pendSp : Bool
  /-- A committed mode is pending (R195); reset false. -/
  pendMode : Bool
  /-- Profile position, units of 2⁻³⁰ (R208); reset 0. -/
  p : Int
  /-- Profile velocity (R208); reset 0. -/
  v : Int
  /-- Profile acceleration (R208); reset 0. -/
  a : Int
  /-- Last good q of IN0 to IN3, Q15 (R199); reset none. -/
  lastQ : List (Option Int)
  /-- ACC, A40 (R203 to R205, R219); reset 0. -/
  acc : Int
  /-- LSTATE, 8 bits (R219); reset 0. -/
  lstate : Nat
  /-- SINCE, 16 bits (R219); reset 0. -/
  since : Nat
  /-- The limit the accumulator was clamped at and rests on (R200); reset none. -/
  rest : Option Int
  /-- N0 state; none until set to steady at the next input (R209); reset none. -/
  notch0 : Option Notch
  /-- N1 state (R209); reset none. -/
  notch1 : Option Notch
  /-- Plausibility model; none until refilled (R210); reset none. -/
  model : Option Model
  /-- PLAUS_FAIL: the residual test is failing (R210); reset false. -/
  fail : Bool
  /-- Consecutive samples towards a change of the test, 8 bits (R210); reset 0. -/
  tcnt : Nat
  /-- FLAGS, 32 bits (R200); reset 0. -/
  flags : Nat
  /-- OVERRUNS, 32 bits holding (R214); reset 0. -/
  overruns : Nat
  /-- CONSEC, 8 bits (R214); reset 0. -/
  consec : Nat
  /-- Overruns met in ticks and not yet counted (R214, log 2); reset 0. -/
  late : Nat
  /-- Overrun fallback holds (R214); reset false. -/
  fbOver : Bool
  /-- Finished samples since overrun fallback began, 8 bits (R215); reset 0. -/
  fbGood : Nat
  /-- ECC fallback holds (R195); reset false. -/
  fbEcc : Bool
  /-- FALLBACK of the last sample (R219); reset false. -/
  fb : Bool
  /-- OUT, Q15 (R219); reset 0. -/
  out : Int
  /-- CAND; none before the first finished sample (R212); reset none. -/
  cand : Option Int
  /-- PV, Q15 (R219); reset 0. -/
  pv : Int
  /-- PV_BAD (R219); reset false. -/
  pvBad : Bool
  /-- SP_TARGET, Q15 (R219); reset 0. -/
  spT : Int
  /-- SP_EFF, Q15 (R219); reset 0. -/
  spEff : Int
  /-- E, Q15 (R219); reset 0. -/
  e : Int
  /-- RESID, Q15 (R219); reset 0. -/
  resid : Int
  /-- SAMPLES, 32 bits (R219); reset 0. -/
  samples : Nat
  /-- LAST_TICK, 32 bits (R219); reset 0. -/
  lastTick : Nat
  /-- Injection or capture (R220); reset none. -/
  inj : Option Inj
deriving DecidableEq, Repr

/-- Result of a competition group (R212). -/
structure Grp where
  /-- Last result, Q15; reset none. -/
  result : Option Int
  /-- Winner, 16 bits; reset 0xFFFF. -/
  winner : Nat
deriving DecidableEq, Repr

/-- A capture buffer (R222). -/
structure CapBuf where
  /-- SESSION_JSEQ of the session that allocated it; 0 when free; reset 0. -/
  sess : Nat
  loop : Nat
  sel : Nat
  /-- STATE: 0 ARMED, 1 RUNNING, 2 FULL, 3 DONE, 4 ABORTED; reset 0. -/
  st : Nat
  pre : Nat
  optime : Nat
  period : Nat
  firstTick : Nat
  /-- The samples, 8 bytes each, 8,184 at most. -/
  samples : List Bytes
  /-- A double-bit error has left the record damaged (R21); reset false. -/
  damaged : Bool
deriving DecidableEq, Repr

/-- The Sheave array (08). -/
structure Shv where
  /-- Number of the next tick edge after LOOPS was set (R196); reset 0. -/
  tick : Nat
  /-- The 4,096 loop slots (R195). -/
  loops : Tbl Loop
  /-- Committed intents (R116). -/
  ints : Tbl LoopInt
  /-- The 512 groups (R212). -/
  groups : Tbl Grp
  /-- The 32 capture buffers (R222). -/
  caps : Tbl CapBuf
deriving DecidableEq, Repr

/-- No committed intent. -/
def LoopInt.dflt : LoopInt := { mode := 0, manOut := 0, target := none }
/-- A slot before its first sample (R216, R219). -/
def Loop.dflt : Loop :=
  { fresh := true, due := none, mode := 0, manOut := 0, holdOut := 0, target := 0, pendSp := false, pendMode := false,
    p := 0, v := 0, a := 0, lastQ := [none, none, none, none], acc := 0, lstate := 0, since := 0, rest := none,
    notch0 := none, notch1 := none, model := none, fail := false, tcnt := 0, flags := 0, overruns := 0, consec := 0,
    late := 0, fbOver := false, fbGood := 0, fbEcc := false, fb := false, out := 0, cand := none, pv := 0,
    pvBad := false, spT := 0, spEff := 0, e := 0, resid := 0, samples := 0, lastTick := 0, inj := none }
/-- A group without a result. -/
def Grp.dflt : Grp := { result := none, winner := 0xFFFF }
/-- A free capture buffer. -/
def CapBuf.dflt : CapBuf :=
  { sess := 0, loop := 0, sel := 0, st := 0, pre := 0, optime := 0, period := 0, firstTick := 0, samples := [], damaged := false }
/-- The array before a start. -/
def Shv.reset : Shv := { tick := 0, loops := [], ints := [], groups := [], caps := [] }

/-! ## Dies, outputs and the front end (01, 12 to 15) -/

/-- What a field die holds: 1 port die, 2 power die 0, 3 power die 1. -/
structure Die where
  /-- The die runs a live configuration (R380 step 8); reset false. -/
  conf : Bool
  /-- It senses LOCKOUT active (R234); reset DESIGN CHOICE false (log 13). -/
  sense : Bool
  /-- Time of the last change of `sense`, µs (R234); reset 0. -/
  senseAt : Nat
  /-- It forces by LOCKOUT (R234); reset false. -/
  force : Bool
  /-- Logic silence (R389); reset false. -/
  silent : Bool
  /-- A KEEP_WINDOW hold runs (R385); reset false. -/
  keeping : Bool
  /-- Time of the first reset notice of the run, µs (R388); reset 0. -/
  keepAt : Nat
  /-- KEEP_WINDOW expired or the notice met logic silence: safe states until adoption (R387); reset false. -/
  keepOver : Bool
  /-- Time of the last refresh, µs (R30); reset 0. -/
  refreshAt : Nat
  /-- SAFE_TIMEOUT of the last rig applied, ms, 16 bits (R379); reset 100. -/
  safeTimeout : Nat
  /-- KEEP_WINDOW of the last rig applied, ms, 16 bits (R379); reset 2,000. -/
  keepWindow : Nat
deriving DecidableEq, Repr

/-- What every output has: R25, R26, R385. Values are duty, 0 or 1, or VALUE. -/
structure OutC where
  /-- CMD: the source value at the last output latch, 16 bits; reset 0. -/
  src : Nat
  /-- Value at row 5 of R26 at the last latch: the keeper, 16 bits (R385, R386, R389); reset 0. -/
  row5 : Nat
  /-- Value R26 selects, 16 bits; reset 0. -/
  sel : Nat
  /-- Row of R26 that selects it, 1 to 5; reset 1. -/
  row : Nat
deriving DecidableEq, Repr

/-- A fan channel (R334, R341). -/
structure FanCh where
  /-- Duty after skip bands and slew, without a kick, 11 bits (R331); reset 0. -/
  base : Nat
  /-- That duty as its source gives it, the held value of SAFE 1, 11 bits (R389); reset 0. -/
  hold : Nat
  /-- DRIVEN, 11 bits; reset 0. -/
  driven : Nat
  /-- STATE: 0 OFF, 1 KICK, 2 PROVING, 3 RUN, 4 RETRY_WAIT, 5 BLOCKED; reset 0. -/
  st : Nat
  /-- FAULT: 0, 1 BLOCKED, 2 TACH_LOSS, 3 PWM_SHORT; reset 0. -/
  fault : Nat
  /-- TRIES, 8 bits; reset 0. -/
  tries : Nat
  /-- Start of the try and of its kick, µs (R334); reset 0. -/
  kickAt : Nat
  /-- Entry to RETRY_WAIT, µs (R334); reset 0. -/
  waitAt : Nat
  /-- RPM, 16 bits (R326); reset 0. -/
  rpm : Nat
  /-- Intervals between falling edges in FAN cycles, newest first, PPR at most (R326); reset none. -/
  ivals : List Nat
  /-- Time of the last falling edge, µs (R326); reset 0. -/
  edgeAt : Nat
  /-- An edge has come since the start or the last gap (R326); reset false. -/
  edged : Bool
  /-- Time since which RPM has been below LOSS_RPM while watched, µs (R335); reset none. -/
  lowAt : Option Nat
  /-- Time since which RPM has been at or above START_RPM under TACH_LOSS, µs (R335); reset none. -/
  okAt : Option Nat
  /-- TABLE_DUTY, 11 bits (R337); reset 0. -/
  tbl : Nat
  /-- TBL_VALUE, 32 bits signed (R341); reset 0. -/
  tblVal : Int
  /-- SKIPPING (R341); reset false. -/
  skip : Bool
  /-- µs with DRIVEN above 0 since the port die started, for RUN_S (R341); reset 0. -/
  runUs : Nat
  /-- STARTS, 32 bits (R341); reset 0. -/
  starts : Nat
deriving DecidableEq, Repr

/-- A load channel (R310, R319, R323). -/
structure LoadCh where
  /-- DRIVEN; reset false. -/
  on : Bool
  /-- FAULT: 0, 1 SHORT, 2 FUSE, 3 THERMAL, 4 BANK_SHED, 5 EXT_SUPPLY, 6 REVERSE; reset 0. -/
  fault : Nat
  /-- The fault ends only by FAULT_CLEAR (R319); reset false. -/
  latched : Bool
  /-- Time of the last trip, µs (R319); reset 0. -/
  tripAt : Nat
  /-- First trip of the auto-retry series, µs (R319); reset none. -/
  seriesAt : Option Nat
  /-- RETRIES, 8 bits (R323); reset 0. -/
  retries : Nat
  /-- TRIPS, 32 bits (R323); reset 0. -/
  trips : Nat
  /-- Order of the last turn-on among the outputs of its die, 0 never (R316); reset 0. -/
  onSeq : Nat
  /-- Time of the last change from off to on, µs (R309); reset 0. -/
  onAt : Nat
  /-- Time of the last change to off, µs (R319); reset 0. -/
  offAt : Nat
  /-- θ1 in nK (R310, R313); reset 0. -/
  th1 : Nat
  /-- θ2 in nK (R310, R313); reset 0, set to 0.4 M_eff at every start of the die. -/
  th2 : Nat
  /-- OPEN (R320); reset false. -/
  open_ : Bool
  /-- Means of I² over the last milliseconds, mA², newest first, at most 100 (R308); reset empty. -/
  sq : List Nat
  /-- The latest current reading, in lamp mode the average over the on-pulses, mA (R320); reset 0. -/
  mA : Nat
  /-- Time at which that reading last crossed OPEN_MA, µs (R320); reset 0. -/
  mAAt : Nat
  /-- Clamp time used within the lamp allowance of the present on period, µs (R309); reset 0. -/
  clampUs : Nat
  /-- The wire model has run since the die started (R313); reset false. -/
  begun : Bool
  /-- LSWnS voltage, 0.01 V (R323); reset DESIGN CHOICE 0 (log 13). -/
  senseCv : Nat
  /-- The switch's sensor is at or above 160 °C (R319); reset false. -/
  hot : Bool
  /-- Lamp duty in 1/1,024, 11 bits (R309); reset 0. -/
  duty : Nat
  /-- LSWnS reads above 8.5 V while the channel is off (R319); reset false. -/
  ext : Bool
  /-- Latest moment at which LSWnS was at or above 5.0 V, µs (R319); reset 0. -/
  highAt : Nat
deriving DecidableEq, Repr

/-- A bank of load channels (R317). -/
structure LBank where
  /-- 0 NORMAL, 1 HOLD, 2 UNDERVOLTAGE, 3 RESTART; reset 0. -/
  st : Nat
  /-- Time of entry, µs; reset 0. -/
  at_ : Nat
  /-- BANK_I, 0.01 A, 16 bits (R323); reset 0. -/
  cA : Nat
  /-- Time of the last shed, µs (R316); reset none. -/
  shedAt : Option Nat
  /-- VBB has risen to 11.0 V for 100 ms since power-up (R318); reset false. -/
  risen : Bool
deriving DecidableEq, Repr

/-- A DIO channel (R296 to R303). -/
structure DioCh where
  /-- DRIVEN; reset false. -/
  on : Bool
  /-- FAULT: 0, 1 OVERLOAD, 2 THERMAL, 3 GROUP_SHED, 4 EXT_SUPPLY, 5 PARALLEL; reset 0. -/
  fault : Nat
  /-- The fault ends only by FAULT_CLEAR (R298); reset false. -/
  latched : Bool
  /-- Time of the last trip, µs (R298); reset 0. -/
  tripAt : Nat
  /-- First trip of the auto-retry series, µs (R298); reset none. -/
  seriesAt : Option Nat
  /-- RETRIES, 8 bits (R303); reset 0. -/
  retries : Nat
  /-- Order of the last turn-on, 0 never (R300); reset 0. -/
  onSeq : Nat
  /-- Time of the last change to off, µs; reset 0. -/
  offAt : Nat
  /-- Filtered comparator state before INVERT (R296); reset DESIGN CHOICE false (log 13). -/
  land : Bool
  /-- The comparator's state by the thresholds of R296, as the latest reading of the land or change leaves it; reset false. -/
  comp : Bool
  /-- The latest moment at which the comparator agreed with the filtered state, µs (R296); reset 0. -/
  agreeAt : Nat
  /-- The next sample sets the filtered state without counting an edge (R296); reset true. -/
  first : Bool
  /-- EDGES, 32 bits wrapping (R303); reset 0. -/
  edges : Nat
  /-- OPEN (R299); reset false. -/
  open_ : Bool
  /-- CURRENT, mA, 16 bits (R303); reset 0. -/
  mA : Nat
  /-- Time at which CURRENT last crossed 2 mA, µs (R299); reset 0. -/
  mAAt : Nat
  /-- Time of the last turn-on, µs (R298, R299); reset 0. -/
  onAt : Nat
  /-- The readback verdict is High (R301); reset false. -/
  high : Bool
  /-- Time of the latest High verdict, µs (R298); reset 0. -/
  highAt : Nat
  /-- The switch's sensor is at or above 160 °C (R298); reset false. -/
  hot : Bool
  /-- On outputs still to be pulsed by the readback test of this channel, the pulsed one first (R301);
  reset none: no test runs. -/
  test : Option (List Nat)
  /-- Time at which the pulse of that test begins, µs (R301); reset 0. -/
  pulseAt : Nat
deriving DecidableEq, Repr

/-- A DIO group (R299, R300). -/
structure DioGrp where
  /-- SUPPLY_LOW (R299); reset false. -/
  low : Bool
  /-- Time of the last shed, µs (R300); reset none. -/
  shedAt : Option Nat
deriving DecidableEq, Repr

/-- An analogue output (R288 to R291). -/
structure AoCh where
  /-- VALUE driven, 16 bits; reset 0. -/
  value : Nat
  /-- AO_SHORT (R290); reset false. -/
  short : Bool
  /-- AO_OPEN (R290); reset false. -/
  open_ : Bool
  /-- Readback as binary32 bits (R289, R291); reset DESIGN CHOICE 0 (log 13). -/
  back : Nat
deriving DecidableEq, Repr

/-- A front-end channel (R281, R291). -/
structure AfeCh where
  /-- VALUE, 32 bits signed; reset 0. -/
  value : Int
  /-- X, binary32 bits; reset 0. -/
  x : Nat
  /-- QUAL, 0 to 7 (R281); reset 0. -/
  qual : Nat
  /-- RANGE in force, 4 bits (R272); reset: the descriptor's, taken at configuration. -/
  range : Nat
  /-- EXC_STATE: 0 none, 1 OK, 2 OPEN, 3 SHORT, 4 RETRY; reset 0. -/
  exc : Nat
  /-- OVER_RANGE; reset false. -/
  overR : Bool
  /-- SWAPPED; reset false. -/
  swapped : Bool
  /-- OPEN_INPUT; reset false. -/
  openIn : Bool
  /-- Time of the last GOOD result, µs, for AGE; reset none. -/
  goodAt : Option Nat
  /-- RESULTS, 32 bits (R291); reset 0. -/
  results : Nat
  /-- Results below 40 % of full scale in a row (R280); reset 0. -/
  arCount : Nat
  /-- Restarts of the present half (R280); reset 0. -/
  restarts : Nat
  /-- They are of the second half (R275, R280); reset false. -/
  second : Bool
  /-- The next result starts at the lowest range allowed (R280); reset false. -/
  toLowest : Bool
  /-- The next result is marked SETTLING (R138, R281); reset false. -/
  settle : Bool
  /-- The shunt is open (R279); reset false. -/
  shuntOpen : Bool
  /-- Time the source was turned off by a short, µs, and whether a retry has failed (R279); reset none. -/
  shortAt : Option (Nat × Bool)
  /-- Results since the last open-input test of a direct channel, 4 bits (R278); reset 0. -/
  tests : Nat
deriving DecidableEq, Repr

/-- A converter's scan (R277, R278). -/
structure Conv where
  /-- Channel of the last step begun; reset none. -/
  cur : Option Nat
  /-- Channel of the step before, whose switches open as the step begins (R277); reset none. -/
  prev : Option Nat
  /-- t0 of the step, µs (R277); reset 0. -/
  t0 : Nat
  /-- That step is in progress (R277); reset false. -/
  busy : Bool
  /-- The scan stopped on a stuck switch (R278); reset false. -/
  stuck : Bool
deriving DecidableEq, Repr

/-- A threshold switch (R285, R292). -/
structure ThSw where
  /-- ASSERTED; reset false. -/
  on : Bool
  /-- FAIL_AS applied; reset false. -/
  failAs : Bool
  /-- COUNT, 8 bits; reset 0. -/
  count : Nat
  /-- CHANGES, 32 bits; reset 0. -/
  changes : Nat
  /-- Time of the last change, or of the start, µs (R292); reset 0. -/
  at_ : Nat
deriving DecidableEq, Repr

/-- Field dies, outputs, front end. -/
structure Fld where
  /-- Dies 1 to 3. -/
  dies : Tbl Die
  /-- The LOCKOUT land as each die's comparator sees it, bit d − 1 for die d, apart from R363; reset DESIGN CHOICE 0
  (log 13). -/
  lockLand : Nat
  /-- LOCKOUT land as the Bosun last recorded it, bit d − 1 for die d (R234); reset DESIGN CHOICE 0 (log 13). -/
  lockRec : Nat
  /-- Time since which the dies disagree on LOCKOUT, µs (R234); reset none. -/
  disagreeAt : Option Nat
  /-- A disagreement has been recorded (R234); reset false. -/
  disagreed : Bool
  /-- Committed host values by object reference, durable (R25, R116). -/
  host : Tbl Nat
  /-- Outputs by object reference. -/
  outs : Tbl OutC
  /-- Fan channels 0 to 191. -/
  fans : Tbl FanCh
  /-- Time of the last FAN_DUTY_UPDATE, µs (R331); reset 0. -/
  fanAt : Nat
  /-- Value of the full-on watchdog when loaded, s (R339); reset 0. -/
  wdLoad : Nat
  /-- Time it was loaded, µs (R339); reset 0. -/
  wdAt : Nat
  /-- It stands at 0 (R339); reset false. -/
  wdZero : Bool
  /-- Load channels 0 to 47. -/
  loads : Tbl LoadCh
  /-- Banks 0 to 3. -/
  banks : Tbl LBank
  /-- First output latch at which a load channel's value is on since the die started, by die, µs + 1 (R318);
  reset 0. -/
  loadStart : Tbl Nat
  /-- Time of the last wire-model step, µs (R310); reset 0. -/
  fuseAt : Nat
  /-- Time of the last MODULE_SHED_CHECK, µs (R316); reset 0. -/
  modAt : Nat
  /-- Time of the last shed across all banks, µs (R316); reset none. -/
  modShedAt : Option Nat
  /-- DIO channels 0 to 95. -/
  dios : Tbl DioCh
  /-- DIO groups 0 to 3. -/
  dgrps : Tbl DioGrp
  /-- Count that orders turn-ons (R300, R316); reset 0. -/
  onCount : Nat
  /-- Analogue outputs 0 to 15. -/
  aos : Tbl AoCh
  /-- Front-end channels by object reference, TYPE 0x0F and 0x10. -/
  afe : Tbl AfeCh
  /-- Converters 0 to 7. -/
  convs : Tbl Conv
  /-- Threshold switches 0 to 127. -/
  sws : Tbl ThSw
deriving DecidableEq, Repr

/-- A die without configuration. -/
def Die.dflt : Die :=
  { conf := false, sense := false, senseAt := 0, force := false, silent := false, keeping := false, keepAt := 0,
    keepOver := false, refreshAt := 0, safeTimeout := 100, keepWindow := 2000 }
/-- An output that is off. -/
def OutC.dflt : OutC := { src := 0, row5 := 0, sel := 0, row := 1 }
/-- A fan channel at the start of the port die. -/
def FanCh.dflt : FanCh :=
  { base := 0, hold := 0, driven := 0, st := 0, fault := 0, tries := 0, kickAt := 0, waitAt := 0, rpm := 0, ivals := [],
    edgeAt := 0, edged := false, lowAt := none, okAt := none, tbl := 0, tblVal := 0, skip := false, runUs := 0,
    starts := 0 }
/-- A load channel before its die configures it. -/
def LoadCh.dflt : LoadCh :=
  { on := false, fault := 0, latched := false, tripAt := 0, seriesAt := none, retries := 0, trips := 0, onSeq := 0,
    onAt := 0, offAt := 0, th1 := 0, th2 := 0, open_ := false, sq := [], mA := 0, mAAt := 0, clampUs := 0, begun := false,
    senseCv := 0, hot := false, duty := 0, ext := false, highAt := 0 }
/-- A bank in NORMAL. -/
def LBank.dflt : LBank := { st := 0, at_ := 0, cA := 0, shedAt := none, risen := false }
/-- A DIO channel at the start of its die. -/
def DioCh.dflt : DioCh :=
  { on := false, fault := 0, latched := false, tripAt := 0, seriesAt := none, retries := 0, onSeq := 0, offAt := 0,
    land := false, comp := false, agreeAt := 0, first := true, edges := 0, open_ := false, mA := 0, mAAt := 0, onAt := 0,
    high := false, highAt := 0, hot := false, test := none, pulseAt := 0 }
/-- A DIO group with its supply in range. -/
def DioGrp.dflt : DioGrp := { low := false, shedAt := none }
/-- An analogue output at 0. -/
def AoCh.dflt : AoCh := { value := 0, short := false, open_ := false, back := 0 }
/-- A front-end channel without a result. -/
def AfeCh.dflt : AfeCh :=
  { value := 0, x := 0, qual := 0, range := 0, exc := 0, overR := false, swapped := false, openIn := false,
    goodAt := none, results := 0, arCount := 0, restarts := 0, second := false, toLowest := false, settle := false,
    shuntOpen := false, shortAt := none, tests := 0 }
/-- A converter that has not begun. -/
def Conv.dflt : Conv := { cur := none, prev := none, t0 := 0, busy := false, stuck := false }
/-- A deasserted switch. -/
def ThSw.dflt : ThSw := { on := false, failAs := false, count := 0, changes := 0, at_ := 0 }
/-- The field side, unpowered. -/
def Fld.reset : Fld :=
  { dies := [], lockLand := 0, lockRec := 0, disagreeAt := none, disagreed := false, host := [], outs := [], fans := [], fanAt := 0,
    wdLoad := 0, wdAt := 0, wdZero := false, loads := [], banks := [], loadStart := [], fuseAt := 0, modAt := 0, modShedAt := none, dios := [], dgrps := [],
    onCount := 0, aos := [], afe := [], convs := [], sws := [] }


/-! ## Masts, dryers, routes (09 to 11) -/

/-- A ledger record (R235, R236). -/
structure Ledger where
  /-- RUN_S, bands 0 to 3 and untimed, 32 bits each; reset 0. -/
  runS : List Nat
  /-- FAN_S, bands 0 to 3 and untimed, 64 bits each; reset 0. -/
  fanS : List Nat
  /-- STARTS, 32 bits; reset 0. -/
  starts : Nat
  /-- CAMPAIGN_S, 32 bits; reset 0. -/
  campaignS : Nat
  /-- CAMPAIGNS, 32 bits; reset 0. -/
  campaigns : Nat
deriving DecidableEq, Repr

/-- A Mast's operating state (R230, R237). -/
structure Mast where
  /-- The first evaluation after a start is still to come (R238); reset true. -/
  fresh : Bool
  /-- STATE (R230); reset 0 IDLE. -/
  st : Nat
  /-- GATES, 8 bits; reset 0. -/
  gates : Nat
  /-- N, 8 bits; reset 0. -/
  n : Nat
  /-- Timed checks since each gate opened, 8 counts of 16 bits (R229); reset 0. -/
  gaps : List Nat
  /-- OPEN: the window (R229); reset false. -/
  open_ : Bool
  /-- COUNT, 8 bits (R229); reset 0. -/
  count : Nat
  /-- Flags of the last evaluation: T_OK, M_OK, AIR_OK, REF_OK, TRIGGER in bits 1 to 5; reset 0. -/
  flags : Nat
  /-- T_A, 16 bits signed; reset 0x8000. -/
  tA : Int
  /-- RH_A, 16 bits; reset 0xFFFF. -/
  rhA : Nat
  /-- EMC_A, 16 bits; reset 0xFFFF. -/
  emcA : Nat
  /-- T_G, 16 bits signed; reset 0x8000. -/
  tG : Int
  /-- M_G, 16 bits; reset 0xFFFF. -/
  mG : Nat
  /-- DT, 16 bits signed; reset 0. -/
  dT : Int
  /-- DM, 16 bits signed; reset 0. -/
  dM : Int
  /-- FRONTS, 8 bits; reset 0. -/
  fronts : Nat
  /-- PASSED, 8 bits; reset 0. -/
  passed : Nat
  /-- SLOWEST, 16 bits signed, 0x8000 for none (R237); reset 0. -/
  slowest : Int
  /-- Time of entry to the state, µs; reset 0. -/
  at_ : Nat
  /-- FORCE in progress: time it ends, µs (R226); reset none. -/
  forceTo : Option Nat
  /-- FORCE_MIN committed and not yet started, minutes, 16 bits (R226); reset 0. -/
  forceMin : Nat
  /-- Staging: 0 none, 1 slow, 2 fast (R229); reset 0. -/
  stage : Nat
  /-- Time the staging condition began, µs (R229); reset 0. -/
  stageAt : Nat
  /-- CYCLE of the last evaluation, 32 bits; reset 0. -/
  cycle : Nat
  /-- MIN_RUN counts as met (R238); reset false. -/
  minRunMet : Bool
  /-- MIN_STOP counts as met (R238); reset true. -/
  minStopMet : Bool
  /-- Time RUN was entered, µs (R230); reset 0. -/
  runAt : Nat
  /-- Time RUN or FORCED was left, µs (R230); reset 0. -/
  stopAt : Nat
  /-- Time RUN was last left, or of the start or enabling activation, µs, for MAINT_EVERY (R230); reset 0. -/
  maintAt : Nat
  /-- The present run is a maintenance run from DONE (R230); reset false. -/
  maint : Bool
  /-- An OK MAST_MODE item since DONE was entered that starts a campaign or commits MAINTAIN (R230 row 9); reset
  false. -/
  newMode : Bool
  /-- An OK MAST_MODE item since the LOCKOUT release (R230 row 2); reset false. -/
  lockItem : Bool
  /-- Cycle number at the start of the campaign (R227); reset 0. -/
  campCycle : Nat
  /-- The record that MAST_READ gives, as the latest evaluation or timed check formed it (R237); reset none: the record's
  reset values. -/
  record : Option Bytes
deriving DecidableEq, Repr

/-- Masts (09). -/
structure Masts where
  /-- The 512 Masts. -/
  m : Tbl Mast
  /-- Committed modes, durable (R116, R226). -/
  mode : Tbl Nat
  /-- Working ledger (R235). -/
  led : Tbl Ledger
  /-- Ledger as last written to the memory die, durable (R235). -/
  saved : Tbl Ledger
  /-- SAVED: OPTIME of the last durable write, ms, durable (R236); reset 0. -/
  savedAt : Nat
  /-- Time of the last periodic write, µs (R235); reset 0. -/
  saveUs : Nat
  /-- OPTIME second of the last timed check (R231); reset 0. -/
  checkS : Nat
deriving DecidableEq, Repr

/-- What a dryer's save record holds (R245, R253), durable. -/
structure DryerSave where
  /-- STATE (R245); reset 0 IDLE. -/
  st : Nat
  /-- PREV; reset 0. -/
  prev : Nat
  /-- FAULT cause; reset 0. -/
  fault : Nat
  /-- HEAT_S in ms; reset 0. -/
  heatMs : Nat
  /-- BATCHES, 32 bits; reset 0. -/
  batches : Nat
  /-- RUN_S in ms, 32 bits of seconds; reset 0. -/
  runMs : Nat
  /-- OPTIME of entry, ms; reset 0. -/
  entered : Nat
deriving DecidableEq, Repr

/-- A committed DRYER_MODE or DRYER_STEP item waiting for the next evaluation (R243, R244). -/
structure DryerItem where
  /-- 0 for DRYER_MODE, else the ACTION. -/
  action : Nat
  mode : Nat
  /-- State at the commit. -/
  st : Nat
deriving DecidableEq, Repr

/-- A dryer (R245, R253). -/
structure Dryer where
  /-- The first evaluation after a start is still to come (R252); reset false, set by a start. -/
  fresh : Bool
  /-- The working copy of the saved fields. -/
  w : DryerSave
  /-- FLAGS, 4 bits (R253); reset 0. -/
  flags : Nat
  /-- STEPS_VOID, 16 bits (R244); reset 0. -/
  stepsVoid : Nat
  /-- Items committed and not yet applied; reset none. -/
  items : List DryerItem
  /-- Start of each condition that must hold for a time, µs + 1, by condition; reset none. -/
  conds : Tbl Nat
  /-- FILL_OUT is on; reset false. -/
  fill : Bool
  /-- DUMP_OUT is on; reset false. -/
  dump : Bool
  /-- ALARM_OUT is on; reset false. -/
  alarm : Bool
  /-- Blowers wanted (R245); reset false. -/
  blow : Bool
  /-- Blower gates open, 3 bits; reset 0. -/
  nBlow : Nat
  /-- Time the last blower gate opened, or the state was entered without blowers, µs; reset 0. -/
  blowAt : Nat
  /-- Coolers on; reset false. -/
  cool : Bool
  /-- P_HEAT, Q15; reset 0. -/
  pHeat : Nat
  /-- P_METER, Q15; reset 0. -/
  pMeter : Nat
  /-- Time P_HEAT opened, µs (R247); reset 0. -/
  heatAt : Nat
  /-- COND, 8 bits, of the last evaluation; reset 0. -/
  cond : Nat
  /-- HEAT_RESULT, Q15; reset 0. -/
  heatRes : Int
  /-- METER_RESULT, Q15; reset 0. -/
  meterRes : Int
  /-- MOIST, 16 bits; reset 0xFFFF. -/
  moist : Nat
  /-- GRAIN_T, 16 bits signed; reset 0x8000. -/
  grainT : Int
  /-- PLENUM_T, 16 bits signed; reset 0x8000. -/
  plenumT : Int
  /-- OPTIME of the last evaluation, ms; reset 0. -/
  evalMs : Nat
  /-- DUMP_TAIL counts from this time, µs + 1, 0 when it does not (R246, R247); reset 0. -/
  tailAt : Nat
  /-- What DUMP_TAIL had counted when the dryer was PAUSED, µs + 1, 0 where it did not count (R251); reset 0. -/
  tailHeld : Nat
  /-- The record that DRYER_READ gives, as the latest evaluation formed it (R253); reset none: the record's reset values
  beside the counters. -/
  record : Option Bytes
deriving DecidableEq, Repr

/-- Dryers (10). -/
structure Dryers where
  /-- The 16 dryers. -/
  d : Tbl Dryer
  /-- Committed MODE + 256 × MFLAGS, durable (R116, R243). -/
  mode : Tbl Nat
  /-- Save records, durable (R245). -/
  save : Tbl DryerSave
  /-- Time of the last evaluation, µs (R242); reset 0. -/
  evalAt : Nat
  /-- Time of the last periodic rewrite, µs (R245); reset 0. -/
  saveAt : Nat
deriving DecidableEq, Repr

/-- What a route's save record holds (R260, R269), durable. -/
structure RouteSave where
  /-- STATE (R260); reset 0 STOPPED. -/
  st : Nat
  /-- FAULT cause; reset 0. -/
  fault : Nat
  /-- FAULT_POS; reset 0xFF. -/
  pos : Nat
  /-- STEP; reset 0xFF. -/
  step : Nat
  /-- OPTIME of entry, ms; reset 0. -/
  entered : Nat
  /-- STARTS, 32 bits; reset 0. -/
  starts : Nat
  /-- RUN_S in ms; reset 0. -/
  runMs : Nat
  /-- HOLDS, 32 bits; reset 0. -/
  holds : Nat
deriving DecidableEq, Repr

/-- A route (R260, R269). -/
structure Route where
  /-- The first evaluation after a start is still to come (R268); reset false, set by a start. -/
  fresh : Bool
  w : RouteSave
  /-- ON, 32 bits: elements the route wants on, moving or open; reset 0. -/
  on : Nat
  /-- PROVEN, 32 bits; reset 0. -/
  proven : Nat
  /-- Stopped, for this route's stop order: bit j (R263, R266); reset 0. -/
  stopped : Nat
  /-- Time each element was taken as stopped by this route, µs, by position (R263); reset none. -/
  stopAt : Tbl Nat
  /-- Time the last element was proven, µs, for START_GAP (R261); reset 0. -/
  gapAt : Nat
  /-- A START_GAP runs (R261); reset false. -/
  gapOn : Bool
  /-- Committed items waiting (R260): 0 START, 1 NORMAL, 2 QUICK, 3 ACK; reset none. -/
  items : List Nat
  /-- Positions that have faulted since ROUTE_START, 32 bits (R265); reset 0. -/
  faulted : Nat
  /-- Start of DEST_FULL asserted, or released, µs + 1 (R262); reset 0. -/
  fullAt : Nat
  notFullAt : Nat
  /-- OPTIME from which HOLD_MAX counts, ms (R262, R268); reset 0. -/
  holdMs : Nat
  /-- RUN_OUT is on; reset false. -/
  runOut : Bool
  /-- OPTIME of the last evaluation, ms; reset 0. -/
  evalMs : Nat
deriving DecidableEq, Repr

/-- A conveyor element (R255, R264, R266). -/
structure Elem where
  /-- Outputs on, bit p for OUTp; reset 0. -/
  out : Nat
  /-- Time OUT0 went on or the element was commanded, µs; reset 0. -/
  onAt : Nat
  /-- Time the output went off, µs (R263); reset 0. -/
  offAt : Nat
  /-- MOVER: SPEED has been asserted since OUT0 went on. GATE: proven open. DIVERTER: proven (R261); reset false. -/
  proven : Bool
  /-- DIVERTER: position it is sent to. GATE: 1 commanded open, 0 commanded closed; reset none. -/
  target : Option Nat
  /-- Start of each watched condition, µs + 1, by cause (R264); reset none. -/
  conds : Tbl Nat
deriving DecidableEq, Repr

/-- Routes and elements (11). -/
structure Routes where
  /-- The 64 routes. -/
  r : Tbl Route
  /-- Save records, durable (R260). -/
  save : Tbl RouteSave
  /-- The 256 elements. -/
  e : Tbl Elem
  /-- Time of the last evaluation, µs (R260); reset 0. -/
  evalAt : Nat
deriving DecidableEq, Repr

/-- An empty ledger. -/
def Ledger.dflt : Ledger := { runS := [0, 0, 0, 0, 0], fanS := [0, 0, 0, 0, 0], starts := 0, campaignS := 0, campaigns := 0 }
/-- A Mast before its first evaluation. -/
def Mast.dflt : Mast :=
  { fresh := true, st := 0, gates := 0, n := 0, gaps := List.replicate 8 0, open_ := false, count := 0, flags := 0, tA := -32768,
    rhA := 0xFFFF, emcA := 0xFFFF, tG := -32768, mG := 0xFFFF, dT := 0, dM := 0, fronts := 0, passed := 0, slowest := 0,
    at_ := 0, forceTo := none, forceMin := 0, stage := 0, stageAt := 0, cycle := 0, minRunMet := false,
    minStopMet := true, runAt := 0, stopAt := 0, maintAt := 0, maint := false, newMode := false, lockItem := false,
    campCycle := 0, record := none }
/-- The Masts at manufacture. -/
def Masts.reset : Masts := { m := [], mode := [], led := [], saved := [], savedAt := 0, saveUs := 0, checkS := 0 }
/-- A save record never written. -/
def DryerSave.dflt : DryerSave := { st := 0, prev := 0, fault := 0, heatMs := 0, batches := 0, runMs := 0, entered := 0 }
/-- A dryer before its first evaluation. -/
def Dryer.dflt : Dryer :=
  { fresh := false, w := DryerSave.dflt, flags := 0, stepsVoid := 0, items := [],
    conds := [], fill := false, dump := false, alarm := false, blow := false, nBlow := 0, blowAt := 0, cool := false,
    pHeat := 0, pMeter := 0, heatAt := 0, cond := 0, heatRes := 0, meterRes := 0, moist := 0xFFFF, grainT := -32768,
    plenumT := -32768, evalMs := 0, tailAt := 0, tailHeld := 0, record := none }
/-- The dryers at manufacture. -/
def Dryers.reset : Dryers := { d := [], mode := [], save := [], evalAt := 0, saveAt := 0 }
/-- A save record never written. -/
def RouteSave.dflt : RouteSave :=
  { st := 0, fault := 0, pos := 0xFF, step := 0xFF, entered := 0, starts := 0, runMs := 0, holds := 0 }
/-- A route before its first evaluation. -/
def Route.dflt : Route :=
  { fresh := false, w := RouteSave.dflt, on := 0, proven := 0, stopped := 0, stopAt := [], gapAt := 0, gapOn := false,
    items := [], faulted := 0, fullAt := 0, notFullAt := 0, holdMs := 0, runOut := false, evalMs := 0 }
/-- An element at rest. -/
def Elem.dflt : Elem := { out := 0, onAt := 0, offAt := 0, proven := false, target := none, conds := [] }
/-- The routes at manufacture. -/
def Routes.reset : Routes := { r := [], save := [], e := [], evalAt := 0 }


/-- The state of the LX-100. -/
structure State where
  /-- Commands waiting, first in first out (the block's cut); reset empty. -/
  pending : List Instr
  /-- Count of free values drawn: the MODEL's own field (log 8); reset DESIGN CHOICE 0. -/
  free : Nat
  /-- Everything the module has sent, oldest first: the MODEL's own field (log 11); reset DESIGN
  CHOICE empty. -/
  wire : List Frame
  aon : Aon
  pwr : Pwr
  start : Start
  net : Net
  spi : Spi
  auth : Auth
  /-- Session slots 0 to 7 (R63). -/
  sess : Tbl Sess
  host : HostSt
  jrnl : Jrnl
  /-- Ownership records by object reference (R116). -/
  own : Tbl Own
  fw : Fw
  rig : Rig
  tt : Telltale
  /-- The 128 Halyard ports (06). -/
  hal : Tbl HalPort
  scan : Scan
  /-- The point table by POINT_ID (R18, R173). -/
  points : Tbl PointE
  /-- The front table by cable (R184). -/
  fronts : Tbl FrontE
  /-- FRONT_MODE and TARGET that a Mast's mode puts in place of a cable's (R170, R226): mode × 65,536 +
  TARGET as 16 bits + 1, 0 for none; reset none. -/
  cableOvr : Tbl Nat
  trend : Trend
  shv : Shv
  io : Fld
  masts : Masts
  dryers : Dryers
  routes : Routes
deriving DecidableEq, Repr

/-- The rig at manufacture (R143). -/
def Rig.reset : Rig :=
  { live := [], delta := [], bankA := Bank.empty, bankB := Bank.empty, base := 0xFF, next := 0xFF, version := 0,
    txn := none, imaged := [], pendingDone := none }

/-- The module as it leaves manufacture, held in cold reset (log 5). The live rig is loaded by each start. -/
def State.reset : State :=
  { pending := [], free := 0, wire := [], aon := Aon.reset, pwr := Pwr.reset, start := Start.reset,
    net := Net.reset, spi := Spi.reset, auth := Auth.reset, sess := [], host := HostSt.reset,
    jrnl := Jrnl.reset, own := [], fw := Fw.reset, rig := Rig.reset, tt := Telltale.reset, hal := [],
    scan := Scan.reset, points := [], fronts := [], cableOvr := [], trend := Trend.reset,
    shv := Shv.reset, io := Fld.reset, masts := Masts.reset, dryers := Dryers.reset, routes := Routes.reset }


end Sys2Proof.Machine
end

