-- ==== Sys2Proof/Machine/Desc.lean ====
section
/-! DEFINITION. The live rig as descriptors: lengths and index ranges (R123), reset values (the Reset
column of each chapter's descriptor table), and reading and writing descriptor fields (R7). -/
namespace Sys2Proof.Machine

/-- Key of a descriptor, and of the object with the same type code: DTYPE × 2²⁴ + INDEX (R33). -/
def dkey (dt i : Nat) : Nat := dt * 16777216 + i

/-- DTYPE or TYPE of a key. -/
def keyType (k : Nat) : Nat := k / 16777216

/-- INDEX of a key. -/
def keyIdx (k : Nat) : Nat := k % 16777216

/-- DLEN of each DTYPE, 0 for a code that is no DTYPE (R123). -/
def descLen (dt : Nat) : Nat :=
  match dt with
  | 0x01 => 64 | 0x02 => 16 | 0x03 => 32 | 0x04 => 256 | 0x05 => 256 | 0x06 => 64 | 0x07 => 1024
  | 0x08 => 256 | 0x09 => 64 | 0x0A => 128 | 0x0B => 64 | 0x0C => 32 | 0x0D => 32 | 0x0E => 32
  | 0x0F => 64 | 0x10 => 64 | 0x11 => 32 | 0x12 => 16 | 0x20 => 512 | 0x21 => 64 | 0x22 => 512
  | 0x23 => 64 | _ => 0

/-- One more than the greatest INDEX of each DTYPE (R123). -/
def descCount (dt : Nat) : Nat :=
  match dt with
  | 0x01 => 128 | 0x02 => 131072 | 0x03 => 2048 | 0x04 => 512 | 0x05 => 4096 | 0x06 => 512 | 0x07 => 16
  | 0x08 => 64 | 0x09 => 256 | 0x0A => 192 | 0x0B => 48 | 0x0C => 96 | 0x0D => 16 | 0x0E => 64
  | 0x0F => 16 | 0x10 => 256 | 0x11 => 128 | 0x12 => 256 | 0x20 => 1 | 0x21 => 8 | 0x22 => 512
  | 0x23 => 3 | _ => 0

/-- Whether DTYPE has a descriptor with this INDEX (R123: signers are numbered from 1). -/
def descExists (dt i : Nat) : Bool := decide (i < descCount dt) && (dt != 0x23 || i != 0)

/-- The object types of R34 and the number of objects of each; 0 for a code not in the table. -/
def objCount (ty : Nat) : Nat := if ty = 0x13 then 8 else if ty ≤ 0x12 then descCount ty else 0

/-- Whether a 32-bit object reference is valid (R33, R34): reserved bits zero, TYPE listed, INDEX in range. -/
def refOk (r : Nat) : Bool := decide (bits r 0 24 < objCount (bits r 24 8))

/-- Ownable types (R34). -/
def ownable (ty : Nat) : Bool :=
  ty == 0x04 || ty == 0x05 || ty == 0x07 || ty == 0x08 || ty == 0x0A || ty == 0x0B || ty == 0x0C || ty == 0x0D

/-- Non-zero reset values of a window set of R225: T_LO, T_HI, M_LO, M_HI given. -/
def winReset (off : Nat) (tlo thi mlo mhi : Int) : List (Nat × Bytes) :=
  [(off, leInt 2 tlo), (off + 2, leInt 2 thi), (off + 4, le 2 200), (off + 6, leInt 2 mlo),
   (off + 8, leInt 2 mhi), (off + 10, le 2 50), (off + 12, leInt 2 (-1500)), (off + 14, le 2 9000)]

/-- The reset values other than zero of each descriptor (R124, R125, R164, R169, R170, R197, R224, R225,
R239, R255, R257, R276, R284, R286, R294, R306, R327). -/
def descNonZero (dt i : Nat) : List (Nat × Bytes) :=
  match dt with
  | 0x01 => [(2, le 2 180), (6, le 1 2), (8, le 2 800), (10, le 2 16)]
  | 0x02 => [(12, le 2 0x7FFF), (14, le 2 100)]
  | 0x03 => [(1, le 1 3), (2, le 2 0xFFFF), (6, le 2 3), (8, le 2 50), (12, le 2 50), (14, le 2 60),
             (16, le 2 0xFFFF), (18, le 2 0xFFFF)]
  | 0x04 => [(4, le 2 0xFFFF), (6, le 1 3), (7, le 1 1), (8, List.replicate 8 0xFF#8),
             (16, List.replicate 64 0xFF#8), (112, le 2 0xFFFF), (114, le 2 32767), (118, le 2 10),
             (120, le 2 30), (122, le 2 30), (126, le 2 1000)]
            ++ winReset 128 (-32768) (-500) (-400) 150
            ++ winReset 144 (-32768) 32767 (-32768) (-100)
            ++ winReset 160 (-32768) (-300) (-400) 100
            ++ [(176, le 2 1000), (178, le 2 1400), (182, le 2 32767), (184, le 2 30), (186, le 2 2500),
                (190, le 2 60), (192, le 2 600)]
  | 0x05 => [(4, le 4 4000), (13, le 1 1), (20, le 4 10000), (58, le 2 655), (64, le 2 32767),
             (68, leInt 2 (-32768)), (70, le 2 32767), (84, le 2 1), (169, le 1 1), (178, le 2 32767),
             (180, le 2 1), (182, le 2 32767), (192, le 4 10000), (200, le 4 10000)]
  | 0x07 => [(1, le 1 1), (4, le 2 0xFFFF), (6, le 2 0xFFFF), (128, le 2 32767), (130, le 2 5), (132, le 2 5),
             (134, le 2 60), (136, le 2 120), (138, le 2 240), (140, le 2 1500), (142, le 2 5000),
             (144, le 2 2500), (146, le 2 20), (148, le 2 90), (150, le 2 60), (152, le 2 30),
             (154, le 2 4000), (156, le 2 60), (158, le 2 5000), (160, le 2 5), (162, le 2 30),
             (164, le 2 10), (166, le 2 15), (168, le 2 30), (170, le 2 30), (172, le 2 30), (174, le 2 16384)]
  | 0x08 => [(2, le 2 20), (4, le 2 50)]
  | 0x09 => [(2, le 2 100), (4, le 2 100), (6, le 2 20), (8, le 2 150), (10, le 2 10), (12, le 2 30),
             (56, List.replicate 4 0xFF#8), (60, le 1 0xFF)]
  | 0x0A => [(0, le 1 0x60), (2, le 2 25000), (8, le 1 2), (9, le 1 3), (12, le 2 2047), (14, le 2 2000),
             (16, le 2 5000), (18, le 2 300), (20, le 2 200), (22, le 2 3000), (24, le 2 10), (54, le 2 200)]
  | 0x0B => [(8, le 2 4000), (10, le 2 7000), (12, le 2 50), (14, le 2 0xFFFF), (16, le 2 24000), (18, le 2 200),
             (20, le 1 50)]
  | 0x0C => [(2, le 2 60), (8, le 2 10)]
  | 0x0F => [(2, le 1 0xFF), (11, le 1 4), (12, List.replicate 6 0xFF#8), (18, le 2 0xFFFF), (24, le 2 1000),
             (32, le 2 2)]
  | 0x10 => [(2, le 1 0xFF), (11, le 1 4), (12, List.replicate 6 0xFF#8), (18, le 2 0xFFFF), (24, le 2 1000),
             (26, le 2 100), (32, le 2 2)]
  | 0x11 => [(1, le 1 1)]
  | 0x12 => [(2, le 1 1)]
  | 0x20 => [(0, le 4 10000), (4, le 2 30), (6, le 2 60), (8, le 4 300), (12, le 4 600), (16, le 2 100),
             (18, le 2 2000)]
  | 0x21 => if i = 3 || i = 4 then
        [(8, le 1 1), (12, le 4 500000), (16, le 4 2000000), (20, le 2 800), (22, le 2 750)]
      else if i = 5 || i = 6 then [(8, le 1 1), (12, le 4 115200)] else []
  | _ => []

/-- The reset values other than zero of a curve slot's fields in the layout of a KIND (R175, R282). -/
def slotNonZero (kind : Nat) : List (Nat × Bytes) :=
  if kind = 1 then [(20, leInt 4 (-2147483648)), (24, le 4 2147483647)]
  else if kind = 2 then [(16, leInt 2 (-2000)), (18, le 2 6000), (20, le 2 1000), (22, le 2 9500)]
  else []

/-- An empty curve slot given a KIND takes that layout's reset values in the fields nothing has set (R175, R282). DESIGN
CHOICE (log 60): the spec gives one descriptor two layouts whose reset values meet in the same bytes. -/
def slotOpen (kind : Nat) (bs : Bytes) : Bytes :=
  if fld bs 0 1 = 0 && kind ≠ 0 then
    (slotNonZero kind).foldl (fun a p => if allZero (cut a p.1 p.2.length) then patch a p.1 p.2 else a) (patch bs 0 (le 1 kind))
  else bs

/-- A descriptor at its reset values. -/
def descReset (dt i : Nat) : Bytes :=
  (descNonZero dt i).foldl (fun bs p => patch bs p.1 p.2) (zeros (descLen dt))

/-- A descriptor of a table of descriptors: an object without an entry has its reset values (R122). -/
def descOf (t : Tbl Bytes) (dt i : Nat) : Bytes := Tbl.rd (descReset dt i) t (dkey dt i)

/-- The table with one descriptor written. -/
def descPut (t : Tbl Bytes) (k : Nat) (bs : Bytes) : Tbl Bytes :=
  Tbl.wr (descReset (keyType k) (keyIdx k)) t k bs

/-- A live descriptor. -/
def State.d (s : State) (dt i : Nat) : Bytes := descOf s.rig.live dt i

/-- An unsigned field of `n` bytes of a live descriptor. -/
def State.df (s : State) (dt i off n : Nat) : Nat := fld (s.d dt i) off n

/-- A signed field of `n` bytes of a live descriptor. -/
def State.dsf (s : State) (dt i off n : Nat) : Int := sfld (s.d dt i) off n

/-- Bits `[lo + n - 1 : lo]` of the byte at `off` of a live descriptor. -/
def State.db (s : State) (dt i off lo n : Nat) : Nat := bits (s.df dt i off 1) lo n

/-- ENABLE, bit 0 of every descriptor that has one. -/
def State.en (s : State) (dt i : Nat) : Bool := s.db dt i 0 0 1 == 1

/-- Indices of the descriptors of a DTYPE that are not at their reset values. -/
def listedIdx (t : Tbl Bytes) (dt : Nat) : List Nat :=
  (t.filter (fun e => keyType e.1 == dt)).map (fun e => keyIdx e.1)

/-- Indices of the enabled descriptors of a DTYPE, ascending. -/
def State.enabled (s : State) (dt : Nat) : List Nat :=
  (s.rig.live.filter (fun e => keyType e.1 == dt && bit (fld e.2 0 1) 0)).map (fun e => keyIdx e.1)

/-- The bare rig of R142 as a table of descriptors. -/
def bareRig : Tbl Bytes :=
  descPut (descPut (descPut []
    (dkey 0x21 0) (patch (patch (patch (descReset 0x21 0) 0 [1#8]) 16 [192#8, 168#8, 254#8, 100#8]) 20
      [255#8, 255#8, 255#8, 0#8]))
    (dkey 0x21 5) (patch (descReset 0x21 5) 0 [1#8]))
    (dkey 0x21 7) (patch (descReset 0x21 7) 0 [1#8])

/-- Ownership policy of an object: CLAIM or SHARED (R95; routes are always CLAIM). -/
def State.claim (s : State) (key : Nat) : Bool :=
  let i := keyIdx key
  match keyType key with
  | 0x04 => s.db 0x04 i 0 1 1 == 1
  | 0x05 => s.db 0x05 i 3 0 1 == 1
  | 0x07 => s.db 0x07 i 0 1 1 == 1
  | 0x08 => true
  | 0x0A => s.db 0x0A i 0 1 1 == 1
  | 0x0B => s.db 0x0B i 0 2 1 == 1
  | 0x0C => s.db 0x0C i 0 5 1 == 1
  | 0x0D => s.db 0x0D i 0 2 1 == 1
  | _ => false

/-! Host port descriptors in force (R125): the live one, but for one that a commit changes until its reply has been sent
(R138). -/

/-- A host port's descriptor in force. -/
def State.pd (s : State) (p : Nat) : Bytes := (Tbl.rd none s.net.held p).getD (s.d 0x21 p)
/-- An unsigned field of it. -/
def State.pdf (s : State) (p off n : Nat) : Nat := fld (s.pd p) off n
/-- Bits of one of its bytes. -/
def State.pdb (s : State) (p off lo n : Nat) : Nat := bits (s.pdf p off 1) lo n
/-- Its ENABLE. -/
def State.portEn (s : State) (p : Nat) : Bool := s.pdb p 0 0 1 == 1

/-! System descriptor fields (R124). -/

/-- SYS.SCAN_PERIOD in ms. -/
def State.scanPeriod (s : State) : Nat := s.df 0x20 0 0 4
/-- The bare rig is live with no Halyard port enabled in it: no scan runs (R142). -/
def State.bare (s : State) : Bool := s.rig.base == 0xFF && (s.enabled 0x01).isEmpty
/-- The scan period in force, 0 when scanning is stopped (R142, R188). -/
def State.period (s : State) : Nat := if s.bare then 0 else s.scanPeriod
/-- HOST_TIMEOUT in s. -/
def State.hostTimeout (s : State) : Nat := s.df 0x20 0 4 2
/-- FRONT_LOG_EVERY in minutes. -/
def State.frontLogEvery (s : State) : Nat := s.df 0x20 0 6 2
/-- SESSION_EXPIRY in s. -/
def State.sessionExpiry (s : State) : Nat := s.df 0x20 0 8 4
/-- ORPHAN_HOLD in s. -/
def State.orphanHold (s : State) : Nat := s.df 0x20 0 12 4
/-- SAFE_TIMEOUT in ms. -/
def State.safeTimeout (s : State) : Nat := s.df 0x20 0 16 2
/-- KEEP_WINDOW in ms. -/
def State.keepWindow (s : State) : Nat := s.df 0x20 0 18 2

end Sys2Proof.Machine
end

