-- ==== Sys2Proof/Machine/Real.lean ====
section
/-! DEFINITION. Real-valued steps of the spec: binary32 fields, and exp, ln, powers and sine in
fixed point with 96 fraction bits, far finer than the error bounds of R177 and R283. -/
namespace Sys2Proof.Machine

/-- The value of a binary32 field, `none` when it is not finite. -/
def f32 (w : Nat) : Option Rat :=
  let e := bits w 23 8
  let m := bits w 0 23
  let neg := bit w 31
  if e = 255 then none else
  let mag : Rat := if e = 0 then (m : Rat) / (2 ^ 149 : Nat)
    else if 150 ≤ e then (((2 ^ 23 + m) * 2 ^ (e - 150) : Nat) : Rat)
    else ((2 ^ 23 + m : Nat) : Rat) / ((2 ^ (150 - e) : Nat) : Rat)
  some (if neg then -mag else mag)

/-- The greatest magnitude a binary32 value may have. -/
def f32Max : Rat := ((2 ^ 24 - 1) * 2 ^ 104 : Nat)

/-- The floor of the base-2 logarithm of a rational at least 1, by the bits of its floor. -/
def log2Floor (q : Rat) : Nat := Nat.log2 q.floor.toNat

/-- A positive rational rounded to the nearest binary32, ties to even, as its bits. -/
def f32OfPos (q : Rat) : Nat :=
  let e : Int := if 1 ≤ q then (log2Floor q : Int) else -((log2Floor (1 / q) : Int)) - 1
  -- the exponent of q, corrected at exact powers of two below 1
  let e : Int := if 1 ≤ q then e else if (1 / q) = ((2 ^ log2Floor (1 / q) : Nat) : Rat) then -(log2Floor (1 / q) : Int) else e
  let e := if e < -126 then -126 else e
  let sc : Rat := if 23 - e < 0 then 1 / ((2 ^ (e - 23).toNat : Nat) : Rat) else ((2 ^ (23 - e).toNat : Nat) : Rat)
  let x := q * sc
  let f := x.floor
  let r := x - f
  let n : Nat := (if r < 1 / 2 then f else if 1 / 2 < r then f + 1 else if f % 2 = 0 then f else f + 1).toNat
  if n < 2 ^ 23 then n else
  let (n, e) := if n = 2 ^ 24 then (2 ^ 23, e + 1) else (n, e)
  if 127 < e then 0x7F800000 else (e + 127).toNat * 2 ^ 23 + (n - 2 ^ 23)

/-- A rational rounded to the nearest binary32, as its bits. -/
def f32Of (q : Rat) : Nat :=
  if q = 0 then 0 else if 0 < q then f32OfPos q else 2 ^ 31 + f32OfPos (-q)

/-- Fixed-point scale. -/
def fxOne : Int := 2 ^ 96

/-- A rational in fixed point. -/
def fxOf (q : Rat) : Int := (q * (2 ^ 96 : Nat)).floor

/-- The series of atanh: sum of z^(2k+1) / (2k+1) from term `2k+1 = m`, `n` terms. -/
def atanhSum (z2 : Int) : Nat → Nat → Int → Int → Int
  | 0, _, _, acc => acc
  | n + 1, m, pw, acc => atanhSum z2 n (m + 2) (pw * z2 / fxOne) (acc + pw / (m : Int))

/-- 2 atanh(z) for |z| at most 1/3. -/
def fxLnOfZ (z : Int) : Int := 2 * atanhSum (z * z / fxOne) 40 1 z 0

/-- ln 2. -/
def fxLn2 : Int := fxLnOfZ (fxOne / 3)

/-- ln of a positive rational, in fixed point. -/
def fxLn (q : Rat) : Int :=
  let e : Int := if 1 ≤ q then (log2Floor q : Int) else -((log2Floor (1 / q) : Int)) - 1
  let m : Rat := if 0 ≤ e then q / ((2 ^ e.toNat : Nat) : Rat) else q * ((2 ^ (-e).toNat : Nat) : Rat)
  e * fxLn2 + fxLnOfZ (fxOf ((m - 1) / (m + 1)))

/-- The Taylor series of exp: `n` terms from term `k`. -/
def expSum (r : Int) : Nat → Nat → Int → Int → Int
  | 0, _, _, acc => acc
  | n + 1, k, t, acc => expSum r n (k + 1) (t * r / fxOne / (k : Int)) (acc + t)

/-- exp of a fixed-point number; `none` above the binary32 range. -/
def fxExp (x : Int) : Option Rat :=
  let k := x / fxLn2
  let r := x - k * fxLn2
  let y := expSum r 44 1 fxOne 0
  if 128 < k then none
  else if k < -200 then some 0
  else some (if 0 ≤ k then (y : Rat) * ((2 ^ k.toNat : Nat) : Rat) / ((2 ^ 96 : Nat) : Rat)
    else (y : Rat) / (((2 ^ 96 : Nat) * 2 ^ (-k).toNat : Nat) : Rat))

/-- `a ^ b` for a positive base. -/
def ratPow (a b : Rat) : Option Rat := fxExp (fxOf (b * ((fxLn a : Rat) / ((2 ^ 96 : Nat) : Rat))))

/-- Square root of a non-negative rational, to 60 fraction bits. -/
def ratSqrt (q : Rat) : Rat := (Nat.sqrt ((q * (2 ^ 120 : Nat)).floor.toNat) : Rat) / ((2 ^ 60 : Nat) : Rat)

/-- π in fixed point. -/
def fxPi : Int := 3141592653589793238462643383279502884197169399375105820974944592 * fxOne / 10 ^ 63

/-- The Taylor series of sine: `n` terms from odd order `m`. -/
def sinSum (x2 : Int) : Nat → Nat → Int → Int → Int
  | 0, _, _, acc => acc
  | n + 1, m, t, acc => sinSum x2 n (m + 2) (-(t * x2 / fxOne / ((m + 1) * (m + 2) : Nat))) (acc + t)

/-- round(amp × sin(2π n / per)) (R221). -/
def sineSample (amp n per : Nat) : Int :=
  let k := n % per
  -- fold into the first half period
  let (k, neg) := if 2 * k < per then (k, false) else (per - k, true)
  let x : Int := 2 * fxPi * k / per
  -- fold into the first quarter
  let x := if fxPi < 2 * x then fxPi - x else x
  let v := divRound ((amp : Int) * sinSum (x * x / fxOne) 30 1 x 0) fxOne.toNat
  if neg then -v else v

end Sys2Proof.Machine
end

