-- ==== Sys2Proof/Machine/Curves.lean ====
section
/-! DEFINITION. Sensor curves (R282, R283): from a measured quantity to centi-units. -/
namespace Sys2Proof.Machine

/-- What a curve gives: a value, and whether it was held at an end of its form. -/
structure CurveOut where
  value : Rat
  held : Bool
deriving DecidableEq, Repr

/-- R(T) / R(0) of the Callendar–Van Dusen equation with the coefficients of IEC 60751, T in millionths of a degree
(PRESUMED: the standard's numbers, log 31). -/
def cvd (t : Int) : Rat :=
  let x : Rat := (t : Rat) / 1000000
  let a : Rat := 39083 / 10000000
  let b : Rat := -5775 / 10000000000
  let c : Rat := -4183 / 1000000000000000
  1 + a * x + b * x * x + (if t < 0 then c * (x - 100) * x * x * x else 0)

/-- Bisection of a rising function of millionths of a degree: f(lo) ≤ r < f(hi). -/
def bisect (f : Int → Rat) (r : Rat) : Nat → Int → Int → Int
  | 0, lo, _ => lo
  | n + 1, lo, hi =>
    let m := (lo + hi) / 2
    if f m ≤ r then bisect f r n m hi else bisect f r n lo m

/-- PT_IEC: −200 °C to 850 °C. -/
def ptIec (r0 x : Rat) : Option CurveOut :=
  if x ≤ 0 || r0 = 0 then none else
    let r := x / r0
    if r < cvd (-200000000) then some { value := -20000, held := true }
    else if cvd 850000000 < r then some { value := 85000, held := true }
    else some { value := ((bisect cvd r 32 (-200000000) 850000001 : Int) : Rat) / 10000, held := false }

/-- A thermocouple type of IEC 60584: the ends of its range and the temperature at which the second polynomial takes over, in
°C, and the coefficients of the two, each a number and the decimal places it is shifted by. -/
structure TcType where
  lo : Int
  hi : Int
  split : Int
  below : List (Int × Nat)
  above : List (Int × Nat)
deriving DecidableEq, Repr

/-- Type J (PRESUMED: the standard's numbers, log 16). -/
def tcJ : TcType :=
  { lo := -210, hi := 1200, split := 760,
    below := [(0, 0), (50381187815, 12), (3047583693, 14), (-8568106572, 17), (13228195295, 20), (-17052958337, 23),
     (20948090697, 26), (-12538395336, 29), (15631725697, 33)],
    above := [(29645625681, 8), (-14976127786, 10), (31787103924, 13), (-31847686701, 16), (15720819004, 19),
     (-30691369056, 23)] }

/-- Type K (PRESUMED: the standard's numbers, log 16). -/
def tcK : TcType :=
  { lo := -270, hi := 1372, split := 0,
    below := [(0, 0), (39450128025, 12), (23622373598, 15), (-32858906784, 17), (-49904828777, 19), (-67509059173, 21),
     (-57410327428, 23), (-31088872894, 25), (-10451609365, 27), (-19889266878, 30), (-16322697486, 33)],
    above := [(-17600413686, 12), (38921204975, 12), (18558770032, 15), (-99457592874, 18), (31840945719, 20),
     (-56072844889, 23), (56075059059, 26), (-32020720003, 29), (97151147152, 33), (-12104721275, 36)] }

/-- Type T (PRESUMED: the standard's numbers, log 16). -/
def tcT : TcType :=
  { lo := -270, hi := 400, split := 0,
    below := [(0, 0), (38748106364, 12), (44194434347, 15), (11844323105, 17), (20032973554, 18), (90138019559, 20),
     (22651156593, 21), (36071154205, 23), (38493939883, 25), (28213521925, 27), (14251594779, 29),
     (48768662286, 32), (1079553927, 33), (13945027062, 37), (79795153927, 41)],
    above := [(0, 0), (38748106364, 12), (3329222788, 14), (20618243404, 17), (-21882256846, 19), (10996880928, 21),
     (-30815758772, 24), (4547913529, 26), (-27512901673, 30)] }

/-- Type E (PRESUMED: the standard's numbers, log 16). -/
def tcE : TcType :=
  { lo := -270, hi := 1000, split := 0,
    below := [(0, 0), (58665508708, 12), (45410977124, 15), (-77998048686, 17), (-25800160843, 18), (-59452583057, 20),
     (-93214058667, 22), (-10287605534, 23), (-80370123621, 26), (-43979497391, 28), (-16414776355, 30),
     (-39673619516, 33), (-55827328721, 36), (-34657842013, 39)],
    above := [(0, 0), (5866550871, 11), (45032275582, 15), (28908407212, 18), (-33056896652, 20), (6502440327, 22),
     (-19197495504, 26), (-12536600497, 28), (21489217569, 31), (-14388041782, 34), (35960899481, 38)] }

/-- Type N (PRESUMED: the standard's numbers, log 16). -/
def tcN : TcType :=
  { lo := -270, hi := 1300, split := 0,
    below := [(0, 0), (26159105962, 12), (10957484228, 15), (-93841111554, 18), (-46412039759, 21), (-26303357716, 22),
     (-22653438003, 24), (-76089300791, 27), (-93419667835, 30)],
    above := [(0, 0), (25929394601, 12), (1571014188, 14), (43825627237, 18), (-25261169794, 20), (64311819339, 23),
     (-10063471519, 25), (99745338992, 29), (-60863245607, 32), (20849229339, 35), (-30682196151, 39)] }

/-- The type of a FORM, 0x02 to 0x06 (R283). -/
def tcType (form : Nat) : Option TcType :=
  match form with | 2 => some tcJ | 3 => some tcK | 4 => some tcT | 5 => some tcE | 6 => some tcN | _ => none

/-- A polynomial in T. -/
def tcPoly (t : Rat) : List (Int × Nat) → Rat
  | [] => 0
  | c :: cs => (c.1 : Rat) / ((10 ^ c.2 : Nat) : Rat) + t * tcPoly t cs

/-- The EMF in mV of a type at T in millionths of a degree; type K adds its exponential above 0 °C. -/
def tcEmf (form : Nat) (p : TcType) (t : Int) : Rat :=
  let x : Rat := (t : Rat) / 1000000
  if t ≤ p.split * 1000000 then tcPoly x p.below
  else
    let u := x - 1269686 / 10000
    let bump : Rat := if form = 3 then 1185976 / 10000000 * (fxExp (fxOf (-(1183432 / 10000000000) * (u * u)))).getD 0 else 0
    tcPoly x p.above + bump

/-- A thermocouple form: the temperature whose EMF is x mV and the EMF at the cold junction (centi-degrees) together, held at
the ends of the type's range. -/
def thermocouple (form : Nat) (x : Rat) (cj : Int) : Option CurveOut :=
  match tcType form with
  | none => none
  | some p =>
    let lo := p.lo * 1000000
    let hi := p.hi * 1000000
    let v := x + tcEmf form p (clampI lo hi (cj * 10000))
    if v < tcEmf form p lo then some { value := p.lo * 100, held := true }
    else if tcEmf form p hi < v then some { value := p.hi * 100, held := true }
    else some { value := ((bisect (tcEmf form p) v 32 lo (hi + 1) : Int) : Rat) / 10000, held := false }

/-- Point `j` of TABLE, X then Y. -/
def tablePt (d : Bytes) (j : Nat) : Option (Rat × Rat) :=
  (f32 (fld d (32 + 8 * j) 4)).map (fun x => (x, ((sfld d (36 + 8 * j) 4 : Int) : Rat)))

/-- Straight lines over the points from `p` on. -/
def tableLine (x : Rat) (p : Rat × Rat) : List (Rat × Rat) → CurveOut
  | [] => { value := p.2, held := decide (p.1 < x) }
  | q :: t =>
    if x ≤ q.1 then { value := if q.1 = p.1 then q.2 else p.2 + (x - p.1) * (q.2 - p.2) / (q.1 - p.1), held := false }
    else tableLine x q t

/-- TABLE: beyond the first or last X the end Y, held. -/
def tableAt (d : Bytes) (x : Rat) : Option CurveOut :=
  match (List.range (fld d 28 1)).filterMap (tablePt d) with
  | [] => none
  | p :: t => some (if x < p.1 then { value := p.2, held := true } else tableLine x p t)

/-- The exact value of a form in centi-units; none where it is undefined (R281). `cj` is the cold-junction temperature. -/
def curveForm (d : Bytes) (x : Rat) (cj : Int) : Option CurveOut :=
  let p (j : Nat) : Option Rat := f32 (fld d (4 + 4 * j) 4)
  let line (f : Rat) : Option CurveOut := some { value := f, held := false }
  match fld d 1 1, p 0, p 1, p 2 with
  | 0x01, some p0, _, _ => ptIec p0 x
  | 0x07, some p0, some p1, some p2 =>
    if x ≤ 0 then none else
      let l : Rat := (fxLn x : Rat) / ((2 ^ 96 : Nat) : Rat)
      let q := p0 + p1 * l + p2 * l * l * l
      if q = 0 then none else line ((1 / q - 27315 / 100) * 100)
  | 0x08, some p0, some p1, some p2 => line (p2 + (x - p0) * p1)
  | 0x09, some p0, some p1, _ => line (p0 + (x - 4) * (p1 - p0) / 16)
  | 0x0A, some p0, some p1, _ => line (p0 + p1 * x)
  | 0x0B, _, _, _ => tableAt d x
  | form, _, _, _ => thermocouple form x cj

/-- An integer within `n` of the exact value `x`, chosen by the free error `e` (R283, log 15). -/
def within (n : Nat) (x : Rat) (e : Int) : Int :=
  let r := ratRound x
  let v := r + clampI (-n) n e
  if (n : Rat) < (v : Rat) - x then v - 1 else if (v : Rat) - x < -(n : Rat) then v + 1 else v

/-- R281 steps 2 and 3 and R283: the count, within 2 counts of a thermocouple's form and 1 of any other, and OVER_RANGE; or
none where the form is undefined or not finite. `cj` is the cold-junction temperature in centi-degrees. -/
def sensorCurve (d : Bytes) (xBits : Nat) (cj : Int) : Option (Int × Bool) :=
  let form := fld d 1 1
  match f32 xBits with
  | none => none
  | some x =>
    match curveForm d x cj with
    | none => none
    | some o =>
      if f32Max < o.value || o.value < -f32Max then none
      else
        let v := within (if 2 ≤ form && form ≤ 6 then 2 else 1) o.value (Config.curveError d xBits cj)
        let w := clampI (sfld d 20 4) (sfld d 24 4) v
        some (w, o.held || decide (w ≠ v))

end Sys2Proof.Machine
end

