-- ==== Sys2Proof/Machine/Crypto.lean ====
section
/-! DEFINITION. The named algorithms of the packet, journal, bus and image formats: CRC-8 (R151),
CRC-16 (R344), CRC-32 (R52), SHA-256 and HMAC-SHA-256 (R62, R117), ECDSA P-256 (R84, R126). -/
namespace Sys2Proof.Machine

/-- One bit of a right-shifting CRC. -/
def crcShiftRight (poly c : Nat) : Nat :=
  if c % 2 = 1 then Nat.xor (c / 2) poly else c / 2

/-- One bit of a left-shifting CRC of width `w`. -/
def crcShiftLeft (w poly c : Nat) : Nat :=
  if 2 ^ (w - 1) ≤ c then Nat.xor ((2 * c) % 2 ^ w) poly else 2 * c

/-- `n` applications of `f`. -/
def iter {α : Type} (f : α → α) : Nat → α → α
  | 0, a => a
  | n + 1, a => iter f n (f a)

/-- CRC-32 of IEEE 802.3 (R52): reflected 0x04C1_1DB7, initial and final 0xFFFF_FFFF. -/
def crc32 (bs : Bytes) : Nat :=
  Nat.xor 0xFFFFFFFF
    (bs.foldl (fun c b => iter (crcShiftRight 0xEDB88320) 8 (Nat.xor c b.toNat)) 0xFFFFFFFF)

/-- CRC-8 of the Halyard bus (R151). -/
def crc8 (bs : Bytes) : Nat :=
  bs.foldl (fun c b => iter (crcShiftLeft 8 0x31) 8 (Nat.xor c b.toNat)) 0xFF

/-- CRC-16/CCITT of Telltale records (R344). -/
def crc16 (bs : Bytes) : Nat :=
  bs.foldl (fun c b => iter (crcShiftLeft 16 0x1021) 8 (Nat.xor c (b.toNat * 256))) 0xFFFF

/-- Rotate a 32-bit word right. -/
def rotr (x n : Nat) : Nat := (x >>> n) ||| ((x <<< (32 - n)) % 4294967296)

/-- Sixteen round constants of SHA-256 as one number of 512 bits, the first of them uppermost: quarter `q` of the 64. -/
def shaQuarter (q : Nat) : Nat :=
  match q with
  | 0 =>
    0x428a2f9871374491b5c0fbcfe9b5dba53956c25b59f111f1923f82a4ab1c5ed5d807aa9812835b01243185be550c7dc372be5d7480deb1fe9bdc06a7c19bf174
  | 1 =>
    0xe49b69c1efbe47860fc19dc6240ca1cc2de92c6f4a7484aa5cb0a9dc76f988da983e5152a831c66db00327c8bf597fc7c6e00bf3d5a7914706ca635114292967
  | 2 =>
    0x27b70a852e1b21384d2c6dfc53380d13650a7354766a0abb81c2c92e92722c85a2bfe8a1a81a664bc24b8b70c76c51a3d192e819d6990624f40e3585106aa070
  | _ =>
    0x19a4c1161e376c082748774c34b0bcb5391c0cb34ed8aa4a5b9cca4f682e6ff3748f82ee78a5636f84c878148cc7020890befffaa4506cebbef9a3f7c67178f2

/-- The constant of round `i`. -/
def shaConst (i : Nat) : Nat := bits (shaQuarter (i / 16)) (32 * (15 - i % 16)) 32

/-- The eight words that hashing begins with, as one number of 256 bits. -/
def shaStart : Nat := 0x6a09e667bb67ae853c6ef372a54ff53a510e527f9b05688c1f83d9ab5be0cd19

/-- The eight working words and the window of the next sixteen schedule words. -/
structure ShaSt where
  a : Nat
  b : Nat
  c : Nat
  d : Nat
  e : Nat
  f : Nat
  g : Nat
  h : Nat
  w : List Nat

/-- The exclusive or of a word turned right by each of some counts, and of what `z` is. -/
def shaTurns (x z : Nat) (ns : List Nat) : Nat := ns.foldl (fun y n => Nat.xor y (rotr x n)) z

/-- The window of the schedule moves on by a word. -/
def shaWindow (w : List Nat) : List Nat :=
  let x := w.getD 1 0
  let y := w.getD 14 0
  w.tail ++ [(w.headD 0 + w.getD 9 0 + shaTurns x (x / 2 ^ 3) [7, 18] + shaTurns y (y / 2 ^ 10) [17, 19]) % 2 ^ 32]

/-- A round with its constant: the eight words move down one place, and two new ones come in. -/
def shaRound (s : ShaSt) (k : Nat) : ShaSt :=
  let choose := Nat.xor s.g (s.e &&& Nat.xor s.f s.g)
  let most := (s.a &&& s.b) ||| (s.c &&& (s.a ||| s.b))
  let t := s.h + k + s.w.headD 0 + choose + shaTurns s.e 0 [6, 11, 25]
  ⟨(t + most + shaTurns s.a 0 [2, 13, 22]) % 2 ^ 32, s.a, s.b, s.c, (s.d + t) % 2 ^ 32, s.e, s.f, s.g, shaWindow s.w⟩

/-- The next `n` words of four bytes, most significant first. -/
def beWords : Nat → Bytes → List Nat
  | 0, _ => []
  | n + 1, bs => beNat (bs.take 4) :: beWords n (bs.drop 4)

/-- One block of 64 bytes: 64 rounds, whose words are then added to those before. -/
def shaBlock (hs : List Nat) (blk : Bytes) : List Nat :=
  let at_ (i : Nat) : Nat := hs.getD i 0
  let s := (List.range 64).foldl (fun s i => shaRound s (shaConst i))
    ⟨at_ 0, at_ 1, at_ 2, at_ 3, at_ 4, at_ 5, at_ 6, at_ 7, beWords 16 blk⟩
  List.zipWith (fun x y => (x + y) % 2 ^ 32) hs [s.a, s.b, s.c, s.d, s.e, s.f, s.g, s.h]

/-- `n` blocks. -/
def shaBlocks : Nat → List Nat → Bytes → List Nat
  | 0, hs, _ => hs
  | n + 1, hs, bs => shaBlocks n (shaBlock hs (bs.take 64)) (bs.drop 64)

/-- SHA-256: 32 octets in the order produced. -/
def sha256 (msg : Bytes) : Bytes :=
  let padded := msg ++ [0x80#8] ++ zeros ((119 - msg.length % 64) % 64) ++ be 8 (8 * msg.length)
  (shaBlocks (padded.length / 64) (beWords 8 (be 32 shaStart)) padded).flatMap (be 4)

/-- HMAC-SHA-256 with a key of at most 64 octets. -/
def hmac (key msg : Bytes) : Bytes :=
  let k := fit 64 key
  sha256 (xorBytes k (List.replicate 64 0x5c#8) ++ sha256 (xorBytes k (List.replicate 64 0x36#8) ++ msg))

/-! ECDSA over P-256. -/

/-- The field prime of P-256. -/
def p256P : Nat := 0xffffffff00000001000000000000000000000000ffffffffffffffffffffffff
/-- The group order of P-256. -/
def p256N : Nat := 0xffffffff00000000ffffffffffffffffbce6faada7179e84f3b9cac2fc632551
/-- The constant b of the curve y² = x³ − 3x + b. -/
def p256B : Nat := 0x5ac635d8aa3a93e7b3ebbd55769886bc651d06b0cc53b0f63bce3c3e27d2604b
/-- The base point's x. -/
def p256Gx : Nat := 0x6b17d1f2e12c4247f8bce6e563a440f277037d812deb33a0f4a13945d898c296
/-- The base point's y. -/
def p256Gy : Nat := 0x4fe342e2fe1a7f9b8ee7eb4a7c0f9e162bce33576b315ececbb6406837bf51f5

/-- `b ^ e mod m` over the low `n` bits of `e`, from the top. -/
def powMod (m b e : Nat) : Nat → Nat → Nat
  | 0, acc => acc
  | n + 1, acc =>
    let sq := acc * acc % m
    powMod m b e n (if e.testBit n then sq * b % m else sq)

/-- Inverse modulo a prime, by Fermat. -/
def invMod (m a : Nat) : Nat := powMod m (a % m) (m - 2) 256 1

/-- A point in Jacobian coordinates; z = 0 is the point at infinity. -/
structure JPoint where
  x : Nat
  y : Nat
  z : Nat

/-- Point doubling for a = −3. -/
def jDouble (q : JPoint) : JPoint :=
  let m := p256P
  let ysq := q.y * q.y % m
  let sv := 4 * q.x * ysq % m
  let zsq := q.z * q.z % m
  let t := 3 * ((q.x + (m - zsq % m)) % m) * ((q.x + zsq) % m) % m
  let x3 := (t * t + 2 * (m - sv)) % m
  let y3 := (t * ((sv + (m - x3)) % m) + (m - 8 * ysq * ysq % m)) % m
  { x := x3, y := y3, z := 2 * q.y * q.z % m }

/-- Point addition. -/
def jAdd (a b : JPoint) : JPoint :=
  let m := p256P
  if a.z = 0 then b else if b.z = 0 then a else
  let z1 := a.z * a.z % m
  let z2 := b.z * b.z % m
  let u1 := a.x * z2 % m
  let u2 := b.x * z1 % m
  let s1 := a.y * z2 % m * b.z % m
  let s2 := b.y * z1 % m * a.z % m
  if u1 = u2 then (if s1 = s2 then jDouble a else { x := 1, y := 1, z := 0 }) else
  let h := (u2 + (m - u1)) % m
  let r := (s2 + (m - s1)) % m
  let h2 := h * h % m
  let h3 := h2 * h % m
  let v := u1 * h2 % m
  let x3 := (r * r + (m - h3) + 2 * (m - v)) % m
  let y3 := (r * ((v + (m - x3)) % m) + (m - s1 * h3 % m)) % m
  { x := x3, y := y3, z := h * a.z % m * b.z % m }

/-- Scalar multiple over the low `n` bits of `k`, from the top. -/
def jMul (k : Nat) (q : JPoint) : Nat → JPoint → JPoint
  | 0, acc => acc
  | n + 1, acc =>
    let d := jDouble acc
    jMul k q n (if k.testBit n then jAdd d q else d)

/-- `k` times the point (x, y). -/
def pointMul (k x y : Nat) : JPoint := jMul k { x := x, y := y, z := 1 } 256 { x := 1, y := 1, z := 0 }

/-- The affine coordinates of a point other than infinity. -/
def affine (q : JPoint) : Nat × Nat :=
  let zi := invMod p256P q.z
  let z2 := zi * zi % p256P
  (q.x * z2 % p256P, q.y * z2 % p256P * zi % p256P)

/-- Whether (x, y) is a point of the curve (R137, SIGNER). -/
def onCurve (x y : Nat) : Bool :=
  x < p256P && y < p256P &&
    y * y % p256P == (x * x % p256P * x + (p256P - 3) * x + p256B) % p256P

/-- ECDSA P-256 verification of a digest against the key (x, y). -/
def ecdsaVerify (x y : Nat) (digest : Bytes) (r s : Nat) : Bool :=
  onCurve x y && 0 < r && r < p256N && 0 < s && s < p256N &&
    (let z := beNat digest
     let w := invMod p256N s
     let q := jAdd (pointMul (z * w % p256N) p256Gx p256Gy) (pointMul (r * w % p256N) x y)
     q.z != 0 && (affine q).1 % p256N == r)

/-- An ECDSA P-256 signature r, s of a digest with private key `d` and nonce `k`. -/
def ecdsaSign (d k : Nat) (digest : Bytes) : Nat × Nat :=
  let r := (affine (pointMul k p256Gx p256Gy)).1 % p256N
  (r, invMod p256N k * ((beNat digest + r * d) % p256N) % p256N)

end Sys2Proof.Machine
end

