-- ==== Sys2Proof/Machine/Ops.lean ====
section
/-! DEFINITION. The named operations every family uses: time, readiness, Telltale occurrences,
sending, notifications, the journal, ownership and token buckets. -/
namespace Sys2Proof.Machine

/-! ## Time and readiness -/

/-- OPTIME: ms of powered time, 48 bits (R15, R365). -/
def State.optime (s : State) : Nat := s.aon.nowUs / 1000

/-- Whether the instant `t` (µs) lies before the next tick edge, so that what is due then may come
about (log 2). -/
def State.due (s : State) (t : Nat) : Bool := decide (t < s.aon.nowUs + 250)

/-- The module runs (R376). -/
def State.up (s : State) : Bool := s.pwr.phase == .run

/-- READY, 64 bits (R381): bits 0 to 17 as set, bits 32 to 35 by their condition. -/
def State.readyWord (s : State) : Nat :=
  s.start.ready + 2 ^ 32 * (b2n (!s.pwr.xt25Fail) + 2 * b2n (!s.pwr.xt32Fail) + 4 * b2n (!s.pwr.vioLow)
    + 8 * b2n (!s.pwr.sag))

/-- A READY bit. -/
def State.rdy (s : State) (n : Nat) : Bool := bit s.start.ready n

/-- Set a READY bit; it stays set until the next start (R381). -/
def State.setRdy (s : State) (n : Nat) : State :=
  { s with start := { s.start with ready := s.start.ready ||| 2 ^ n } }

/-- A fresh free value (log 8). -/
def State.draw (s : State) : Nat × State :=
  ((Config.freeBits s.free).toNat, { s with free := s.free + 1 })

/-- A session slot. -/
def State.ses (s : State) (k : Nat) : Sess := Tbl.rd Sess.dflt s.sess k

/-- Write a session slot. -/
def State.setSes (s : State) (k : Nat) (v : Sess) : State :=
  { s with sess := Tbl.wr Sess.dflt s.sess k v }

/-- Apply to each index of a list in order. -/
def forAll {α : Type} (l : List α) (f : α → State → State) (s : State) : State :=
  l.foldl (fun st a => f a st) s

/-- The session slots. -/
def slots : List Nat := [0, 1, 2, 3, 4, 5, 6, 7]

/-- The live slot whose SESSION_JSEQ is `j`. -/
def State.slotOf (s : State) (j : Nat) : Option Nat :=
  slots.find? (fun k => (s.ses k).live && (s.ses k).jseq == j)

/-- Number of live sessions (R78). -/
def State.liveCount (s : State) : Nat := (slots.filter (fun k => (s.ses k).live)).length

/-! ## Telltale occurrences (R347 to R351) -/

/-- The codes of R346. -/
def ttCodes : List Nat :=
  [0x0141, 0x0142, 0x0181, 0x0182, 0x0183, 0x02C1, 0x0341, 0x03C1, 0x0481, 0x0482, 0x0483, 0x0484,
   0x0581, 0x05C1, 0x05C2, 0x0641, 0x0681, 0x0781, 0x0782, 0x07C1, 0x08C1]
  ++ [0x0981, 0x09C1, 0x09C2, 0x09C3, 0x09C4, 0x0A81, 0x0AC1, 0x0B01, 0x0B03, 0x0B04, 0x0B81, 0x0C01,
   0x0CC1, 0x0CC2, 0x0D41, 0x0DC1]

/-- SUMMARY, OVERFLOW, TIME_MARK, CLEARED and START are never limited (R349). -/
def ttExempt (code : Nat) : Bool :=
  code == 0x0B01 || code == 0x0B81 || code == 0x0B03 || code == 0x0B04 || code == 0x0C01

/-- Limits of a code (R349). -/
def State.ttLim (s : State) (code : Nat) : Limits := Tbl.rd (Limits.dflt code) s.tt.limits code

/-- Bucket of a code. -/
def State.ttBkt (s : State) (code : Nat) : Bucket := Tbl.rd Bucket.dflt s.tt.buckets code

/-- Write the bucket of a code. -/
def State.setBkt (s : State) (code : Nat) (b : Bucket) : State :=
  { s with tt := { s.tt with buckets := Tbl.wr Bucket.dflt s.tt.buckets code b } }

/-- Count a lost occurrence (R348). -/
def ttLose (code : Nat) (s : State) : State :=
  if s.tt.lost = 0 then
    { s with tt := { s.tt with lost := 1, lostCode := code, lostAt := s.optime } }
  else { s with tt := { s.tt with lost := satInc 0xFFFFFFFF s.tt.lost } }

/-- An occurrence that has passed its limiter enters the intake FIFO of 64, or is lost; its stamp is
never earlier than the one before it (R347, R348). -/
def ttEnter (stamp code source : Nat) (data : Bytes) (s : State) : State :=
  if s.tt.fifo.length < 64 then
    let t := if stamp < s.tt.stamp then s.tt.stamp else stamp
    let o : TOcc := { optime := t, powercycle := s.aon.powercycle, code := code, source := source, data := data }
    { s with tt := { s.tt with fifo := s.tt.fifo ++ [o], stamp := t } }
  else ttLose code s

/-- The record RNUM of the newest record (R342). -/
def State.newest (s : State) : Nat := s.tt.next - 1

/-- The limiter: LX-20 mode takes every occurrence (R351), otherwise a token is taken or the occurrence is suppressed
(R349). -/
def ttLimit (stamp code source : Nat) (data : Bytes) (s : State) : State :=
  if s.tt.lx20 || ttExempt code then ttEnter stamp code source data s
  else
    let b := s.ttBkt code
    if b.spent < (s.ttLim code).burst then
      let b' := { b with spent := b.spent + 1, refillAt := if b.spent = 0 then s.aon.nowUs else b.refillAt }
      ttEnter stamp code source data (s.setBkt code b')
    else
      let b' := { b with
        supp := satInc 0xFFFFFFFF b.supp, firstAt := if b.supp = 0 then stamp else b.firstAt, source := source }
      s.setBkt code b'

/-- An occurrence detected by a die: 0 control, 1 port, 2 power 0, 3 power 1. During a warm reset the
control die detects none and each other die holds up to 32 (R347). -/
def ttOccur (die code source : Nat) (data : Bytes) (s : State) : State :=
  match s.pwr.phase with
  | .cold => s
  | .run => ttLimit s.optime code source data s
  | .warm =>
    if die = 0 then s else
      let st := Tbl.rd [] s.tt.stores die
      if st.length < 32 then
        let o : TOcc :=
          { optime := s.optime, powercycle := s.aon.powercycle, code := code, source := source, data := data }
        { s with tt := { s.tt with stores := Tbl.wr [] s.tt.stores die (st ++ [o]) } }
      else ttLose code s

/-- A discarded packet (R61, R346): reason, port and SESSION field. -/
def ttDiscard (reason port session : Nat) (s : State) : State :=
  ttOccur 0 0x0181 0 [BitVec.ofNat 8 reason, BitVec.ofNat 8 port, BitVec.ofNat 8 session] s

/-! ## Sending (R37 to R39, R45 to R55) -/

/-- A host port. -/
def State.port (s : State) (p : Nat) : PortSt := Tbl.rd PortSt.dflt s.net.ports p

/-- Write a host port. -/
def State.setPort (s : State) (p : Nat) (v : PortSt) : State :=
  { s with net := { s.net with ports := Tbl.wr PortSt.dflt s.net.ports p v } }

/-- Ports whose lands follow VIO: RMII, CAN0, CAN1 and SPI (R363). -/
def vioPort (p : Nat) : Bool := p == 2 || p == 3 || p == 4 || p == 7

/-- A port takes part on its medium: the module runs and its ports have their settings, the live rig
enables it (R36), and VIO stands where its lands need it (R363). -/
def State.portOn (s : State) (p : Nat) : Bool :=
  s.up && s.rdy 2 && s.portEn p && !(vioPort p && s.pwr.vioLow)

/-- Link up, where the port has a link state (R40). -/
def State.linkUp (s : State) (p : Nat) : Bool :=
  if p < 3 then (s.port p).up else if p < 5 then !s.net.busOff.contains p else true

/-- Bytes of host queues region in use: waiting commands and queued outbound packets (log 12). -/
def State.regionUsed (s : State) : Nat :=
  (s.host.queue.map (fun c => 40 + c.payload.length)).sum
    + (s.net.ports.map (fun e => (e.2.outQ.map (fun o => o.bytes.length)).sum)).sum

/-- The region of R18 less the front table of R184 (log 12). -/
def regionSize : Nat := 1048576 - 65536

/-- Whether the region takes `n` more bytes. -/
def State.roomFor (s : State) (n : Nat) : Bool := decide (s.regionUsed + n ≤ regionSize)

/-- Notices queued for a session; its notification queue takes 64 (R190). -/
def State.noticesQueued (s : State) (sess : Nat) : Nat :=
  (s.net.ports.map (fun e => (e.2.outQ.filter (fun o => o.notice && o.sess == sess)).length)).sum

/-- Count a dropped reply or notification for its session, when it is still live (R38, R79). -/
def dropFor (slot sess : Nat) (s : State) : State :=
  let x := s.ses slot
  if x.live && x.jseq == sess then s.setSes slot { x with drops := satInc 0xFFFFFFFF x.drops } else s

/-- One's complement sum of 16-bit words, first octet most significant. -/
def onesSum : Bytes → Nat
  | [] => 0
  | [a] => a.toNat * 256
  | a :: b :: t => a.toNat * 256 + b.toNat + onesSum t

/-- Fold carries into 16 bits. -/
def fold16 (n : Nat) : Nat := iter (fun x => x % 65536 + x / 65536) 4 n

/-- UDP checksum over pseudo-header, header and data (R45); a sum that would read zero is sent as all ones. -/
def udpSum (src dst sport dport : Nat) (data : Bytes) : Nat :=
  let ph := be 4 src ++ be 4 dst ++ [0x00#8, 0x11#8] ++ be 2 (8 + data.length)
  let c := 65535 - fold16 (onesSum (ph ++ be 2 sport ++ be 2 dport ++ be 2 (8 + data.length) ++ zeros 2 ++ data))
  if c = 0 then 65535 else c

/-- Cut into pieces of `k` bytes; `n` bounds the number of pieces. -/
def chunks (k : Nat) : Nat → Bytes → List Bytes
  | 0, _ => []
  | n + 1, bs => if bs.length ≤ k then [bs] else bs.take k :: chunks k n (bs.drop k)

/-- The IPv4 address of an Ethernet interface (R44, R125). -/
def State.ipOf (s : State) (i : Nat) : Nat := beNat (cut (s.pd i) 16 4)

/-- The neighbour that an interface hands a packet for `dst` to (R44): `dst` itself within the rig's subnet, else the
gateway. DESIGN CHOICE (log 46): with GATEWAY 0.0.0.0 there is no gateway and `dst` itself is the neighbour. -/
def State.hopOf (s : State) (i dst : Nat) : Nat :=
  let mask := beNat (cut (s.pd i) 20 4)
  let gate := beNat (cut (s.pd i) 24 4)
  if dst &&& mask == s.ipOf i &&& mask || gate == 0 then dst else gate

/-- An IPv4 datagram in packets of the MTU of 1,500 B (R46). -/
def ipFrames (s : State) (i proto dst : Nat) (payload : Bytes) : List Frame :=
  let ps := chunks 1480 8 payload
  ps.mapIdx (fun n b => Frame.ip i (s.hopOf i dst) dst proto (1480 * n) (decide (n + 1 < ps.length)) b)

/-- A datagram from port 18430 (R45, R46). -/
def udpFrames (s : State) (iface addr : Nat) (bytes : Bytes) : List Frame :=
  let ck := udpSum (s.ipOf iface) (addr / 65536) 18430 (addr % 65536) bytes
  ipFrames s iface 17 (addr / 65536)
    (be 2 18430 ++ be 2 (addr % 65536) ++ be 2 (8 + bytes.length) ++ be 2 ck ++ bytes)

/-- The CAN FD data lengths above 8. -/
def canDlc (n : Nat) : Nat :=
  if n ≤ 8 then n else if n ≤ 12 then 12 else if n ≤ 16 then 16 else if n ≤ 20 then 20
  else if n ≤ 24 then 24 else if n ≤ 32 then 32 else if n ≤ 48 then 48 else 64

/-- Later segments of a packet (R48). -/
def canRest : Nat → Nat → Bytes → List Bytes
  | 0, _, _ => []
  | n + 1, seq, bs =>
    if bs.length = 0 then [] else
    let last := decide (bs.length ≤ 63)
    let body := BitVec.ofNat 8 ((if last then 64 else 0) + seq % 64) :: bs.take 63
    fit (canDlc body.length) body :: canRest n (seq + 1) (bs.drop 63)

/-- The segments of a packet as data fields, filled with zeros to the data length (R48). -/
def canSegments (bs : Bytes) : List Bytes :=
  let last := decide (bs.length ≤ 61)
  let body := BitVec.ofNat 8 (128 + (if last then 64 else 0)) :: (le 2 bs.length ++ bs.take 61)
  fit (canDlc body.length) body :: canRest 131 1 (bs.drop 61)

/-- The frames that carry a packet to CAN node `dst` (R47, R48, R50). -/
def canFrames (s : State) (p dst : Nat) (bs : Bytes) : List Frame :=
  let ident := s.pdb p 9 0 5 * 2 ^ 24 + 2 ^ 23 + s.pdb p 8 0 7 * 2 ^ 16 + dst * 2 ^ 9
  (canSegments bs).map (fun d => Frame.can p ident (s.pdb p 10 0 1 == 1) d)

/-- Put a frame on the trace of what the module sends (log 11). -/
def emit (fs : List Frame) (s : State) : State := { s with wire := s.wire ++ fs }

/-- Send a packet: it queues for its port while the port takes part, its link is up and the region has room; otherwise it
is lost and counted for its session (R37 to R39, R53, R55, log 12). DESIGN CHOICE (log 47): a reply lost because the region
is full raises DROPS as R38 has a reply raise it that link loss discards; R79 words DROPS as dropped notifications. -/
def send (port addr slot sess : Nat) (notice : Bool) (bytes : Bytes) (s : State) : State :=
  if s.portOn port && s.linkUp port && s.roomFor bytes.length && !(notice && decide (64 ≤ s.noticesQueued sess)) then
    let q := s.port port
    s.setPort port { q with
      outQ := q.outQ ++ [{ slot := slot, sess := sess, notice := notice, addr := addr, bytes := bytes }] }
  else dropFor slot sess s

/-! ## Packets out (R59, R62, R70, R71, R75) -/

/-- A packet's header and payload with its tag (R62). An empty key gives the tag of 16 zero bytes. -/
def tagged (ks body : Bytes) : Bytes := body ++ (if ks = [] then zeros 16 else (hmac ks body).take 16)

/-- A packet from the device: header, payload and tag. -/
def packetOut (session op tag : Nat) (payload ks : Bytes) : Bytes :=
  tagged ks ([0x58#8, 0x4C#8, 1#8, 1#8, BitVec.ofNat 8 session, 0#8] ++ le 2 op ++ le 8 tag
    ++ le 2 payload.length ++ zeros 6 ++ payload)

/-- A queued packet as it leaves: JHEAD of a notification is the journal head at the time of sending (R75), under the tag
of the session's K_S. -/
def sealed (o : OutPkt) (s : State) : Bytes :=
  if o.notice then tagged (s.ses o.slot).ks (patch (o.bytes.take (o.bytes.length - 16)) 32 (le 8 s.jrnl.head))
  else o.bytes

/-- The frames that carry a packet on an Ethernet or CAN port (R45 to R48). -/
def packetFrames (p : Nat) (o : OutPkt) (s : State) : List Frame :=
  if p < 3 then udpFrames s p o.addr (sealed o s) else canFrames s p o.addr (sealed o s)

/-- An Ethernet or CAN port sends its next frame: of the packet being sent, else of the oldest one queued (log 48). -/
def sendNext (p : Nat) (s : State) : State :=
  let q := s.port p
  let go (t : List OutPkt) (fs : List Frame) : State := emit (fs.take 1) (s.setPort p { q with outQ := t, sending := fs.drop 1 })
  if !s.portOn p || !s.linkUp p then s
  else match q.sending, q.outQ with
    | f :: fs, t => go t (f :: fs)
    | [], o :: t => go t (packetFrames p o s)
    | [], [] => s

/-- What is queued for a port is discarded and counted, and what it is sending stops (R38). -/
def dropQueued (p : Nat) (s : State) : State :=
  forAll (s.port p).outQ (fun o st => dropFor o.slot o.sess st) (s.setPort p { s.port p with outQ := [], sending := [] })

/-- The reply block (R71). -/
def replyBlock (status items prior rflags jseq : Nat) : Bytes :=
  le 2 status ++ le 2 items ++ le 2 prior ++ [BitVec.ofNat 8 rflags, 0#8] ++ le 8 jseq

/-- The outcome vector, filled to a multiple of 4 B (R73). -/
def outcomeVec (os : List Nat) : Bytes :=
  os.flatMap (le 2) ++ zeros (2 * (os.length % 2))

/-- The notice block (R75): OPTIME and the journal head. -/
def noticeBlock (s : State) : Bytes := le 6 s.optime ++ zeros 2 ++ le 8 s.jrnl.head

/-- One notification to a session that asked for its kind (R75). -/
def notifyOne (k bitNo op : Nat) (body : Bytes) (s : State) : State :=
  let x := s.ses k
  if x.live && bit x.mask bitNo then
    let s1 := s.setSes k { x with notice := x.notice + 1 }
    send x.port x.addr k x.jseq true (packetOut k op (x.notice + 1) (noticeBlock s ++ body) x.ks) s1
  else s

/-- A notification to every session that asked for its kind (R75). -/
def notify (bitNo op : Nat) (body : Bytes) (s : State) : State :=
  forAll slots (fun k st => notifyOne k bitNo op body st) s

/-! ## The journal (R108 to R113) -/

/-- Entries a command of `n` items takes (R108). -/
def entryCount (n : Nat) : Nat := if n ≤ 24 then 1 else 1 + (n - 24 + 41) / 42

/-- Two different bits of one 64-bit word of a record in error: which ones is open (R21, log 19). -/
def damageWord (what num : Nat) (bs : Bytes) : Bytes :=
  let f := (Config.badBits what num).toNat
  let w := 64 * (f / 4096 % (bs.length / 8))
  let flip (b : Bytes) (n : Nat) : Bytes := b.set (n / 8) (b.getD (n / 8) 0#8 ^^^ BitVec.ofNat 8 (2 ^ (n % 8)))
  flip (flip bs (w + f % 64)) (w + (f % 64 + 1 + f / 64 % 63) % 64)

/-- A journal entry as its 128 stored bytes (R109, R110): with a word in error when it is damaged in the memory die
(R115), and as read, but for JSEQ, STATE and CRC, once the Bosun has marked it DAMAGED (R113). -/
def JEntry.bytes (e : JEntry) (bad : Bool) : Bytes :=
  let b := if e.kind = 2 then
      le 8 e.jseq ++ le 8 e.parent ++ le 8 e.sess ++ le 2 e.first ++ le 2 e.outcomes.length ++ zeros 10
        ++ [2#8, BitVec.ofNat 8 e.state] ++ fit 84 (e.outcomes.flatMap (le 2))
    else
      le 8 e.jseq ++ le 6 e.optime ++ zeros 2 ++ le 8 e.sess ++ le 8 e.tag ++ le 4 e.powercycle ++ le 2 e.opcode
        ++ [BitVec.ofNat 8 e.kind, BitVec.ofNat 8 e.slot, BitVec.ofNat 8 e.state, BitVec.ofNat 8 e.role]
        ++ le 2 e.status ++ le 2 e.items ++ [BitVec.ofNat 8 e.cont, BitVec.ofNat 8 e.reason]
        ++ fit 16 e.pdigest ++ fit 48 (e.outcomes.flatMap (le 2)) ++ zeros 12
  let w := b ++ le 4 (crc32 b)
  let hit := damageWord 0 e.jseq w
  if e.state = 4 then
    let k := if e.kind = 2 then 39 else 40
    let r := le 8 e.jseq ++ cut hit 8 (k - 8) ++ [4#8] ++ cut hit (k + 1) (123 - k)
    r ++ le 4 (crc32 r)
  else if bad then hit else w

/-- An entry by JSEQ. -/
def State.jent (s : State) (j : Nat) : JEntry := Tbl.rd JEntry.dflt s.jrnl.ring j

/-- A window of the newest 1,024 entries with `e` in it: in place, or as the newest. -/
def tailPut (e : JEntry) (t : List JEntry) : List JEntry :=
  if t.any (fun x => x.jseq == e.jseq) then t.map (fun x => if x.jseq = e.jseq then e else x)
  else (t ++ [e]).drop (t.length - 1023)

/-- A command's entry stands in the duplicate window of its live session, too (R112). -/
def tailWrite (e : JEntry) (s : State) : State :=
  match s.slotOf e.sess with
  | some k => if e.kind = 1 || e.kind = 2 then s.setSes k { s.ses k with tail := tailPut e (s.ses k).tail } else s
  | none => s

/-- Write an entry in place or as the newest; the ring keeps the newest 65,536 (R35). -/
def jWrite (e : JEntry) (s : State) : State :=
  let h := max s.jrnl.head e.jseq
  tailWrite e { s with jrnl := { s.jrnl with head := h, bad := s.jrnl.bad.filter (· != e.jseq),
                                             ring := Tbl.dropBelow (h + 1 - 65536) (Tbl.wr JEntry.dflt s.jrnl.ring e.jseq e) } }

/-- The main entry of a pending command: of the ring, or of a session's window when the ring has lost it. -/
def State.mainEntry (s : State) (j : Nat) : JEntry :=
  let m := s.jent j
  if m.kind = 1 then m
  else ((slots.flatMap (fun k => (s.ses k).tail)).find? (fun x => x.kind == 1 && x.jseq == j)).getD m

/-- OLDEST (R114). -/
def State.jOldest (s : State) : Nat := max 1 (s.jrnl.head - 65535)

/-- The continuation entries of a command pending (R110): `n` outcomes from item `first`. -/
def contEntries (parent sess : Nat) : Nat → Nat → Nat → List Nat → List JEntry
  | 0, _, _, _ => []
  | k + 1, j, first, os =>
    { JEntry.dflt with kind := 2, jseq := j, sess := sess, parent := parent, first := first, outcomes := os.take 42 }
      :: contEntries parent sess k (j + 1) (first + 42) (os.drop 42)

/-- All entries of a command, given its main entry's fields and its outcomes (R108 to R110). -/
def cmdEntries (m : JEntry) (os : List Nat) : List JEntry :=
  let n := entryCount os.length
  { m with outcomes := os.take 24, cont := n - 1, items := os.length }
    :: contEntries m.jseq m.sess (n - 1) (m.jseq + 1) 24 (os.drop 24)

/-- Admission: all entries of the command, ADMITTED and pending (R111 step 1). -/
def jAdmit (c : Cmd) (items : Nat) (multi : Bool) (s : State) : State :=
  let m : JEntry := { JEntry.dflt with
    kind := 1, jseq := c.jseq, optime := s.optime, sess := c.sess, tag := c.tag, powercycle := s.aon.powercycle,
    opcode := c.op, slot := c.slot, state := 1, role := c.role, status := 0xFFFF,
    pdigest := (sha256 c.payload).take 16, multi := multi }
  forAll (cmdEntries m (List.replicate items 0xFFFF)) jWrite s

/-- Outcomes, then STATE and STATUS of a command's entries (R111 steps 3 and 5): STATE 2 DONE or 3 CUT. -/
def jClose (jseq st status : Nat) (os : List Nat) (s : State) : State :=
  let m := s.mainEntry jseq
  if m.kind = 1 then forAll (cmdEntries { m with state := st, status := status } os) jWrite s else s

/-- A device entry, written in one write (R110): its JSEQ is the new head. -/
def jDevice (kind sess slot reason : Nat) (s : State) : State :=
  jWrite { JEntry.dflt with kind := kind, jseq := s.jrnl.head + 1, optime := s.optime, sess := sess,
                            powercycle := s.aon.powercycle, slot := slot, state := 2, reason := reason } s

/-- All outcomes of a command as its entries in the ring hold them, main entry first. -/
def State.jOutcomes (s : State) (m : JEntry) : List Nat :=
  (m.outcomes ++ (List.range m.cont).flatMap (fun i => (s.jent (m.jseq + 1 + i)).outcomes)).take m.items

/-- All outcomes of a command as its entries in a duplicate window hold them. -/
def tailOutcomes (t : List JEntry) (m : JEntry) : List Nat :=
  (m.outcomes ++ (t.filter (fun e => e.kind == 2 && e.parent == m.jseq)).flatMap (fun e => e.outcomes)).take m.items

/-- A command's main entry in a duplicate window, by its tag (R67, R112). -/
def tailTag (t : List JEntry) (tag : Nat) : Option JEntry := t.find? (fun e => e.kind == 1 && e.tag == tag)

/-- STATUS from the outcomes of a multi-item command (R73). -/
def statusOf (os : List Nat) : Nat :=
  if os.all (· == 0) then 0 else if os.any (· == 0) then 1 else os.headD 0

/-! ## Ownership (R95 to R99, R116, R424, R425) -/

/-- Ownership record of an object. -/
def State.ownOf (s : State) (key : Nat) : Own := Tbl.rd Own.dflt s.own key

/-- Write an ownership record. -/
def State.setOwn (s : State) (key : Nat) (o : Own) : State := { s with own := Tbl.wr Own.dflt s.own key o }

/-- VERSION rises by 1 and LAST_JSEQ takes the entry (R425). -/
def touchObj (key jseq : Nat) (s : State) : State :=
  let o := s.ownOf key
  if ownable (keyType key) then s.setOwn key { o with version := (o.version + 1) % 4294967296, last := jseq }
  else s

/-- Keys of the objects a session owns or left orphaned. -/
def State.ownedBy (s : State) (sess : Nat) : List Nat :=
  (s.own.filter (fun e => e.2.own != 0 && e.2.owner == sess)).map (fun e => e.1)

/-- A route that becomes Unowned while it runs stops as by ROUTE_STOP NORMAL (R259): the item waits for the next
evaluation. -/
def stopUnowned (r : Nat) (s : State) : State :=
  let x := Tbl.rd Route.dflt s.routes.r r
  if x.w.st = 0 || x.w.st = 7 then s
  else { s with routes := { s.routes with r := Tbl.wr Route.dflt s.routes.r r { x with items := x.items ++ [1] } } }

/-- An object becomes Unowned by the entry `jseq` (R96, R259, R425). -/
def releaseObj (jseq key : Nat) (s : State) : State :=
  let s1 := touchObj key jseq (s.setOwn key { s.ownOf key with own := 0, role := 0, owner := 0, orphanMs := 0 })
  if keyType key = 0x08 then stopUnowned (keyIdx key) s1 else s1

/-- An owned object becomes Orphaned by the entry `jseq`, whose OPTIME its hold counts from (R96, R424). -/
def orphanObj (jseq key : Nat) (s : State) : State :=
  touchObj key jseq (s.setOwn key { s.ownOf key with own := 2, orphanMs := (s.jent jseq).optime })

/-- An object passes to a session by the entry `jseq` (R98). -/
def passObj (jseq sess role key : Nat) (s : State) : State :=
  touchObj key jseq (s.setOwn key { s.ownOf key with own := 1, role := role, owner := sess, orphanMs := 0 })

/-- The ownership check of an operating item (R96): free for SHARED objects, for Unowned objects and for
the owner. -/
def State.mayOperate (s : State) (key sess : Nat) : Bool :=
  let o := s.ownOf key
  !s.claim key || o.own == 0 || (o.own == 1 && o.owner == sess)

/-- The role a session has now, which ROLE_SET may have lowered since it admitted a command (R87, R99). -/
def State.roleOf (s : State) (sess admitted : Nat) : Nat :=
  match s.slotOf sess with
  | some k => (s.ses k).role
  | none => admitted

/-- An OK item: VERSION rises once, and an Unowned object with policy CLAIM, other than a route, is claimed for a session
that is Operator or above (R87, R96, R425). -/
def commitItem (key jseq sess role : Nat) (s : State) : State :=
  let o := s.ownOf key
  let r := s.roleOf sess role
  if s.claim key && o.own == 0 && keyType key != 0x08 && decide (2 ≤ r) then passObj jseq sess r key s
  else touchObj key jseq s

/-! ## Token buckets (R63, R104), in millionths of a token -/

/-- A bucket brought up to date: `rate` per second, `cap` tokens at most. -/
def refill (tok rate cap dtUs : Nat) : Nat := min (cap * 1000000) (tok + rate * dtUs)

/-- Size of a session's rate bucket (R104). -/
def rateCap (rate : Nat) : Nat := max 13 (rate / 10)

/-! ## Interfaces of replies -/

/-- The result of an executed opcode: STATUS, outcomes of a multi-item command, result data. -/
structure Res where
  status : Nat
  outcomes : List Nat
  data : Bytes
  /-- Work goes on in the background; no reply yet (R101). -/
  deferred : Bool
deriving DecidableEq, Repr

/-- A single-item result. -/
def Res.of (status : Nat) (data : Bytes) : Res := { status := status, outcomes := [], data := data, deferred := false }
/-- OK with data. -/
def Res.ok (data : Bytes) : Res := Res.of 0 data
/-- CONFLICT. -/
def Res.conflict : Res := Res.of 0x0403 []
/-- A multi-item result (R73). -/
def Res.multi (os : List Nat) (data : Bytes) : Res :=
  { status := statusOf os, outcomes := os, data := data, deferred := false }
/-- A deferred command at work. -/
def Res.later : Res := { status := 0, outcomes := [], data := [], deferred := true }

end Sys2Proof.Machine
end

