-- ==== Sys2Proof/Machine/Points.lean ====
section
/-! DEFINITION. Points, moisture curves, thresholds and fronts (chapter 07): the point entry, the
scan engine's work on a record, the front job. -/
namespace Sys2Proof.Machine

/-! ## Tables -/

/-- A point is enabled (R169). -/
def State.ptEn (s : State) (p : Nat) : Bool := s.db 0x02 p 8 0 1 == 1

/-- Branch of a point (R169). -/
def State.ptBranch (s : State) (p : Nat) : Nat := s.db 0x02 p 8 1 4

/-- The cable of a point: port × 16 + branch (R34). -/
def State.ptCable (s : State) (p : Nat) : Nat := p / 1024 * 16 + s.ptBranch p

/-- A point entry as it reads (R173): an entry nothing has written reads its reset values, with QUAL
DISABLED where the point is not enabled and the start has written the table. -/
def State.point (s : State) (p : Nat) : PointE :=
  let e := Tbl.rd PointE.dflt s.points p
  if e = PointE.dflt && s.rdy 1 && !s.ptEn p then { e with qual := 5 } else e

/-- Write a point entry as one unit (R20). -/
def State.setPoint (s : State) (p : Nat) (e : PointE) : State :=
  { s with points := Tbl.wr PointE.dflt s.points p e }

/-- A point entry's 16 bytes (R173). -/
def PointE.bytes (e : PointE) : Bytes :=
  leInt 2 e.temp ++ le 2 e.rh ++ le 2 e.emc
    ++ [BitVec.ofNat 8 (e.qual + 8 * b2n e.overR + 16 * b2n e.emcValid + 32 * b2n e.emcClamp),
        BitVec.ofNat 8 (e.thState + 4 * e.thCount)]
    ++ le 4 e.cycle ++ le 2 e.age ++ le 2 (e.cls + 8 * e.pstatus)

/-- The front entry of a cable. -/
def State.front (s : State) (c : Nat) : FrontE := Tbl.rd FrontE.dflt s.fronts c

/-- Write a front entry. -/
def State.setFront (s : State) (c : Nat) (e : FrontE) : State :=
  { s with fronts := Tbl.wr FrontE.dflt s.fronts c e }

/-- A front entry's 32 bytes (R184). -/
def FrontE.bytes (e : FrontE) : Bytes :=
  [BitVec.ofNat 8 (e.state + 4 * b2n e.speedValid + 8 * b2n e.branchOpen + 16 * b2n e.cooling), 0#8]
    ++ le 2 e.used ++ le 2 e.position ++ leInt 2 e.speed ++ leInt 2 e.gradient ++ le 2 e.remain ++ le 4 e.cycle
    ++ leInt 2 e.qFirst ++ leInt 2 e.qLast ++ leInt 2 e.qMean ++ leInt 2 e.qMax ++ le 2 e.hot ++ zeros 6

/-- A restart of the front sets the reset values (R185). -/
def restartFront (c : Nat) (s : State) : State := s.setFront c FrontE.dflt

/-- The enabled points of a cable by address (R34). -/
def State.cablePts (s : State) (c : Nat) : List Nat :=
  (listedIdx s.rig.live 0x02).filter (fun p => p / 1024 == c / 16 && s.ptEn p && s.ptBranch p == c % 16)

/-- FRONT_MODE in force: the Mast's in place of the cable's (R170, R226). -/
def State.frontMode (s : State) (c : Nat) : Nat :=
  let o := Tbl.rd 0 s.cableOvr c
  if o = 0 then s.db 0x03 c 0 1 2 else (o - 1) / 65536

/-- TARGET in force (R170, R226). -/
def State.frontTarget (s : State) (c : Nat) : Int :=
  let o := Tbl.rd 0 s.cableOvr c
  if o = 0 then s.dsf 0x03 c 10 2 else signed 16 ((o - 1) % 65536)

/-! ## Grain curves (R175 to R177) -/

/-- A fixed-point number as a rational. -/
def fxRat (x : Int) : Rat := (x : Rat) / ((2 ^ 96 : Nat) : Rat)

/-- M, the EMC in % dry basis, by the form of the slot (R176); `none` where it is not finite. -/
def emcForm (form : Nat) (a b c t h : Rat) : Option Rat :=
  match form with
  | 1 =>
    let den := -a * (t + c)
    if den = 0 || b = 0 then none else
      let base := fxRat (fxLn (1 - h)) / den
      if base ≤ 0 then none else ratPow base (1 / b)
  | 2 =>
    if a = 0 || b = 0 then none else
      let arg := -(t + c) * fxRat (fxLn h) / a
      if arg ≤ 0 then none else some (-(1 / b) * fxRat (fxLn arg))
  | 3 =>
    if c = 0 then none else
      match fxExp (fxOf (a + b * t)) with
      | none => none
      | some x => let base := -x / fxRat (fxLn h)
                  if base ≤ 0 then none else ratPow base (1 / c)
  | _ =>
    if c = 0 then none else
      match ratPow (h / (1 - h)) (1 / c) with
      | none => none
      | some x => some ((a + b * t) * x)

/-- An integer within 2 of the exact value `x`, chosen by the free error `e` (R177, log 14). -/
def withinTwo (x : Rat) (e : Int) : Int :=
  let r := ratRound x
  let v := r + clampI (-2) 2 e
  if 2 < (v : Rat) - x then v - 1 else if (v : Rat) - x < -2 then v + 1 else v

/-- EMC of a temperature and RH by a grain curve slot (R177): the count, whether it is valid, and
whether an input was clamped. -/
def emcOf (d : Bytes) (temp : Int) (rh : Nat) : Nat × Bool × Bool :=
  let t := clampI (sfld d 16 2) (sfld d 18 2) temp
  let r := clampI (fld d 20 2) (fld d 22 2) rh
  let clamped := decide (t ≠ temp) || decide (r ≠ (rh : Int))
  match f32 (fld d 4 4), f32 (fld d 8 4), f32 (fld d 12 4) with
  | some a, some b, some c =>
    let form := fld d 1 1
    match emcForm form a b c ((t : Rat) / 100) ((r : Rat) / 10000) with
    | none => (0xFFFF, false, clamped)
    | some m =>
      if m < 0 || f32Max < m then (0xFFFF, false, clamped) else
        let wb := 100 * m / (100 + m)
        let v := if wb ≤ 50
          then withinTwo (wb * 100) (Config.emcError form (fld d 4 4) (fld d 8 4) (fld d 12 4) t r)
          else Config.emcBeyondBound form (fld d 4 4) (fld d 8 4) (fld d 12 4) t r
        ((clampI 0 10000 v).toNat, true, clamped)
  | _, _, _ => (0xFFFF, false, clamped)

/-! ## The pipeline (R172 to R180) -/

/-- One step of the threshold state machine (R179): state and count after a new value `q`. -/
def threshStep (n : Nat) (level hyst q : Int) (st cnt : Nat) : Nat × Nat :=
  let hi := decide (level < q)
  let lo := decide (q < level - hyst)
  match st with
  | 0 => if hi then (if n = 1 then (2, 0) else (1, 1)) else (0, 0)
  | 1 => if hi then (if n ≤ cnt + 1 then (2, 0) else (1, cnt + 1)) else (0, 0)
  | 2 => if lo then (if n = 1 then (0, 0) else (3, 1)) else (2, 0)
  | _ => if lo then (if n ≤ cnt + 1 then (0, 0) else (3, cnt + 1)) else (2, 0)

/-- Insert a change by POINT_ID (R180). -/
def thrInsert (x : ThChange) : List ThChange → List ThChange
  | [] => [x]
  | y :: t => if x.point < y.point then x :: y :: t else y :: thrInsert x t

/-- Gather a notifiable change; beyond 1,024 it is counted (R180, R190). -/
def thrPost (x : ThChange) (s : State) : State :=
  if s.scan.thr.length < 1024 then { s with scan := { s.scan with thr := thrInsert x s.scan.thr } }
  else { s with scan := { s.scan with shed := s.scan.shed + 1 } }

/-- The rig as the cycle in progress takes it: descriptors of points, cables and curve slots as they stood at its start (R29,
R138). -/
def State.scanView (s : State) : State :=
  if s.scan.old.isEmpty then s else
    let take (t : Tbl Bytes) (e : Nat × Option Bytes) : Tbl Bytes := match e.2 with
      | some b => descPut t e.1 b
      | none => t
    { s with rig := { s.rig with live := s.scan.old.foldl take s.rig.live } }

/-- The entry after a record without a reading (R174). -/
def holdEntry (e : PointE) (hold : Nat) : PointE :=
  let age := satInc 65535 e.age
  { e with age := age, qual := if e.temp = -32768 then 0 else if age ≤ hold then 2 else 3 }

/-- Stages 2 to 5 on a record of the current cycle: the entry it leaves (R174, R177, R179). -/
def recordEntry (s : State) (r : Intake) : PointE :=
  let e0 := s.point r.point
  let e := if e0.qual = 5 then { e0 with qual := 0 } else e0
  let cb := s.ptCable r.point
  let hold := s.df 0x03 cb 6 2
  let cabEn := s.en 0x03 cb
  let mark (x : PointE) : PointE :=
    let pst := if r.cls = 0 then (if r.cycle = 1 then bits r.status 0 6 - 4 * b2n (bit r.status 2) else bits r.status 0 6)
               else x.pstatus
    { x with cycle := r.cycle, cls := r.cls, pstatus := pst }
  let level := s.dsf 0x02 r.point 12 2
  let off := !cabEn || level = 0x7FFF
  let stepTh (x : PointE) (q : Option Int) : PointE :=
    if off then { x with thState := 0, thCount := 0 } else
      match q with
      | none => x
      | some v =>
        let p := threshStep (s.db 0x03 cb 1 0 4) level (s.df 0x02 r.point 14 2) v x.thState x.thCount
        { x with thState := p.1, thCount := p.2 }
  if r.cls ≠ 0 then stepTh (mark (holdEntry e hold)) none else
    let fault := bit r.status 1
    let rhHere := bit r.status 0 && r.rh ≠ 0xFFFF
    let tNew := r.temp ≠ -32768
    let t0 := r.temp + s.dsf 0x03 cb 4 2
    let t := clampI (-32767) 32767 t0
    let h := if 10000 < r.rh then 10000 else r.rh
    let overR := (tNew && decide (t ≠ t0)) || (rhHere && decide (10000 < r.rh))
    let x1 : PointE := { e with temp := if tNew then t else e.temp,
                                rh := if rhHere then h else if !fault || !bit r.status 0 then 0xFFFF else e.rh,
                                overR := if tNew || rhHere then overR else e.overR }
    let x2 := if tNew then { x1 with qual := 1, age := 0 } else holdEntry x1 hold
    let curve := s.df 0x03 cb 2 2
    let useCurve := cabEn && curve ≠ 0xFFFF
    let fresh := tNew && rhHere
    let x3 : PointE :=
      if !useCurve || (x2.rh = 0xFFFF && !fault) then { x2 with emc := 0xFFFF, emcValid := false, emcClamp := false }
      else if fresh then
        let m := emcOf (s.d 0x22 curve) x2.temp x2.rh
        { x2 with emc := m.1, emcValid := m.2.1, emcClamp := m.2.2 }
      else x2
    let q : Option Int := if s.db 0x03 cb 0 4 1 = 0 then (if tNew then some x3.temp else none)
      else (if fresh && x3.emcValid then some (x3.emc : Int) else none)
    stepTh (mark x3) q

/-- The Telltale records of BROWNOUT, DIAG_FAIL and STARTED (R174). -/
def statusRecords (r : Intake) (pst : Nat) (s : State) : State :=
  if r.cls ≠ 0 then s else
    forAll [3, 4, 5] (fun b st =>
      if bit pst b then ttOccur 0 0x0483 (dkey 0x02 r.point) (le 4 pst ++ le 4 r.cycle) st else st) s

/-- Every enabled point of the cable had class MISSING in this cycle (R174). -/
def State.allMissing (s : State) (c : Nat) : Bool :=
  let ps := s.cablePts c
  !ps.isEmpty && ps.all (fun p => let e := s.point p; e.cls == 4 && e.cycle == s.scan.cycle)

/-- After the cable's last enabled point by address: BRANCH_OPEN is judged and a front job is queued
(R172 stage 6, R174, R181). -/
def cableDone (c : Nat) (s : State) : State :=
  if !s.en 0x03 c then s else
    let open_ := s.allMissing c
    let s1 := s.setFront c { s.front c with branchOpen := open_ }
    let s2 := if open_ then ttOccur 0 0x0484 (dkey 0x03 c) (le 4 s.scan.cycle) s1 else s1
    { s2 with scan := { s2.scan with jobs := s2.scan.jobs ++ [c] } }

/-- The scan engine's work on one record (R172), with the descriptors of its cycle. A notifiable change carries the entry's
value of the cable's quantity, also where LEVEL 0x7FFF or a disabled cable forces NORMAL (R179, R180). DESIGN CHOICE
(log 59): the record of a point that an activation has disabled meanwhile leaves its entry DISABLED. -/
def takeRecord (r : Intake) (s : State) : State :=
  if r.cycle ≠ s.scan.cycle then { s with scan := { s.scan with discarded := s.scan.discarded + 1 } } else
    let v := s.scanView
    let cb := v.ptCable r.point
    let was := (s.point r.point).thState
    let e := recordEntry v r
    let notable := (e.thState = 2 && was ≠ 2) || (e.thState = 0 && (was = 2 || was = 3))
    let q : Int := if v.db 0x03 cb 0 4 1 = 0 then e.temp else e.emc
    let s1 := if s.ptEn r.point then statusRecords r e.pstatus (s.setPoint r.point e) else s
    let s2 := if notable && s.ptEn r.point then
        thrPost { point := r.point, old := was, new := e.thState, q := q, qual := fld e.bytes 6 1 } s1
      else s1
    if (v.cablePts cb).getLast? = some r.point then cableDone cb s2 else s2

/-- A change's 16 bytes in notice 0x8401 (R180). -/
def ThChange.bytes (c : ThChange) : Bytes :=
  le 4 (dkey 0x02 c.point) ++ [BitVec.ofNat 8 c.old, BitVec.ofNat 8 c.new] ++ leInt 2 c.q
    ++ [BitVec.ofNat 8 c.qual] ++ zeros 7

/-- Groups of 64 changes, at most 16. -/
def thrGroups : Nat → List ThChange → List (List ThChange)
  | 0, _ => []
  | n + 1, l => if l.isEmpty then [] else l.take 64 :: thrGroups n (l.drop 64)

/-- The notices of a phase (R180); the gathered changes are then cleared. -/
def phaseNotices (phase : Nat) (s : State) : State :=
  let gs := thrGroups 16 s.scan.thr
  let s1 := forAll (gs.zip (List.range gs.length)) (fun g st =>
    notify 1 0x8401 (le 4 st.scan.cycle ++ [BitVec.ofNat 8 phase, BitVec.ofNat 8 g.1.length]
      ++ le 2 (if g.2 + 1 = gs.length then s.scan.shed else 0) ++ g.1.flatMap ThChange.bytes) st) s
  { s1 with scan := { s1.scan with thr := [], shed := 0, noticed := phase + 1 } }

/-- Slot 255 of the present phase has ended on every port taking part and its records are written: the
notices go out (R180). -/
def noticesIfDue (s : State) : State :=
  let k := s.scan.noticed
  if s.scan.active && k < 4 && s.scan.intake.isEmpty
      && s.hal.all (fun e => !e.2.taking || (k + 1) * 256 ≤ e.2.slotPos) then phaseNotices k s else s

/-- No record of the cycle is still to come: its schedule has ended, or the slot of every enabled point of every enabled
port has (R156, R171). -/
def State.slotsPast (s : State) : Bool :=
  !s.scan.active
    || ((listedIdx s.rig.live 0x02).filter s.ptEn).all (fun k => !s.en 0x01 (k / 1024)
      || decide (k % 1024 < (Tbl.rd HalPort.dflt s.hal (k / 1024)).slotPos))

/-- The fronts of the cycle are complete when its last entry is written and its last front job has ended (R185, R193);
the trend groups of the cycle may then be taken (R193). -/
def frontsIfDone (s : State) : State :=
  if s.scan.cycle ≠ 0 && s.scan.intake.isEmpty && s.scan.regs.isEmpty && s.scan.jobs.isEmpty
      && !s.scan.frontsDone && s.slotsPast then
    { s with scan := { s.scan with frontsDone := true, doneUs := some s.aon.nowUs, snap := some (s.scan.cycle, s.scan.startMs) } }.setRdy 12
  else s

/-! ## The front job (R181 to R186) -/

/-- A point used by a job: height and value. -/
structure FPt where
  h : Int
  q : Int
deriving DecidableEq, Repr

/-- Insert by height, rising. -/
def fInsert (x : FPt) : List FPt → List FPt
  | [] => [x]
  | y :: t => if x.h < y.h then x :: y :: t else y :: fInsert x t

/-- The points a job uses, along the airflow (R181). -/
def frontPts (s : State) (c : Nat) (emc : Bool) : List FPt :=
  let ps := (s.cablePts c).filter (fun p =>
    let e := s.point p; (e.qual == 1 || e.qual == 2) && (!emc || e.emcValid))
  let l := ps.foldl (fun acc p =>
    let e := s.point p; fInsert { h := s.df 0x02 p 10 2, q := if emc then (e.emc : Int) else e.temp } acc) []
  if s.db 0x03 c 0 3 1 = 1 then l.reverse else l

/-- Segment gradients in centi-units per metre, with their midpoints (R182 step 1). -/
def segments : List FPt → List (Rat × Rat)
  | a :: b :: t =>
    let d : Int := if b.h < a.h then a.h - b.h else b.h - a.h
    (((b.q - a.q) * 1000 : Int) / (d : Rat), ((a.h + b.h : Int) : Rat) / 2) :: segments (b :: t)
  | _ => []

/-- Index of the greatest gradient, the lowest among equals (R182 step 2). -/
def argMax : List (Rat × Rat) → Nat → Nat → Rat → Nat
  | [], _, best, _ => best
  | g :: t, i, best, v => if v < g.1 then argMax t (i + 1) i g.1 else argMax t (i + 1) best v

/-- POSITION in IN_COLUMN (R182 steps 4 and 5). -/
def frontPos (gs : List (Rat × Rat)) (k : Nat) : Rat :=
  let g (i : Nat) := (gs.getD i (0, 0)).1
  let m (i : Nat) := (gs.getD i (0, 0)).2
  if k = 0 || k + 1 = gs.length then m k else
    let den := g (k - 1) - 2 * g k + g (k + 1)
    if den = 0 then m k else
      let d0 := (g (k - 1) - g (k + 1)) / 2 / den
      let d := if d0 < -1 / 2 then -1 / 2 else if 1 / 2 < d0 then 1 / 2 else d0
      if 0 ≤ d then m k + d * (m (k + 1) - m k) else m k + d * (m k - m (k - 1))

/-- Q_FIRST, Q_LAST, Q_MEAN, Q_MAX and USED over the points used (R184). -/
def frontSums (pts : List FPt) (e : FrontE) : FrontE :=
  let n := pts.length
  { e with used := n, qFirst := (pts.head?.map (·.q)).getD 0, qLast := (pts.getLast?.map (·.q)).getD 0,
           qMean := if n = 0 then 0 else divRound (pts.map (·.q)).sum n,
           qMax := pts.tail.foldl (fun a p => if a < p.q then p.q else a) ((pts.head?.map (·.q)).getD 0) }

/-- Speed, SPEED_VALID, REMAIN and the filter of an IN_COLUMN update (R183). -/
def frontSpeed (s : State) (c : Nat) (old : FrontE) (pos : Nat) (hLast : Int) (e : FrontE) : FrontE :=
  if !old.prevIn then { e with filt := 0, speed := 0, speedValid := false, remain := 0xFFFF } else
    let dt : Rat := ((s.scan.startUs - old.prevUs : Nat) : Rat) / 3600000000
    let dir : Int := if s.db 0x03 c 0 3 1 = 1 then -1 else 1
    if dt ≤ 0 then { e with filt := old.filt, speed := old.speed, speedValid := true } else
      let raw : Rat := ((dir * ((pos : Int) - old.position) : Int) : Rat) / dt
      let tau : Rat := (s.df 0x03 c 14 2 : Rat) / 60
      let al : Rat := if tau ≤ dt then 1 else dt / tau
      let f := ratRound ((old.filt : Rat) + al * (raw * 256 - old.filt))
      let rem : Nat := if f ≤ 0 then 0xFFFF else
        let d : Int := if hLast < pos then pos - hLast else hLast - pos
        min 65534 (ratRound ((d * 256 * 60 : Int) / (f : Rat))).toNat
      { e with filt := f, speed := clampI (-32768) 32767 (divRound f 256), speedValid := true, remain := rem }

/-- The front entry a job leaves (R181 to R184). -/
def frontEntry (s : State) (c : Nat) : FrontE :=
  let old := s.front c
  let mode := s.frontMode c
  let hot := ((s.cablePts c).filter (fun p => let e := s.point p; e.thState == 2 || e.thState == 3)).length
  let base : FrontE := { FrontE.dflt with branchOpen := old.branchOpen, cooling := decide (mode ≠ 1), cycle := s.scan.cycle, hot := hot,
                                          prevUs := s.scan.startUs }
  let pts := frontPts s c (mode = 1)
  let e1 := frontSums pts base
  if mode = 0 || pts.length < 3 then e1 else
    let gs := segments pts
    let k := argMax gs 0 0 (gs.headD (0, 0)).1
    let gk := (gs.getD k (0, 0)).1
    let e2 := { e1 with gradient := clampI (-32768) 32767 (ratRound gk) }
    if ((s.df 0x03 c 8 2 : Nat) : Rat) ≤ gk then
      let pos := (ratRound (frontPos gs k)).toNat
      frontSpeed s c old pos ((pts.getLast?.map (·.h)).getD 0) { e2 with state := 2, position := pos, prevIn := true }
    else
      let done := decide (((pts.getLast?.map (·.q)).getD 0) ≤ s.frontTarget c + s.df 0x03 c 12 2)
      { e2 with state := if done then 3 else 1 }

/-- Notice 0x8405 (R186). -/
def frontNotice (c h : Nat) (old new : FrontE) (s : State) : State :=
  notify 2 0x8405 (le 4 (dkey 0x03 c) ++ le 2 h ++ [BitVec.ofNat 8 old.state, BitVec.ofNat 8 new.state]
    ++ new.bytes) s

/-- The front log of a cable: a record at the first update after each interval, 64 kept (R194). -/
def frontLog (c : Nat) (e : FrontE) (s : State) : State :=
  let l := Tbl.rd [] s.trend.logs c
  let due := match l.getLast? with
    | none => true
    | some x => decide (x.optime + s.frontLogEvery * 60000 ≤ s.optime)
  if due then
    let r : FLog := { optime := s.optime, state := e.state, position := e.position, speed := e.speed,
                      qMean := e.qMean, qMax := e.qMax }
    let l1 := l ++ [r]
    { s with trend := { s.trend with logs := Tbl.wr [] s.trend.logs c (l1.drop (l1.length - 64)) } }
  else s

/-- One front job (R181 to R186, R194). -/
def frontJob (c : Nat) (s : State) : State :=
  let old := s.front c
  let e := frontEntry s.scanView c
  let s1 := s.setFront c e
  let s2 := if old.state ≠ 0 && e.state ≠ 0 && old.state ≠ e.state then frontNotice c 0xFFFF old e s1 else s1
  let s3 := if old.state = 2 && e.state = 2 then
      forAll [s.df 0x03 c 16 2, s.df 0x03 c 18 2] (fun h st =>
        if h ≠ 0xFFFF && decide (h ≤ old.position) != decide (h ≤ e.position) then frontNotice c h old e st else st) s2
    else s2
  if s.frontMode c ≠ 0 then frontLog c e s3 else s3

end Sys2Proof.Machine
end

