-- ==== Sys2Proof/Machine/Inputs.lean ====
section
/-! DEFINITION. Reading the tables of the field side, and what an input entry reads (R198): the values that
loops, Masts, dryers and conveyor elements take. -/
namespace Sys2Proof.Machine

/-! ## Tables -/

/-- A die: 1 port, 2 power 0, 3 power 1. -/
def State.die (s : State) (d : Nat) : Die := Tbl.rd Die.dflt s.io.dies d
/-- Write a die. -/
def State.setDie (s : State) (d : Nat) (v : Die) : State := { s with io := { s.io with dies := Tbl.wr Die.dflt s.io.dies d v } }
/-- An output's common part, by object reference. -/
def State.out (s : State) (k : Nat) : OutC := Tbl.rd OutC.dflt s.io.outs k
/-- Write an output's common part. -/
def State.setOut (s : State) (k : Nat) (v : OutC) : State := { s with io := { s.io with outs := Tbl.wr OutC.dflt s.io.outs k v } }
/-- A fan channel. -/
def State.fan (s : State) (i : Nat) : FanCh := Tbl.rd FanCh.dflt s.io.fans i
/-- Write a fan channel. -/
def State.setFan (s : State) (i : Nat) (v : FanCh) : State := { s with io := { s.io with fans := Tbl.wr FanCh.dflt s.io.fans i v } }
/-- A load channel. -/
def State.load (s : State) (i : Nat) : LoadCh := Tbl.rd LoadCh.dflt s.io.loads i
/-- Write a load channel. -/
def State.setLoad (s : State) (i : Nat) (v : LoadCh) : State := { s with io := { s.io with loads := Tbl.wr LoadCh.dflt s.io.loads i v } }
/-- A load bank. -/
def State.bank (s : State) (b : Nat) : LBank := Tbl.rd LBank.dflt s.io.banks b
/-- Write a load bank. -/
def State.setBank (s : State) (b : Nat) (v : LBank) : State := { s with io := { s.io with banks := Tbl.wr LBank.dflt s.io.banks b v } }
/-- A DIO channel. -/
def State.dio (s : State) (i : Nat) : DioCh := Tbl.rd DioCh.dflt s.io.dios i
/-- Write a DIO channel. -/
def State.setDio (s : State) (i : Nat) (v : DioCh) : State := { s with io := { s.io with dios := Tbl.wr DioCh.dflt s.io.dios i v } }
/-- A DIO group. -/
def State.dgrp (s : State) (g : Nat) : DioGrp := Tbl.rd DioGrp.dflt s.io.dgrps g
/-- Write a DIO group. -/
def State.setDgrp (s : State) (g : Nat) (v : DioGrp) : State := { s with io := { s.io with dgrps := Tbl.wr DioGrp.dflt s.io.dgrps g v } }
/-- An analogue output. -/
def State.ao (s : State) (i : Nat) : AoCh := Tbl.rd AoCh.dflt s.io.aos i
/-- Write an analogue output. -/
def State.setAo (s : State) (i : Nat) (v : AoCh) : State := { s with io := { s.io with aos := Tbl.wr AoCh.dflt s.io.aos i v } }
/-- A front-end channel, by object reference. -/
def State.afe (s : State) (r : Nat) : AfeCh := Tbl.rd AfeCh.dflt s.io.afe r
/-- Write a front-end channel. -/
def State.setAfe (s : State) (r : Nat) (v : AfeCh) : State := { s with io := { s.io with afe := Tbl.wr AfeCh.dflt s.io.afe r v } }
/-- A converter. -/
def State.conv (s : State) (c : Nat) : Conv := Tbl.rd Conv.dflt s.io.convs c
/-- Write a converter. -/
def State.setConv (s : State) (c : Nat) (v : Conv) : State := { s with io := { s.io with convs := Tbl.wr Conv.dflt s.io.convs c v } }
/-- A threshold switch. -/
def State.sw (s : State) (n : Nat) : ThSw := Tbl.rd ThSw.dflt s.io.sws n
/-- Write a threshold switch. -/
def State.setSw (s : State) (n : Nat) (v : ThSw) : State := { s with io := { s.io with sws := Tbl.wr ThSw.dflt s.io.sws n v } }
/-- A loop slot. -/
def State.loop (s : State) (l : Nat) : Loop := Tbl.rd Loop.dflt s.shv.loops l
/-- Write a loop slot. -/
def State.setLoop (s : State) (l : Nat) (v : Loop) : State := { s with shv := { s.shv with loops := Tbl.wr Loop.dflt s.shv.loops l v } }
/-- Committed intent of a loop. -/
def State.loopInt (s : State) (l : Nat) : LoopInt := Tbl.rd LoopInt.dflt s.shv.ints l
/-- Write the committed intent of a loop. -/
def State.setLoopInt (s : State) (l : Nat) (v : LoopInt) : State := { s with shv := { s.shv with ints := Tbl.wr LoopInt.dflt s.shv.ints l v } }
/-- A competition group. -/
def State.grp (s : State) (g : Nat) : Grp := Tbl.rd Grp.dflt s.shv.groups g
/-- Write a competition group. -/
def State.setGrp (s : State) (g : Nat) (v : Grp) : State := { s with shv := { s.shv with groups := Tbl.wr Grp.dflt s.shv.groups g v } }
/-- A Mast. -/
def State.mast (s : State) (m : Nat) : Mast := Tbl.rd Mast.dflt s.masts.m m
/-- Write a Mast. -/
def State.setMast (s : State) (m : Nat) (v : Mast) : State := { s with masts := { s.masts with m := Tbl.wr Mast.dflt s.masts.m m v } }
/-- A dryer. -/
def State.dryer (s : State) (d : Nat) : Dryer := Tbl.rd Dryer.dflt s.dryers.d d
/-- Write a dryer. -/
def State.setDryer (s : State) (d : Nat) (v : Dryer) : State := { s with dryers := { s.dryers with d := Tbl.wr Dryer.dflt s.dryers.d d v } }
/-- A route. -/
def State.route (s : State) (r : Nat) : Route := Tbl.rd Route.dflt s.routes.r r
/-- Write a route. -/
def State.setRoute (s : State) (r : Nat) (v : Route) : State := { s with routes := { s.routes with r := Tbl.wr Route.dflt s.routes.r r v } }
/-- A conveyor element. -/
def State.elem (s : State) (e : Nat) : Elem := Tbl.rd Elem.dflt s.routes.e e
/-- Write a conveyor element. -/
def State.setElem (s : State) (e : Nat) (v : Elem) : State := { s with routes := { s.routes with e := Tbl.wr Elem.dflt s.routes.e e v } }

/-! ## Groups -/

/-- The members of a group (R211). -/
def State.members (s : State) (g : Nat) : List Nat := (List.range (s.df 0x06 g 1 1)).map (fun j => s.df 0x06 g (4 + 2 * j) 2)

/-- The enabled group a loop is a member of (R211). -/
def State.groupOf (s : State) (l : Nat) : Option Nat := (s.enabled 0x06).find? (fun g => (s.members g).contains l)

/-- The head of a group. -/
def State.head (s : State) (g : Nat) : Nat := s.df 0x06 g 4 2

/-! ## DIO land -/

/-- Filtered land state after INVERT (R294, R296). -/
def State.dioLand (s : State) (i : Nat) : Bool := (s.dio i).land != (s.db 0x0C i 0 4 1 == 1)

/-! ## Input entries (R198) -/

/-- SRC of an input entry at `off` of a descriptor. -/
def inSrc (d : Bytes) (off : Nat) : Nat := fld d off 4

/-- The sources that give Q15 (R199). -/
def q15Src (src : Nat) : Bool :=
  let t := keyType src
  t == 0x05 || t == 0x06 || t == 0x0C || t == 0x11

/-- The value of a point by QTY; `none` when bad. -/
def pointVal (e : PointE) (qty : Nat) : Option Int :=
  if e.qual = 1 || e.qual = 2 then
    match qty with
    | 0 => if e.temp = -32768 then none else some e.temp
    | 1 => if e.rh = 0xFFFF then none else some e.rh
    | 2 => if e.emc = 0xFFFF then none else some e.emc
    | _ => none
  else none

/-- The value of a front by QTY; `none` when bad. -/
def frontVal (e : FrontE) (qty : Nat) : Option Int :=
  match qty with
  | 0 => if e.state = 2 then some e.position else none
  | 1 => if e.speedValid then some e.speed else none
  | 2 => if e.state = 0 then none else some e.qMean
  | 3 => if e.state = 0 then none else some e.qMax
  | 4 => if e.state = 0 then none else some e.qFirst
  | 5 => if e.state = 0 then none else some e.qLast
  | 6 => if e.speedValid then some e.remain else none
  | _ => none

/-- The value of a source; `none` when it is bad (R198). -/
def srcValue (s : State) (src qty : Nat) : Option Int :=
  let i := keyIdx src
  match keyType src with
  | 0x02 => pointVal (s.point i) qty
  | 0x03 => frontVal (s.front i) qty
  | 0x0F => if (s.afe src).qual = 1 then some (s.afe src).value else none
  | 0x10 => if (s.afe src).qual = 1 then some (s.afe src).value else none
  | 0x0A => if (s.fan i).fault = 0 then some (s.fan i).rpm else none
  | 0x0B => if (s.load i).fault = 0 then some (s.load i).mA else none
  | 0x11 => some (if (s.sw i).on then 32767 else 0)
  | 0x0C => some (if s.dioLand i then 32767 else 0)
  | 0x05 => some (s.loop i).out
  | 0x06 => (s.grp i).result
  | _ => none

/-- What the input entry at `off` of a descriptor reads; `none` when it is bad. -/
def inValue (s : State) (d : Bytes) (off : Nat) : Option Int := srcValue s (inSrc d off) (fld d (off + 4) 1)

/-- An input entry is present. -/
def inPresent (d : Bytes) (off : Nat) : Bool := inSrc d off != 0

/-- A level input is asserted when its value is at least Q15 16,384; a bad one is not (R239, R255). -/
def inAsserted (s : State) (d : Bytes) (off : Nat) : Bool :=
  inPresent d off && (match inValue s d off with | some v => decide (16384 ≤ v) | none => false)

end Sys2Proof.Machine
end

