-- ==== Sys2Proof/Machine/Outputs.lean ====
section
/-! DEFINITION. Where outputs take their values (R25, R26): dies, forces, sources and the selection that
stands over every output. -/
namespace Sys2Proof.Machine

/-- The die of an output: fans and analogue outputs on die 1, loads and DIO on 2 and 3 (R305, chapter 13). -/
def dieOf (k : Nat) : Nat :=
  match keyType k with
  | 0x0B => if keyIdx k < 24 then 2 else 3
  | 0x0C => if keyIdx k < 48 then 2 else 3
  | _ => 1

/-- READY bit of a die: FIELD_PORT, FIELD_PWR0, FIELD_PWR1 (R381). -/
def dieBit (d : Nat) : Nat := d + 4

/-- An output that works: enabled, and for DIO an output. -/
def State.outOn (s : State) (k : Nat) : Bool :=
  s.en (keyType k) (keyIdx k) && (keyType k != 0x0C || s.db 0x0C (keyIdx k) 0 1 1 == 1)

/-- Every working output (R392 order: fans, loads, DIO, analogue outputs). -/
def State.outputs (s : State) : List Nat :=
  ([0x0A, 0x0B, 0x0C, 0x0D].flatMap (fun dt => (s.enabled dt).map (dkey dt))).filter s.outOn

/-- SRC_KIND of an output. -/
def State.srcKind (s : State) (k : Nat) : Nat :=
  if keyType k = 0x0D then s.db 0x0D (keyIdx k) 0 3 1 else s.db (keyType k) (keyIdx k) 1 0 3

/-- An auto-retry series goes on until 60 s after its first trip (R298, R319): the first trip of the one that runs. -/
def seriesNow (at_ : Option Nat) (now : Nat) : Option Nat := at_.filter (fun t => decide (now < t + 60000000))

/-! ## Forces (R26 row 2, R234, R286, R287) -/

/-- A fan is named in an enabled Mast (R234). -/
def State.mastOfFan (s : State) (i : Nat) : Option Nat :=
  (s.enabled 0x04).find? (fun m => (List.range (s.df 0x04 m 3 1)).any (fun j => s.df 0x04 m (8 + j) 1 == i))

/-- LOCKOUT forces an output (R234). -/
def State.lockForces (s : State) (k : Nat) : Bool :=
  (s.die (dieOf k)).force &&
    (match keyType k with
     | 0x0A => (s.mastOfFan (keyIdx k)).isSome
     | 0x0B => s.db 0x0B (keyIdx k) 0 3 1 == 1
     | _ => false)

/-- An interlock link is forcing (R286). -/
def State.linkActive (s : State) (l : Nat) : Bool := (s.sw (s.df 0x12 l 1 1)).on != (s.db 0x12 l 0 1 1 == 1)

/-- A link covers an output (R286). -/
def State.linkCovers (s : State) (l k : Nat) : Bool :=
  let f := s.df 0x12 l 4 4
  decide (f ≤ k) && decide (k < f + s.df 0x12 l 2 1)

/-- The forces on an output. -/
def State.forces (s : State) (k : Nat) : List Nat :=
  (if s.lockForces k then [0] else [])
    ++ ((s.enabled 0x12).filter (fun l => s.linkActive l && s.linkCovers l k)).map (fun l => s.df 0x12 l 8 2)

/-- The force in effect: the lowest wins (R287). -/
def State.forced (s : State) (k : Nat) : Option Nat :=
  match s.forces k with
  | [] => none
  | f :: fs => some (fs.foldl min f)

/-! ## Sources (R25, R206, R232, R240, R255, R329) -/

/-- y ≥ 0 converted to a full scale of `fs` (R206). -/
def r206 (y : Int) (fs : Nat) : Nat := if y ≤ 0 then 0 else (divRound (y * fs) 32767).toNat

/-- The value a loop or group head drives with: none while it has nothing to give (R212, R216, R386). -/
def loopDrive (s : State) (l : Nat) : Option Int :=
  match s.groupOf l with
  | some g => if s.head g = l then (s.grp g).result else (s.loop l).cand.map (fun _ => (s.loop l).out)
  | none => (s.loop l).cand.map (fun _ => (s.loop l).out)

/-- Whether a loop turns a load or DIO channel on (R204 to R206). -/
def loopSwitch (s : State) (l k : Nat) : Option Nat :=
  let lp := s.loop l
  match s.db 0x05 l 2 0 2 with
  | 1 => (loopDrive s l).map (fun y => b2n (decide (16384 ≤ y)))
  | 2 => lp.cand.map (fun _ =>
      if s.df 0x05 l 120 4 = k then b2n (lp.lstate == 1 && decide (lp.acc < s.dsf 0x05 l 64 2 * 32768))
      else b2n (lp.lstate == 2 && decide (s.dsf 0x05 l 62 2 * 32768 < lp.acc)))
  | 3 => lp.cand.map (fun _ => b2n (decide (k - s.df 0x05 l 120 4 < lp.lstate)))
  | _ => none

/-- A dryer turns an output on (R240, R245). -/
def dryerOn (s : State) (d k : Nat) : Bool :=
  let y := s.dryer d
  let ref (off : Nat) := s.df 0x07 d off 4
  (y.fill && ref 80 == k) || (y.dump && ref 84 == k) || (y.alarm && ref 88 == k)
    || (List.range y.nBlow).any (fun j => ref (96 + 4 * j) == k)
    || (y.cool && (List.range (s.df 0x07 d 3 1)).any (fun j => ref (120 + 4 * j) == k))

/-- What a dryer gives an output; nothing between a start and its first evaluation (R252). -/
def dryerDrive (s : State) (d k : Nat) : Option Nat := if (s.dryer d).fresh then none else some (b2n (dryerOn s d k))

/-- An element drives an output (R255). -/
def elemOn (s : State) (e k : Nat) : Bool :=
  (List.range 4).any (fun p => bit (s.elem e).out p && s.df 0x09 e (16 + 4 * p) 4 == k)

/-- Duty of a Mast's fan (R232): 0 with its gate closed. -/
def mastDuty (s : State) (m i : Nat) : Option Nat :=
  let x := s.mast m
  if (List.range (s.df 0x04 m 3 1)).any (fun j => s.df 0x04 m (8 + j) 1 == i && bit x.gates j) then
    let l := s.df 0x04 m 112 2
    if l = 0xFFFF then some (r206 (s.dsf 0x04 m 114 2) 2047)
    else (s.loop l).cand.map (fun _ => r206 (s.loop l).out 2047)
  else some 0

/-- The committed host value (R25). -/
def State.hostVal (s : State) (k : Nat) : Nat := Tbl.rd 0 s.io.host k

/-- The source value of an output now; none where its source has nothing to give yet. -/
def sourceValue (s : State) (k : Nat) : Option Nat :=
  let i := keyIdx k
  let dt := keyType k
  let ref := s.df dt i 4 4
  match dt, s.srcKind k with
  | 0x0A, 1 => (loopDrive s (keyIdx ref)).map (fun y => r206 y 2047)
  | 0x0A, 2 => mastDuty s (keyIdx ref) i
  | 0x0A, 3 => (dryerDrive s (keyIdx ref) k).map (fun n => n * r206 (s.dsf 0x07 (keyIdx ref) 128 2) 2047)
  | 0x0D, 1 => (loopDrive s (keyIdx ref)).map (fun y => r206 y 65535)
  | 0x0B, 1 => loopSwitch s (keyIdx ref) k
  | 0x0C, 1 => loopSwitch s (keyIdx ref) k
  | 0x0B, 2 => dryerDrive s (keyIdx ref) k
  | 0x0C, 2 => dryerDrive s (keyIdx ref) k
  | 0x0B, 3 => some (b2n (elemOn s (keyIdx ref) k))
  | 0x0C, 3 => some (b2n (elemOn s (keyIdx ref) k))
  | 0x0B, 4 => some (b2n (s.route (keyIdx ref)).runOut)
  | 0x0C, 4 => some (b2n (s.route (keyIdx ref)).runOut)
  | _, _ => some (s.hostVal k)

/-- CLASS of a fan (R327): 0 NORMAL, 1 TABLE, 2 FULL_ON. -/
def State.fanClass (s : State) (i : Nat) : Nat := s.db 0x0A i 0 2 2

/-- The value at row 5 of R26: the source value, or for a fan the table or watchdog value in its place
(R338, R339). -/
def State.row5 (s : State) (k src : Nat) : Nat :=
  if keyType k = 0x0A then
    if s.fanClass (keyIdx k) = 1 && s.host.silence then (s.fan (keyIdx k)).tbl
    else if s.fanClass (keyIdx k) = 2 && s.io.wdZero then 2047
    else src
  else src

/-! ## Selection (R26) -/

/-- The safe value of an output (R294, R306, R327, R288, R389). -/
def safeValue (s : State) (k : Nat) : Nat :=
  let i := keyIdx k
  let held := (s.out k).row5
  match keyType k with
  | 0x0A =>
    match s.db 0x0A i 1 3 2 with
    | 0 => 0
    | 1 => (s.fan i).hold
    | 2 => s.df 0x0A i 10 2
    | _ => (s.fan i).tbl
  | 0x0D => if s.db 0x0D i 0 4 1 = 0 then held else s.df 0x0D i 8 2
  | dt => match s.db dt i 1 3 2 with
    | 0 => 0
    | 1 => 1
    | _ => held

/-- The die keeps its outputs from taking new source values (R26 rows 3 and 4). -/
def Die.frozen (d : Die) : Bool := d.silent || d.keeping || d.keepOver

/-- R26: the value selected and the row that selects it. -/
def select (s : State) (k : Nat) : Nat × Nat :=
  let d := s.die (dieOf k)
  if s.pwr.phase == .cold || !d.conf || !s.outOn k then (0, 1)
  else match s.forced k with
    | some v => (v, 2)
    | none =>
      if d.silent || d.keepOver then (safeValue s k, 3)
      else if d.keeping then ((s.out k).row5, 4)
      else ((s.out k).row5, 5)

/-- Rows of R26 above 5: forced, safe or kept (R235, R264, R291). -/
def State.overridden (s : State) (k : Nat) : Bool := decide ((s.out k).row < 5)

/-- A channel reports a fault to dryers, routes and Masts (R235, R248, R264, R290, R298, R299, R317, R319, R336). -/
def State.chanFaulted (s : State) (k : Nat) : Bool :=
  let i := keyIdx k
  match keyType k with
  | 0x0A => (s.fan i).fault != 0
  | 0x0B => (s.load i).fault != 0 || ((s.bank (i / 12)).st != 0 && (s.out k).sel == 1 && !(s.load i).on)
  | 0x0C => (s.dio i).fault != 0 || (s.dgrp (i / 24)).low
  | 0x0D => (s.ao i).short
  | _ => false

/-- Take the source value at an output latch (R22 step 5, R385 step 7, R389). -/
def latchSource (k : Nat) (s : State) : State :=
  let o := s.out k
  let src := (sourceValue s k).getD o.src
  let o1 := { o with src := src }
  s.setOut k (if (s.die (dieOf k)).frozen then o1 else { o1 with row5 := s.row5 k src })

end Sys2Proof.Machine
end

