-- ==== Sys2Proof/Machine/Dio.lean ====
section
/-! DEFINITION. 24 V digital inputs and outputs (chapter 13): switching, protection, readback test, inputs. -/
namespace Sys2Proof.Machine

/-- A fault that holds the switch off (R298). -/
def dioHeld (c : DioCh) : Bool := c.fault == 1 || c.fault == 2 || c.fault == 3

/-- The record of a DIO fault (R298, R301, R346); `other` is the channel named for PARALLEL. -/
def dioRecord2 (i code mA : Nat) (other : Option Nat) (s : State) : State :=
  ttOccur (dieOf (dkey 0x0C i)) 0x09C1 (dkey 0x0C i)
    ([BitVec.ofNat 8 code, 0#8] ++ le 2 mA ++ (match other with | some a => le 4 (dkey 0x0C a) | none => [])) s

/-- The switch goes off. -/
def DioCh.turnOff (c : DioCh) (now : Nat) : DioCh :=
  if c.on then { c with on := false, offAt := now, open_ := false, mA := 0, mAAt := now } else c

/-- An output that changes ends every readback test of its die without a verdict (R301). -/
def endTests (i : Nat) (s : State) : State :=
  let on := (s.io.dios.filter (fun e => e.1 / 48 == i / 48 && e.2.test.isSome)).map (fun e => e.1)
  forAll on (fun j st => st.setDio j { st.dio j with test := none }) s

/-- Forced or under a safe state (R301). -/
def State.dioTestBar (s : State) (i : Nat) : Bool := (s.out (dkey 0x0C i)).row == 2 || (s.out (dkey 0x0C i)).row == 3

/-- The test of a channel that comes to be forced, or under a safe state, does not run on (R301). -/
def barTest (i : Nat) (s : State) : State :=
  if s.dioTestBar i && (s.dio i).test.isSome then s.setDio i { s.dio i with test := none } else s

/-- The switch follows the selected value and protection (R297, R298). -/
def driveDio (i : Nat) (s : State) : State :=
  let o := s.out (dkey 0x0C i)
  let s := barTest i s
  let c := s.dio i
  let want := o.sel = 1 && o.row ≠ 1 && !dioHeld c
  if want = c.on then s
  else if want then
    let n := s.io.onCount + 1
    endTests i ({ s with io := { s.io with onCount := n } }.setDio i { c with on := true, onSeq := n, onAt := s.aon.nowUs, high := false })
  else endTests i (s.setDio i (c.turnOff s.aon.nowUs))

/-- The die of a DIO channel works it. -/
def State.dioLive (s : State) (i : Nat) : Bool :=
  s.pwr.phase != .cold && (s.die (dieOf (dkey 0x0C i))).conf && s.en 0x0C i

/-- It is a working output. -/
def State.dioOut (s : State) (i : Nat) : Bool := s.dioLive i && s.db 0x0C i 0 1 1 == 1

/-- A trip (R298): off, latched unless an auto-retry series allows another retry. -/
def dioTrip (i code mA : Nat) (s : State) : State :=
  let c := s.dio i
  let now := s.aon.nowUs
  let auto := (code == 1 || code == 2) && s.db 0x0C i 1 6 1 == 1
  let run := seriesNow c.seriesAt now
  let done := if run.isSome then c.retries else 0
  let c1 := { c.turnOff now with
    fault := code, tripAt := now, retries := done, latched := !auto || decide (3 ≤ done),
    seriesAt := if auto then some (run.getD now) else run }
  dioRecord2 i code mA none (endTests i (s.setDio i c1))

/-! ## Rows -/

/-- The comparator's thresholds in 0.01 V, on above the first and off below the second (R296): an output's are those of
Type 3 (R294). -/
def dioThresholds (d : Bytes) : Nat × Nat := if bits (fld d 0 1) 2 2 = 1 then (1200, 900) else (900, 700)

/-- A reading of a land (R296, R301). The comparator judges it, and an off output's readback gives its verdict; the first
sample sets the filtered state. -/
def dioReading (i cV : Nat) (s : State) : State :=
  let c := s.dio i
  let now := s.aon.nowUs
  let th := dioThresholds (s.d 0x0C i)
  let comp := decide (th.1 < cV) || (c.comp && decide (th.2 ≤ cV))
  let c1 := if !s.dioLive i then c
    else if c.first then { c with comp := comp, land := comp, first := false, agreeAt := now }
    else { c with comp := comp, agreeAt := if comp = c.land then now else c.agreeAt }
  let high := if cV < 500 then false else decide (850 < cV) || c.high
  s.setDio i (if !s.dioOut i || c.on then c1 else { c1 with high := high, highAt := if high then now else c.highAt })

/-- FILTER samples of 50 µs, in µs (R294, R296). -/
def State.dioFilterUs (s : State) (i : Nat) : Nat := 50 * s.df 0x0C i 2 2

/-- DIO_INPUT_CHANGE (R296): FILTER consecutive samples have disagreed with the filtered state, which becomes `land`. The
first sample of a start sets it without filtering or an edge. -/
def dioInputChange (i : Nat) (land : Bool) (s : State) : State :=
  let c := s.dio i
  let now := s.aon.nowUs
  if !s.dioLive i then s
  else if c.first then s.setDio i { c with land := land, comp := land, first := false, agreeAt := now }
  else if c.land == land || !s.due (c.agreeAt + s.dioFilterUs i) then s
  else
    let was := s.dioLand i
    let s1 := s.setDio i { c with land := land, comp := land, agreeAt := now }
    let c1 := s1.dio i
    if !was && s1.dioLand i then s1.setDio i { c1 with edges := (c1.edges + 1) % 4294967296 } else s1

/-- DIO_OVERLOAD (R298): the output has been at its current limit, 0.75 A or more, for INRUSH_MS. -/
def dioOverload (i mA : Nat) (s : State) : State :=
  let c := s.dio i
  if s.dioOut i && c.on && decide (750 ≤ mA) && s.due (c.onAt + 1000 * s.df 0x0C i 8 2) then dioTrip i 1 mA s else s

/-- DIO_THERMAL (R298). -/
def dioThermal (i mA : Nat) (s : State) : State :=
  if s.dioOut i && !dioHeld (s.dio i) then
    let s1 := dioTrip i 2 mA s
    s1.setDio i { s1.dio i with hot := true }
  else s

/-- DIO_RETRY (R298): `hot` tells whether the sensor is still at or above 160 °C. -/
def dioRetry (i : Nat) (hot : Bool) (s : State) : State :=
  let c := s.dio i
  if !s.dioOut i || c.latched || !(c.fault == 1 || c.fault == 2) || !s.due (c.tripAt + 1000000) then s
  else if c.fault = 2 && hot then s.setDio i { c with hot := true }
  else
    let run := seriesNow c.seriesAt s.aon.nowUs
    driveDio i (s.setDio i { c with
      fault := 0, hot := hot, seriesAt := run, retries := if run.isSome then c.retries + 1 else 0 })

/-- DIO_RETRY_SERIES_END (R298). -/
def dioSeriesEnd (i : Nat) (s : State) : State :=
  let c := s.dio i
  match c.seriesAt with
  | some t => if s.due (t + 60000000) then s.setDio i { c with seriesAt := none, retries := 0 } else s
  | none => s

/-- DIO_GROUP_SHED (R300): the group sum in mA. -/
def dioGroupShed (g mA : Nat) (s : State) : State :=
  let gr := s.dgrp g
  let ok := match gr.shedAt with | none => true | some t => s.due (t + 5000)
  if s.pwr.phase == .cold || 4 ≤ g || mA ≤ 6000 || !ok then s else
    let on := ((List.range 24).map (fun j => 24 * g + j)).filter (fun i => s.dioOut i && (s.dio i).on)
    let best := on.foldl (fun b i =>
      match b with
      | none => some i
      | some j => if (s.dio j).onSeq < (s.dio i).onSeq then some i else some j) (none : Option Nat)
    match best with
    | none => s
    | some i => dioTrip i 3 (s.dio i).mA (s.setDgrp g { gr with shedAt := some s.aon.nowUs })

/-- The readback verdict on an off output: PARALLEL with a channel, or EXT_SUPPLY (R301). -/
def dioVerdict (i : Nat) (by_ : Option Nat) (s : State) : State :=
  let code := if by_.isSome then 5 else 4
  let c := s.dio i
  dioRecord2 i code c.mA by_ (s.setDio i { c with fault := code, latched := true, test := none })

/-- Begin the readback test of a high channel, unless one runs on its die (R301). -/
def startTest (i : Nat) (s : State) : State :=
  let die := (List.range 48).map (fun j => 48 * (i / 48) + j)
  if s.dioTestBar i || die.any (fun j => (s.dio j).test.isSome) then s else
    let on := die.filter (fun j => j != i && s.dioOut j && (s.dio j).on && !s.dioTestBar j)
    if on.isEmpty then dioVerdict i none s else
      s.setDio i { s.dio i with test := some on, pulseAt := s.aon.nowUs }

/-- After a verdict the next channel of the die that reads high is tested. -/
def nextTest (i : Nat) (s : State) : State :=
  match ((List.range 48).map (fun j => 48 * (i / 48) + j)).find? (fun j =>
      s.dioOut j && !(s.dio j).on && (s.dio j).high && (s.dio j).fault == 0) with
  | some j => startTest j s
  | none => s

/-- DIO_READBACK_HIGH (R301). -/
def dioReadbackHigh (i : Nat) (s : State) : State :=
  let c := s.dio i
  if !s.dioOut i || c.on || !s.due (c.offAt + 10000) then s else
    let s1 := s.setDio i { c with high := true, highAt := s.aon.nowUs }
    if c.fault = 0 && c.test.isNone then startTest i s1 else s1

/-- PARALLEL_TEST_PULSE (R301): the running pulse of the test of channel `i` ends after its 300 µs, and the next begins
1 ms later. A pulse on a channel that is forced or under a safe state by now gives no verdict of its own. -/
def testPulse (i : Nat) (fell : Bool) (s : State) : State :=
  let c := s.dio i
  match c.test with
  | some (a :: rest) =>
    if !s.due (c.pulseAt + 300) then s
    else if fell && !s.dioTestBar a then nextTest i (dioVerdict i (some a) s)
    else if rest.isEmpty then nextTest i (dioVerdict i none s)
    else s.setDio i { c with test := some rest, pulseAt := c.pulseAt + 1300 }
  | _ => s

/-- The off pulse of a readback test holds the switch of channel `a` off now (R301). -/
def State.dioPulsed (s : State) (a : Nat) : Bool :=
  ((List.range 48).map (fun j => 48 * (a / 48) + j)).any (fun i =>
    match (s.dio i).test with
    | some (b :: _) =>
      b == a && !s.dioTestBar a && decide ((s.dio i).pulseAt ≤ s.aon.nowUs) && decide (s.aon.nowUs < (s.dio i).pulseAt + 300)
    | _ => false)

/-- DIO_EXT_SUPPLY_END (R298): the land has read low with the channel off for 1 s. -/
def dioExtEnd (i : Nat) (s : State) : State :=
  let c := s.dio i
  if s.pwr.phase != .cold && !c.on && s.due (c.offAt + 1000000) && s.due (c.highAt + 1000000) then
    s.setDio i { c with high := false, fault := if c.fault = 4 || c.fault = 5 then 0 else c.fault, test := none }
  else s

/-- A reading of an output's current (R299, R303): an off output carries none. -/
def dioCurrent (i mA : Nat) (s : State) : State :=
  let c := s.dio i
  let mA := if c.on then mA else 0
  s.setDio i { c with mA := mA, mAAt := if (mA < 2) = (c.mA < 2) then c.mAAt else s.aon.nowUs }

/-- DIO_OPEN_FLAG (R299): an on output has drawn less than 2 mA for 100 ms, or the reverse. -/
def dioOpenFlag (i : Nat) (o : Bool) (s : State) : State :=
  let c := s.dio i
  let long := s.due (max c.onAt c.mAAt + 100000)
  if !s.dioOut i then s
  else if o then
    if c.on && s.db 0x0C i 1 5 1 = 1 && decide (c.mA < 2) && long then s.setDio i { c with open_ := true } else s
  else if !c.on || (decide (2 ≤ c.mA) && long) then s.setDio i { c with open_ := false }
  else s

/-- DIO_SUPPLY_LOW (R299): VDIO below 10.0 V for 500 ms, or at or above 10.5 V for 1 s. -/
def dioSupplyLow (g cV : Nat) (s : State) : State :=
  if s.pwr.phase == .cold || 4 ≤ g then s else
    let s1 := { s with pwr := { s.pwr with vdio := Tbl.wr 0 s.pwr.vdio g cV } }
    if cV < 1000 then s1.setDgrp g { s1.dgrp g with low := true }
    else if 1050 ≤ cV then s1.setDgrp g { s1.dgrp g with low := false }
    else s1

/-- FAULT_CLEAR of a DIO channel (R298): whether it is refused with FAULTED, and the state after. -/
def dioClear (i : Nat) (s : State) : Bool × State :=
  let c := s.dio i
  let blocked := match c.fault with
    | 2 => c.hot
    | 4 => c.high
    | 5 => c.high
    | _ => false
  if c.fault = 0 then (false, s)
  else if blocked then (true, s)
  else (false, s.setDio i { c with fault := 0, latched := false, retries := 0, seriesAt := none })

/-- A DIO channel's 16-byte record (R303). -/
def dioRecord (s : State) (i : Nat) : Bytes :=
  let k := dkey 0x0C i
  let o := s.out k
  let c := s.dio i
  let isOut := s.db 0x0C i 0 1 1 == 1
  let flags := (if isOut then o.src % 2 + 2 * b2n (c.on && !s.dioPulsed i) else 0) + 4 * b2n (s.dioLand i)
    + 8 * b2n (isOut && (s.forced k).isSome) + 16 * b2n c.open_ + 32 * b2n (s.dgrp (i / 24)).low
  le 4 k ++ [BitVec.ofNat 8 flags, BitVec.ofNat 8 c.fault] ++ le 2 (if isOut then c.mA else 0) ++ le 4 c.edges
    ++ [BitVec.ofNat 8 c.retries] ++ zeros 3

/-! ## Meanings -/

/-- DIO_INPUT_CHANGE (R296). -/
def execDioInputChange (ch : Nat) (land : Bool) (s : State) : Host.Outcome State Fault Refusal := .next (dioInputChange ch land s)
/-- DIO_OVERLOAD (R298). -/
def execDioOverload (ch mA : Nat) (s : State) : Host.Outcome State Fault Refusal := .next (dioOverload ch mA s)
/-- DIO_THERMAL (R298). -/
def execDioThermal (ch mA : Nat) (s : State) : Host.Outcome State Fault Refusal := .next (dioThermal ch mA s)
/-- DIO_RETRY (R298). -/
def execDioRetry (ch : Nat) (hot : Bool) (s : State) : Host.Outcome State Fault Refusal := .next (dioRetry ch hot s)
/-- DIO_GROUP_SHED (R300). -/
def execDioGroupShed (grp mA : Nat) (s : State) : Host.Outcome State Fault Refusal := .next (dioGroupShed grp mA s)
/-- DIO_READBACK_HIGH (R301). -/
def execDioReadbackHigh (ch : Nat) (s : State) : Host.Outcome State Fault Refusal := .next (dioReadbackHigh ch s)
/-- DIO_EXT_SUPPLY_END (R298). -/
def execDioExtSupplyEnd (ch : Nat) (s : State) : Host.Outcome State Fault Refusal := .next (dioExtEnd ch s)
/-- DIO_OPEN_FLAG (R299). -/
def execDioOpenFlag (ch : Nat) (open_ : Bool) (s : State) : Host.Outcome State Fault Refusal := .next (dioOpenFlag ch open_ s)
/-- DIO_SUPPLY_LOW (R299). -/
def execDioSupplyLow (grp cV : Nat) (s : State) : Host.Outcome State Fault Refusal := .next (dioSupplyLow grp cV s)
/-- PARALLEL_TEST_PULSE (R301). -/
def execParallelTestPulse (ch : Nat) (fell : Bool) (s : State) : Host.Outcome State Fault Refusal := .next (testPulse ch fell s)
/-- DIO_RETRY_SERIES_END (R298). -/
def execDioRetrySeriesEnd (ch : Nat) (s : State) : Host.Outcome State Fault Refusal := .next (dioSeriesEnd ch s)

end Sys2Proof.Machine
end

