-- ==== Sys2Proof/Machine/Fans.lean ====
section
/-! DEFINITION. Fan channels (chapter 15): from value to land, the start sequencer, the tachometer, faults, the
table and the full-on watchdog. -/
namespace Sys2Proof.Machine

/-- The fan's descriptor. -/
def State.fd (s : State) (i : Nat) : Bytes := s.d 0x0A i

/-- TACH_EN (R327). -/
def State.tachEn (s : State) (i : Nat) : Bool := s.db 0x0A i 0 5 1 == 1

/-- The used skip bands, LO then HI (R327). -/
def fanBands (d : Bytes) : List (Nat × Nat) :=
  ((List.range 4).map (fun j => (fld d (28 + 4 * j) 2, fld d (30 + 4 * j) 2))).filter (fun b => b.1 != 0 || b.2 != 0)

/-- The banded target for a target `t` from a present duty `cur` (R332). -/
def bandTarget (bands : List (Nat × Nat)) (t cur : Nat) : Nat :=
  match bands.find? (fun b => decide (b.1 < t) && decide (t < b.2)) with
  | none => t
  | some b => if cur ≤ b.1 then b.1 else if b.2 ≤ cur then b.2 else if cur - b.1 ≤ b.2 - cur then b.1 else b.2

/-- One slew step (R333): a step that would end inside a band ends at its far edge. -/
def slewStep (bands : List (Nat × Nat)) (cur tgt step : Nat) : Nat :=
  if cur < tgt then
    let n := min tgt (cur + step)
    match bands.find? (fun b => decide (b.1 < n) && decide (n < b.2)) with
    | some b => b.2
    | none => n
  else
    let n := max tgt (cur - step)
    match bands.find? (fun b => decide (b.1 < n) && decide (n < b.2)) with
    | some b => b.1
    | none => n

/-- The fault of a fan and its record (R336, R346). -/
def fanFault (i code : Nat) (s : State) : State :=
  let c := s.fan i
  let s1 := s.setFan i { c with fault := code }
  ttOccur 1 0x09C3 (dkey 0x0A i)
    ([BitVec.ofNat 8 code, BitVec.ofNat 8 (min c.tries 255)] ++ le 2 c.rpm ++ le 2 c.driven) s1

/-- The driven duty by the state of the sequencer (R331 step 4, R334). -/
def fanDriven (d : Bytes) (c : FanCh) : Nat :=
  if c.fault = 3 then 0 else
    match c.st with
    | 1 => if fld d 14 2 = 0 then c.base else max (fld d 12 2) c.base
    | 2 => c.base
    | 3 => c.base
    | _ => 0

/-- LOSS_ACT KEEP (R327, R335). -/
def fanKeeps (d : Bytes) : Bool := bit (fld d 1 1) 5

/-- What the sequencer watches for tachometer loss, and under KEEP for its end (R335). -/
def fanWatch (tach : Bool) (d : Bytes) (now : Nat) (c : FanCh) : FanCh :=
  let lost := tach && c.st == 3 && decide (0 < c.base) && c.fault == 0 && decide (c.rpm < fld d 20 2)
  let good := tach && fanKeeps d && c.fault == 2 && decide (fld d 18 2 ≤ c.rpm)
  { c with lowAt := if lost then some (c.lowAt.getD now) else none, okAt := if good then some (c.okAt.getD now) else none }

/-- Finish a change of a fan: DRIVEN and the watches. -/
def fanSettle (i : Nat) (s : State) : State :=
  let d := s.fd i
  let c := s.fan i
  s.setFan i (fanWatch (s.tachEn i) d s.aon.nowUs { c with driven := fanDriven d c })

/-- The speed proves a start (R334): KICK goes on to PROVING and PROVING to RUN. Under RESTART that clears TACH_LOSS. -/
def fanProve (i : Nat) (s : State) : State :=
  let d := s.fd i
  let c := s.fan i
  if s.tachEn i && (c.st == 1 || c.st == 2) && decide (fld d 18 2 ≤ c.rpm) then
    let b := if c.st = 1 && fld d 26 2 ≠ 0 && fld d 14 2 ≠ 0 && (s.out (dkey 0x0A i)).row = 5 then max (fld d 12 2) c.base
             else c.base
    s.setFan i { c with st := 3, base := b, fault := if c.fault = 2 && !fanKeeps d then 0 else c.fault }
  else s

/-- The kick ends: PROVING, or RUN without a tachometer; the channel slews from the kick's duty (R333, R334). -/
def fanKicked (i : Nat) (s : State) : State :=
  let d := s.fd i
  let c := s.fan i
  let b := if fld d 26 2 ≠ 0 && fld d 14 2 ≠ 0 && (s.out (dkey 0x0A i)).row = 5 then max (fld d 12 2) c.base else c.base
  fanProve i (s.setFan i { c with st := if s.tachEn i then 2 else 3, base := b })

/-- A try begins (R334). -/
def fanKick (i tries : Nat) (s : State) : State :=
  let c := s.fan i
  let s1 := fanProve i (s.setFan i { c with st := 1, tries := tries, kickAt := s.aon.nowUs })
  if fld (s.fd i) 14 2 = 0 && (s1.fan i).st = 1 then fanKicked i s1 else s1

/-- The sequencer on a new duty (R334): a change from 0 begins a start, a change to 0 ends it. -/
def fanSeq (i : Nat) (s : State) : State :=
  let c := s.fan i
  if c.fault = 3 || c.st = 5 then s
  else if c.base = 0 then s.setFan i { c with st := 0 }
  else if c.st = 0 then fanKick i 1 (s.setFan i { c with starts := (c.starts + 1) % 4294967296 })
  else s

/-- The port die forms the driven duty (R331); `step` at the 10 ms rhythm, where SLEW moves. -/
def formFan (step : Bool) (i : Nat) (s : State) : State :=
  let k := dkey 0x0A i
  let o := s.out k
  let o1 := if (s.die 1).frozen then o else { o with row5 := s.row5 k o.src }
  let s1 := s.setOut k o1
  let sel := select s1 k
  let s2 := s1.setOut k { o1 with sel := sel.1, row := sel.2 }
  let d := s.fd i
  let bands := fanBands d
  let c := s2.fan i
  let slew := fld d 26 2
  let c1 :=
    if sel.2 = 5 then
      let tgt := bandTarget bands sel.1 c.driven
      let b := if slew = 0 || (c.st = 1 && fld d 14 2 ≠ 0) then tgt
        else if tgt = 0 && c.st = 4 then 0
        else if step then slewStep bands c.base tgt slew else c.base
      { c with base := b, hold := b, skip := decide (tgt ≠ sel.1) }
    else { c with base := sel.1, skip := false,
                  hold := if sel.2 = 2 && !(s.die 1).frozen then bandTarget bands o1.row5 c.hold else c.hold }
  fanSettle i (fanSeq i (s2.setFan i c1))

/-! ## The table (R337) -/

/-- Table temperature and duty of point `j`. -/
def tblT (d : Bytes) (j : Nat) : Int := sfld d (56 + 4 * j) 4
/-- Table duty of point `j`. -/
def tblDuty (d : Bytes) (j : Nat) : Int := fld d (88 + 2 * j) 2

/-- The function f of R337, from point `j` on. -/
def tblF (d : Bytes) (v : Int) : Nat → Nat → Int
  | 0, j => tblDuty d j
  | n + 1, j =>
    if v < tblT d (j + 1) then
      if v ≤ tblT d j then tblDuty d j
      else
        let den := (tblT d (j + 1) - tblT d j).toNat
        divRound (tblDuty d j * den + (v - tblT d j) * (tblDuty d (j + 1) - tblDuty d j)) den
    else tblF d v n (j + 1)

/-- f(v) over the first TBL_N points. -/
def tblAt (d : Bytes) (v : Int) : Int := tblF d v (fld d 52 1 - 1) 0

/-- The table value after an update (R337). -/
def fanTable (i : Nat) (s : State) : State :=
  let d := s.fd i
  let c := s.fan i
  if !s.en 0x0A i || s.fanClass i ≠ 1 then s else
    let e := s.afe (fld d 48 4)
    if e.qual = 2 || e.qual = 3 then s
    else if e.qual = 1 && !e.overR then
      let up := tblAt d e.value
      let dn := tblAt d (e.value + fld d 54 2)
      let t : Int := if (c.tbl : Int) < up then up else if dn < c.tbl then dn else c.tbl
      s.setFan i { c with tbl := t.toNat, tblVal := e.value }
    else s.setFan i { c with tbl := (tblDuty d (fld d 52 1 - 1)).toNat }

/-! ## The rows of the table -/

/-- FAN_DUTY_UPDATE (R331): every 10 ms each enabled fan's duty is formed, with one slew step. -/
def fanDutyUpdate (s : State) : State :=
  if s.pwr.phase == .cold || !(s.die 1).conf || !s.due (s.io.fanAt + 10000) then s else
    let s1 := { s with io := { s.io with fanAt := s.io.fanAt + 10000 } }
    forAll (s.enabled 0x0A) (formFan true) s1

/-- The port die works this fan. -/
def State.fanLive (s : State) (i : Nat) : Bool := s.pwr.phase != .cold && (s.die 1).conf && s.en 0x0A i

/-- TACH_EDGE (R326): `cycles` FAN cycles since the falling edge before it. -/
def tachEdge (i cycles : Nat) (s : State) : State :=
  if !s.fanLive i then s else
    let c := s.fan i
    let ppr := s.df 0x0A i 8 1
    let iv := if c.edged && decide (cycles < 100000000) then (cycles :: c.ivals).take ppr else []
    let sum := iv.sum
    let rpm := if iv.length < ppr || sum = 0 then 0 else min 30000 (divRound 3000000000 sum).toNat
    let s1 := s.setFan i { c with ivals := iv, rpm := rpm, edged := true, edgeAt := s.aon.nowUs }
    fanSettle i (fanProve i s1)

/-- TACH_TIMEOUT (R326): no falling edge for 2 s. -/
def tachTimeout (i : Nat) (s : State) : State :=
  let c := s.fan i
  if !s.fanLive i || !c.edged || !s.due (c.edgeAt + 2000000) then s
  else fanSettle i (s.setFan i { c with ivals := [], rpm := 0, edged := false })

/-- KICK_END (R334). -/
def kickEnd (i : Nat) (s : State) : State :=
  let c := s.fan i
  if !s.fanLive i || c.st ≠ 1 || !s.due (c.kickAt + fld (s.fd i) 14 2 * 1000) then s else fanSettle i (fanKicked i s)

/-- PROVING_TIMEOUT (R334): RETRY_WAIT, or BLOCKED after the last try; FULL_ON goes on in RUN. -/
def provingTimeout (i : Nat) (s : State) : State :=
  let c := s.fan i
  let d := s.fd i
  if !s.fanLive i || !s.tachEn i || !(c.st == 1 || c.st == 2) || !s.due (c.kickAt + fld d 16 2 * 1000) then s
  else if c.tries < 1 + fld d 9 1 then fanSettle i (s.setFan i { c with st := 4, waitAt := s.aon.nowUs })
  else
    let s1 := fanFault i 1 s
    fanSettle i (s1.setFan i { s1.fan i with st := if s.fanClass i = 2 then 3 else 5 })

/-- RETRY_WAIT_END (R334). -/
def retryWaitEnd (i : Nat) (s : State) : State :=
  let c := s.fan i
  if !s.fanLive i || c.st ≠ 4 || !s.due (c.waitAt + fld (s.fd i) 24 2 * 1000000) then s
  else fanSettle i (fanKick i (c.tries + 1) s)

/-- TACH_LOSS (R335). -/
def tachLoss (i : Nat) (s : State) : State :=
  let c := s.fan i
  let d := s.fd i
  match c.lowAt with
  | none => s
  | some t =>
    if !s.fanLive i || !s.due (max t (c.kickAt + fld d 16 2 * 1000) + fld d 22 2 * 1000) then s else
      let s1 := fanFault i 2 s
      if fanKeeps d then fanSettle i s1
      else fanSettle i (s1.setFan i { s1.fan i with st := 4, tries := 0, waitAt := s.aon.nowUs })

/-- TACH_LOSS_CLEAR (R335): START_RPM or more for 1 s under KEEP. -/
def tachLossClear (i : Nat) (s : State) : State :=
  let c := s.fan i
  match c.okAt with
  | none => s
  | some t => if !s.fanLive i || !s.due (t + 1000000) then s else fanSettle i (s.setFan i { c with fault := 0 })

/-- PWM_SHORT (R336): the land is released and the sequencer rests. -/
def pwmShort (i : Nat) (s : State) : State :=
  if !s.fanLive i || (s.fan i).fault = 3 then s else
    let s1 := fanFault i 3 s
    fanSettle i (s1.setFan i { s1.fan i with st := 0 })

/-- Load the full-on watchdog with HOST_TIMEOUT (R339). -/
def wdReload (s : State) : State :=
  { s with io := { s.io with wdLoad := s.hostTimeout, wdAt := s.aon.nowUs, wdZero := false } }

/-- FULL_ON_WATCHDOG_EXPIRY (R339). -/
def watchdogExpiry (s : State) : State :=
  if s.pwr.phase == .cold || !(s.die 1).conf || s.io.wdZero || !s.due (s.io.wdAt + s.io.wdLoad * 1000000) then s
  else { s with io := { s.io with wdZero := true } }

/-- FAULT_CLEAR of a fan (R336): BLOCKED and PWM_SHORT end, and a start begins when a value is selected. -/
def fanClear (i : Nat) (s : State) : State :=
  let c := s.fan i
  if c.fault = 1 || c.fault = 3 then fanSettle i (fanSeq i (s.setFan i { c with fault := 0, st := 0 })) else s

/-! ## Records (R341) -/

/-- A fan's 32-byte record. -/
def fanRecord (s : State) (i : Nat) : Bytes :=
  let k := dkey 0x0A i
  let o := s.out k
  let c := s.fan i
  let tbl := s.fanClass i == 1 && ((o.row == 5 && s.host.silence) || (o.row == 3 && s.db 0x0A i 1 3 2 == 3))
  let flags := b2n (s.forced k).isSome + 2 * b2n tbl + 4 * b2n s.io.wdZero + 8 * b2n c.skip
    + 16 * b2n (o.row == 3) + 32 * b2n (o.row == 4)
  le 4 k ++ le 2 o.src ++ le 2 c.driven ++ le 2 c.rpm ++ [BitVec.ofNat 8 c.st, BitVec.ofNat 8 c.fault, BitVec.ofNat 8 flags,
    BitVec.ofNat 8 c.tries] ++ le 2 (if s.fanClass i = 1 then c.tbl else 0) ++ le 4 (c.runUs / 1000000) ++ le 4 c.starts
    ++ leInt 4 c.tblVal ++ zeros 4

/-! ## Meanings -/

/-- FAN_DUTY_UPDATE (R331). -/
def execFanDutyUpdate (s : State) : Host.Outcome State Fault Refusal := .next (fanDutyUpdate s)
/-- TACH_EDGE (R326). -/
def execTachEdge (ch cycles : Nat) (s : State) : Host.Outcome State Fault Refusal := .next (tachEdge ch cycles s)
/-- TACH_TIMEOUT (R326). -/
def execTachTimeout (ch : Nat) (s : State) : Host.Outcome State Fault Refusal := .next (tachTimeout ch s)
/-- KICK_END (R334). -/
def execKickEnd (ch : Nat) (s : State) : Host.Outcome State Fault Refusal := .next (kickEnd ch s)
/-- PROVING_TIMEOUT (R334). -/
def execProvingTimeout (ch : Nat) (s : State) : Host.Outcome State Fault Refusal := .next (provingTimeout ch s)
/-- RETRY_WAIT_END (R334). -/
def execRetryWaitEnd (ch : Nat) (s : State) : Host.Outcome State Fault Refusal := .next (retryWaitEnd ch s)
/-- TACH_LOSS (R335). -/
def execTachLoss (ch : Nat) (s : State) : Host.Outcome State Fault Refusal := .next (tachLoss ch s)
/-- TACH_LOSS_CLEAR (R335). -/
def execTachLossClear (ch : Nat) (s : State) : Host.Outcome State Fault Refusal := .next (tachLossClear ch s)
/-- PWM_SHORT (R336). -/
def execPwmShort (ch : Nat) (s : State) : Host.Outcome State Fault Refusal := .next (pwmShort ch s)
/-- FAN_TABLE_UPDATE (R337). -/
def execFanTableUpdate (ch : Nat) (s : State) : Host.Outcome State Fault Refusal :=
  .next (if s.fanLive ch then fanTable ch s else s)
/-- FULL_ON_WATCHDOG_EXPIRY (R339). -/
def execFullOnWatchdogExpiry (s : State) : Host.Outcome State Fault Refusal := .next (watchdogExpiry s)

end Sys2Proof.Machine
end

