-- ==== Sys2Proof/Machine/Loads.lean ====
section
/-! DEFINITION. Protected load channels (chapter 14): switching, the wire model, protection, bank states. -/
namespace Sys2Proof.Machine

/-- The load's descriptor. -/
def State.ld (s : State) (i : Nat) : Bytes := s.d 0x0B i

/-- The four wire classes (R311): a1 and a2 in 10⁻⁴ K/A², τ1 and τ2 in s, cap on M_eff in nK. -/
def wireClass (c : Nat) : Nat × Nat × Nat × Nat × Nat :=
  match c with
  | 0 => (49587, 198347, 8, 300, 187500000000)
  | 1 => (22039, 88154, 12, 450, 83330000000)
  | 2 => (12397, 49587, 16, 600, 46875000000)
  | _ => (7934, 31736, 24, 900, 30000000000)

/-- M_eff in nK (R310). -/
def mEff (d : Bytes) : Nat := min ((sfld d 10 2 - sfld d 8 2).toNat * 10000000) (wireClass (bits (fld d 2 1) 0 2)).2.2.2.2

/-- HEAT: (θ1 + θ2) as % of M_eff, holding at 255 (R323). -/
def loadHeat (d : Bytes) (c : LoadCh) : Nat :=
  if mEff d = 0 then 255 else min 255 (divRound ((c.th1 + c.th2) * 100 : Nat) (mEff d)).toNat

/-- The root of a sum of squares, in bits from the highest down; CURRENT holds 16 bits. -/
def rootFloor (n : Nat) : Nat :=
  (List.range 16).foldr (fun b r => if (r + 2 ^ b) * (r + 2 ^ b) ≤ n then r + 2 ^ b else r) 0

/-- CURRENT: the RMS of the last 100 ms, mA (R308). -/
def LoadCh.rms (c : LoadCh) : Nat := rootFloor (c.sq.sum / 100)

/-- θ2 at the start of the power die: 0.4 M_eff (R313). -/
def LoadCh.coldWire (c : LoadCh) (d : Bytes) : LoadCh :=
  if c.begun then c else { c with th1 := 0, th2 := mEff d * 4 / 10, begun := true }

/-- RESTART_MS in µs (R306). -/
def restartUs (d : Bytes) (i : Nat) : Nat := (if fld d 14 2 = 0xFFFF then 50 * (i % 12) else fld d 14 2) * 1000

/-- A fault that holds the switch off (R319): every one but EXT_SUPPLY. -/
def loadHeld (c : LoadCh) : Bool := c.fault != 0 && c.fault != 5

/-- The fault of a load and its record (R319, R346). -/
def loadRecord2 (i code mA : Nat) (s : State) : State :=
  ttOccur (dieOf (dkey 0x0B i)) 0x09C2 (dkey 0x0B i)
    ([BitVec.ofNat 8 code, 0#8] ++ le 2 mA ++ [BitVec.ofNat 8 (loadHeat (s.ld i) (s.load i))]) s

/-- The switch goes off. -/
def LoadCh.turnOff (c : LoadCh) (now : Nat) : LoadCh :=
  if c.on then { c with on := false, offAt := now, open_ := false, duty := 0 } else c

/-- Lamp duty in 1/1,024 from VBB in 0.01 V (R309). -/
def lampDuty (mv cV : Nat) : Nat :=
  if cV * 10 ≤ mv then 1024 else (divRound (1024 * mv * mv : Nat) (cV * 10 * (cV * 10))).toNat

/-- The lamp allowance runs: lamp mode, the first 50 ms after the change from off to on (R309). -/
def State.lampOpen (s : State) (i : Nat) : Bool :=
  s.db 0x0B i 0 1 1 == 1 && (s.load i).on && decide (s.aon.nowUs < (s.load i).onAt + 50000)

/-- DUTY: the lamp duty, 1,024 outside lamp mode and in HOLD (R309, R317, R323). -/
def State.loadDuty (s : State) (i : Nat) : Nat :=
  if !(s.load i).on then 0
  else if s.db 0x0B i 0 1 1 = 1 && (s.bank (i / 12)).st ≠ 1 then (s.load i).duty else 1024

/-- Channels of a bank. -/
def bankChans (b : Nat) : List Nat := (List.range 12).map (fun j => 12 * b + j)

/-- A channel waits for its turn-on. -/
def State.loadWaits (s : State) (i : Nat) : Bool :=
  (s.out (dkey 0x0B i)).sel == 1 && (s.out (dkey 0x0B i)).row != 1 && !(s.load i).on && !loadHeld (s.load i)

/-- A bank changes state, with its record (R317). -/
def bankTo (b st : Nat) (s : State) : State :=
  let s1 := s.setBank b { s.bank b with st := st, at_ := s.aon.nowUs }
  ttOccur (dieOf (dkey 0x0B (12 * b))) 0x0981 (dkey 0x0B (12 * b))
    ([BitVec.ofNat 8 st, 0#8] ++ le 2 (Tbl.rd 0 s.pwr.vbb b)) s1

/-- RESTART ends when no channel waits (R317). -/
def bankDone (b : Nat) (s : State) : State :=
  if (s.bank b).st = 3 && !(bankChans b).any s.loadWaits then bankTo b 0 s else s

/-- The switch follows the selected value, protection and the bank state (R307, R317, R318). The delay at the start of a
die runs from the first latch at which a channel's value is on, be it forced off or not. -/
def driveLoad (i : Nat) (s : State) : State :=
  let k := dkey 0x0B i
  let o := s.out k
  let die := dieOf k
  let s0 := if (o.sel = 1 || o.row5 = 1) && o.row ≠ 1 && Tbl.rd 0 s.io.loadStart die = 0 then
      { s with io := { s.io with loadStart := Tbl.wr 0 s.io.loadStart die (s.aon.nowUs + 1) } } else s
  let c := s0.load i
  let now := s0.aon.nowUs
  let bk := s0.bank (i / 12)
  let wait := restartUs (s0.ld i) i
  let may := match bk.st with
    | 0 => decide (Tbl.rd 0 s0.io.loadStart die - 1 + wait ≤ now)
    | 3 => decide (bk.at_ + wait ≤ now)
    | _ => false
  let want := o.sel = 1 && o.row ≠ 1 && !loadHeld c && bk.st ≠ 2
  let s1 := if want && c.on then s0
    else if want && may then
      let n := s0.io.onCount + 1
      let lamp := s0.db 0x0B i 0 1 1 == 1
      let duty := if lamp && bk.st ≠ 1 then lampDuty (fld (s0.ld i) 16 2) (Tbl.rd 0 s0.pwr.vbb (i / 12)) else 1024
      { s0 with io := { s0.io with onCount := n } }.setLoad i { c with on := true, onSeq := n, onAt := now, duty := duty, clampUs := 0 }
    else s0.setLoad i (c.turnOff now)
  bankDone (i / 12) s1

/-- A trip (R314, R319): off, with the fault latched unless an auto-retry series allows another retry. -/
def loadTrip (i code mA : Nat) (s : State) : State :=
  let c := s.load i
  let now := s.aon.nowUs
  let auto := (code == 1 || code == 3) && s.db 0x0B i 0 5 1 == 1
  let run := seriesNow c.seriesAt now
  let done := if run.isSome then c.retries else 0
  let c1 := { c.turnOff now with
    fault := code, tripAt := now, retries := done,
    latched := !auto || decide (3 ≤ done),
    seriesAt := if auto then some (run.getD now) else run,
    trips := if code ≤ 3 then (c.trips + 1) % 4294967296 else c.trips }
  bankDone (i / 12) (loadRecord2 i code mA (s.setLoad i c1))

/-- The die of a load channel works it. -/
def State.loadLive (s : State) (i : Nat) : Bool :=
  s.pwr.phase != .cold && (s.die (dieOf (dkey 0x0B i))).conf && s.en 0x0B i

/-! ## Rows -/

/-- One millisecond of a channel (R308, R310): `q` is the mean of i² in mA², which the wire model and CURRENT take. -/
def fuseStep (i q : Nat) (s : State) : State :=
  if !s.loadLive i then s else
    let d := s.ld i
    let c := s.load i
    let w := wireClass (bits (fld d 2 1) 0 2)
    let q := if c.on then q else 0
    let upd (th a tau : Nat) : Nat := ((th : Int) + divRound ((a * q : Nat) - (10 * th : Nat) : Int) (10000 * tau)).toNat
    let c1 := { c with th1 := upd c.th1 w.1 w.2.2.1, th2 := upd c.th2 w.2.1 w.2.2.2.1, sq := (q :: c.sq).take 100 }
    let s1 := s.setLoad i c1
    if mEff d ≤ c1.th1 + c1.th2 && c1.fault ≠ 2 then loadTrip i 2 c1.rms s1 else s1

/-- FUSE_MODEL_STEP (R310): every 1 ms, for each enabled channel. -/
def fuseModelStep (meanSq : List (Nat × Nat)) (s : State) : State :=
  if s.pwr.phase == .cold || !s.due (s.io.fuseAt + 1000) then s else
    let s1 := { s with io := { s.io with fuseAt := s.io.fuseAt + 1000 } }
    forAll (s.enabled 0x0B) (fun i st => fuseStep i (Tbl.rd 0 meanSq i) st) s1

/-- LAMP_DUTY_UPDATE (R309): the banks' VBB averages over the last 1 ms, 0.01 V. -/
def lampUpdate (vbb : List Nat) (s : State) : State :=
  forAll (s.enabled 0x0B) (fun i st =>
    let c := st.load i
    if st.loadLive i && c.on && st.db 0x0B i 0 1 1 = 1 then
      match vbb[i / 12]? with
      | some cV => st.setLoad i { c with duty := if (st.bank (i / 12)).st = 1 then 1024 else lampDuty (fld (st.ld i) 16 2) cV }
      | none => st
    else st) s

/-- LOAD_SHORT (R309, R314): the clamp has engaged, at 13.5 A or more, and holds for `us`. The channel trips, but for clamp
time that the lamp allowance still has. -/
def loadShort (i mA us : Nat) (s : State) : State :=
  let c := s.load i
  if !s.loadLive i || !c.on || mA < 13500 then s
  else if s.lampOpen i && c.clampUs + us < 5000 then s.setLoad i { c with clampUs := c.clampUs + us }
  else loadTrip i 1 mA s

/-- LOAD_THERMAL (R319). -/
def loadThermal (i mA : Nat) (s : State) : State :=
  if s.loadLive i && !loadHeld (s.load i) then
    let s1 := loadTrip i 3 mA s
    s1.setLoad i { s1.load i with hot := true }
  else s

/-- LOAD_REVERSE (R319): LSWnS stands above VBB + 0.5 V. -/
def loadReverse (i mA : Nat) (s : State) : State :=
  if s.loadLive i && (s.load i).on then
    let s1 := loadTrip i 6 mA s
    s1.setLoad i { s1.load i with senseCv := max (s1.load i).senseCv (Tbl.rd 0 s.pwr.vbb (i / 12) + 51) }
  else s

/-- LOAD_RETRY (R319): `hot` tells whether the sensor is still at or above 160 °C. -/
def loadRetry (i : Nat) (hot : Bool) (s : State) : State :=
  let c := s.load i
  if !s.loadLive i || c.latched || !(c.fault == 1 || c.fault == 3) || !s.due (c.tripAt + 1000000) then s
  else if c.fault = 3 && hot then s.setLoad i { c with hot := true }
  else
    let run := seriesNow c.seriesAt s.aon.nowUs
    driveLoad i (s.setLoad i { c with
      fault := 0, hot := hot, seriesAt := run, retries := if run.isSome then c.retries + 1 else 0 })

/-- LOAD_RETRY_SERIES_END (R319). -/
def loadSeriesEnd (i : Nat) (s : State) : State :=
  let c := s.load i
  match c.seriesAt with
  | some t => if s.due (t + 60000000) then s.setLoad i { c with seriesAt := none, retries := 0 } else s
  | none => s

/-- A reading of LSWnS, 0.01 V (R319, R323). -/
def loadSense (i cV : Nat) (s : State) : State :=
  let c := s.load i
  s.setLoad i { c with
    senseCv := cV, ext := decide (850 < cV), highAt := if 500 ≤ cV then s.aon.nowUs else c.highAt }

/-- A reading of a load's current, mA (R320). -/
def loadCurrent (i mA : Nat) (s : State) : State :=
  let c := s.load i
  let few (n : Nat) : Bool := decide (n < fld (s.ld i) 12 2)
  s.setLoad i { c with mA := mA, mAAt := if few mA = few c.mA then c.mAAt else s.aon.nowUs }

/-- LOAD_EXT_SUPPLY (R319): LSWnS above 8.5 V on a channel commanded off, or its end, below 5.0 V with the channel off for
1 s. -/
def loadExtSupply (i : Nat) (high : Bool) (s : State) : State :=
  let c := s.load i
  if !s.loadLive i || c.on then s
  else if high then
    let o := s.out (dkey 0x0B i)
    if (s.bank (i / 12)).st = 1 || !s.due (c.offAt + 20000) then s
    else if c.fault = 0 && o.sel == 1 && o.row != 1 then s
    else
      let c1 := { c with ext := true, highAt := s.aon.nowUs }
      if c.fault = 0 then loadRecord2 i 5 c.rms (s.setLoad i { c1 with fault := 5, latched := true }) else s.setLoad i c1
  else if !s.due (c.offAt + 1000000) || !s.due (c.highAt + 1000000) then s
  else s.setLoad i { c with ext := false, fault := if c.fault = 5 then 0 else c.fault }

/-- LOAD_OPEN_FLAG (R320): an on channel has drawn less than OPEN_MA for 100 ms, or the reverse. -/
def loadOpenFlag (i : Nat) (o : Bool) (s : State) : State :=
  let c := s.load i
  let few := decide (c.mA < fld (s.ld i) 12 2)
  let long := s.due (max c.onAt c.mAAt + 100000)
  if !s.loadLive i || (s.bank (i / 12)).st ≠ 0 then s
  else if o then
    if c.on && s.db 0x0B i 0 4 1 = 1 && few && long then s.setLoad i { c with open_ := true } else s
  else if !c.on || (!few && long) then s.setLoad i { c with open_ := false }
  else s

/-- The on channel of a list that was turned on most recently. -/
def newestLoad (s : State) (l : List Nat) : Option Nat :=
  (l.filter (fun i => (s.load i).on)).foldl (fun b i =>
    match b with
    | none => some i
    | some j => if (s.load j).onSeq < (s.load i).onSeq then some i else some j) none

/-- Shed the newest channel of a list with BANK_SHED (R316). -/
def shedLoad (l : List Nat) (s : State) : State :=
  match newestLoad s l with
  | none => s
  | some i => loadTrip i 4 (s.load i).rms s

/-- The Bosun does not watch the module's sum (R316). -/
def State.noBosun (s : State) (d : Nat) : Bool := s.pwr.phase != .run || (s.die d).silent || (s.die d).keeping || (s.die d).keepOver

/-- BANK_SHED (R316): the 1 s average of a bank, 0.01 A. -/
def bankShed (b cA : Nat) (s : State) : State :=
  let die := if b < 2 then 2 else 3
  let bk := s.bank b
  let s1 := s.setBank b { bk with cA := cA }
  let b2 := if b % 2 = 0 then b + 1 else b - 1
  let other := (s.bank b2).cA
  let ok := match bk.shedAt with | none => true | some t => s.due (t + 1000000)
  let mark (b : Nat) (st : State) : State := st.setBank b { st.bank b with shedAt := some s.aon.nowUs }
  if s.pwr.phase == .cold || 4 ≤ b || !(s.die die).conf then s
  else if !ok then s1
  else if 2000 < cA then mark b (shedLoad (bankChans b) s1)
  else if s.noBosun die && 3000 < cA + other then mark b2 <| mark b (shedLoad (bankChans (b / 2 * 2) ++ bankChans (b / 2 * 2 + 1)) s1)
  else s1

/-- MODULE_SHED_CHECK (R316): every 100 ms, the four averages in 0.01 A. -/
def moduleShed (cA : List Nat) (s : State) : State :=
  if !s.up || !s.due (s.io.modAt + 100000) || (s.noBosun 2 && s.noBosun 3) then s else
    let s1 := { s with io := { s.io with modAt := s.aon.nowUs } }
    let s2 := forAll [0, 1, 2, 3] (fun b st => st.setBank b { st.bank b with cA := cA.getD b (st.bank b).cA }) s1
    let sum := ([0, 1, 2, 3].map (fun b => (s2.bank b).cA)).sum
    let ok := match s.io.modShedAt with | none => true | some t => s.due (t + 1000000)
    if 6000 < sum && ok then
      let s3 := shedLoad (List.range 48) s2
      { s3 with io := { s3.io with modShedAt := some s.aon.nowUs } }
    else s2

/-- A bank's VBB reading, 0.01 V. -/
def setVbb (b cV : Nat) (s : State) : State := { s with pwr := { s.pwr with vbb := Tbl.wr 0 s.pwr.vbb b cV } }

/-- The die of a bank is powered and configured. -/
def State.bankLive (s : State) (b : Nat) : Bool :=
  s.pwr.phase != .cold && decide (b < 4) && (s.die (if b < 2 then 2 else 3)).conf

/-- BANK_HOLD (R317). -/
def bankHold (b cV : Nat) (s : State) : State :=
  if s.bankLive b && (s.bank b).st = 0 && cV < 1000 then
    let s1 := bankTo b 1 (setVbb b cV s)
    forAll (bankChans b) (fun i st =>
      let c := st.load i
      if c.on then st.setLoad i { c with duty := 1024 } else st) s1
  else s

/-- BANK_HOLD_EXIT (R317): waiting turn-ons are made at the next output latch. -/
def bankHoldExit (b cV : Nat) (s : State) : State :=
  if s.bankLive b && (s.bank b).st = 1 && 1050 ≤ cV then bankTo b 0 (setVbb b cV s) else s

/-- BANK_UNDERVOLTAGE (R317). -/
def bankUndervoltage (b cV : Nat) (s : State) : State :=
  if s.bankLive b && (s.bank b).st = 1 && (decide (cV < 600) || s.due ((s.bank b).at_ + 500000)) then
    let s1 := bankTo b 2 (setVbb b cV s)
    forAll (bankChans b) (fun i st => st.setLoad i ((st.load i).turnOff st.aon.nowUs)) s1
  else s

/-- BANK_RESTART (R317, R318). -/
def bankRestart (b cV : Nat) (s : State) : State :=
  if s.pwr.phase == .cold || 4 ≤ b || cV < 1100 then s else
    let bk := s.bank b
    let s1 := setVbb b cV (s.setBank b { bk with risen := true })
    if s.bankLive b && (bk.st = 2 || (bk.st = 0 && !bk.risen)) then
      let s2 := bankTo b 3 s1
      bankDone b (forAll ((bankChans b).filter s2.loadLive) driveLoad s2)
    else s1

/-- CHANNEL_RESTART_DELAY (R318). -/
def restartDelay (i : Nat) (s : State) : State := if s.loadLive i then driveLoad i s else s

/-- FAULT_CLEAR of a load (R313, R319): whether it is refused with FAULTED, and the state after. -/
def loadClear (i : Nat) (s : State) : Bool × State :=
  let c := s.load i
  let d := s.ld i
  let blocked := match c.fault with
    | 2 => decide (fld d 20 1 * mEff d < 100 * (c.th1 + c.th2))
    | 3 => c.hot
    | 5 => c.ext
    | 6 => decide (Tbl.rd 0 s.pwr.vbb (i / 12) < c.senseCv)
    | _ => false
  if c.fault = 0 then (false, s)
  else if blocked then (true, s)
  else (false, s.setLoad i { c with fault := 0, latched := false, retries := 0, seriesAt := none })

/-- A load's 32-byte record (R323). -/
def loadRecord (s : State) (i : Nat) : Bytes :=
  let k := dkey 0x0B i
  let o := s.out k
  let c := s.load i
  let d := s.ld i
  let vbb := Tbl.rd 0 s.pwr.vbb (i / 12)
  let bk := s.bank (i / 12)
  let flags := o.src % 2 + 2 * b2n c.on + 4 * b2n (decide (vbb < 2 * c.senseCv)) + 8 * b2n (s.forced k).isSome
    + 16 * b2n c.open_ + 32 * b2n (s.lampOpen i)
  le 4 k ++ [BitVec.ofNat 8 flags, BitVec.ofNat 8 c.fault] ++ le 2 c.rms ++ le 2 vbb
    ++ [BitVec.ofNat 8 bk.st, BitVec.ofNat 8 (loadHeat d c)]
    ++ leInt 2 (clampI (-32768) 32767 (sfld d 8 2 + divRound (c.th1 + c.th2 : Nat) 10000000))
    ++ le 2 (s.loadDuty i) ++ le 4 c.trips ++ le 2 bk.cA ++ [BitVec.ofNat 8 c.retries] ++ zeros 9

/-! ## Meanings -/

/-- FUSE_MODEL_STEP (R310). -/
def execFuseModelStep (meanSq : List (Nat × Nat)) (s : State) : Host.Outcome State Fault Refusal := .next (fuseModelStep meanSq s)
/-- LAMP_DUTY_UPDATE (R309). -/
def execLampDutyUpdate (vbb : List Nat) (s : State) : Host.Outcome State Fault Refusal := .next (lampUpdate vbb s)
/-- LOAD_SHORT (R314). -/
def execLoadShort (ch : Nat) (hit : ClampIn) (s : State) : Host.Outcome State Fault Refusal := .next (loadShort ch hit.mA hit.us s)
/-- LOAD_THERMAL (R319). -/
def execLoadThermal (ch mA : Nat) (s : State) : Host.Outcome State Fault Refusal := .next (loadThermal ch mA s)
/-- LOAD_RETRY (R319). -/
def execLoadRetry (ch : Nat) (hot : Bool) (s : State) : Host.Outcome State Fault Refusal := .next (loadRetry ch hot s)
/-- LOAD_REVERSE (R319). -/
def execLoadReverse (ch mA : Nat) (s : State) : Host.Outcome State Fault Refusal := .next (loadReverse ch mA s)
/-- LOAD_EXT_SUPPLY (R319). -/
def execLoadExtSupply (ch : Nat) (high : Bool) (s : State) : Host.Outcome State Fault Refusal := .next (loadExtSupply ch high s)
/-- LOAD_OPEN_FLAG (R320). -/
def execLoadOpenFlag (ch : Nat) (open_ : Bool) (s : State) : Host.Outcome State Fault Refusal := .next (loadOpenFlag ch open_ s)
/-- BANK_SHED (R316). -/
def execBankShed (bank cA : Nat) (s : State) : Host.Outcome State Fault Refusal := .next (bankShed bank cA s)
/-- MODULE_SHED_CHECK (R316). -/
def execModuleShedCheck (cA : List Nat) (s : State) : Host.Outcome State Fault Refusal := .next (moduleShed cA s)
/-- BANK_HOLD (R317). -/
def execBankHold (bank cV : Nat) (s : State) : Host.Outcome State Fault Refusal := .next (bankHold bank cV s)
/-- BANK_HOLD_EXIT (R317). -/
def execBankHoldExit (bank cV : Nat) (s : State) : Host.Outcome State Fault Refusal := .next (bankHoldExit bank cV s)
/-- BANK_UNDERVOLTAGE (R317). -/
def execBankUndervoltage (bank cV : Nat) (s : State) : Host.Outcome State Fault Refusal := .next (bankUndervoltage bank cV s)
/-- BANK_RESTART (R317). -/
def execBankRestart (bank cV : Nat) (s : State) : Host.Outcome State Fault Refusal := .next (bankRestart bank cV s)
/-- CHANNEL_RESTART_DELAY (R318). -/
def execChannelRestartDelay (ch : Nat) (s : State) : Host.Outcome State Fault Refusal := .next (restartDelay ch s)
/-- LOAD_RETRY_SERIES_END (R319). -/
def execLoadRetrySeriesEnd (ch : Nat) (s : State) : Host.Outcome State Fault Refusal := .next (loadSeriesEnd ch s)

end Sys2Proof.Machine
end

