-- ==== Sys2Proof/Machine/Latch.lean ====
section
/-! DEFINITION. The output latch (R22 step 5, R26), forces (R27, R234, R287), analogue outputs (R288 to R290) and
the LOCKOUT land. -/
namespace Sys2Proof.Machine

/-- An analogue output drives the selected value, or 0 V with SHORT (R288 to R290). -/
def driveAo (i : Nat) (s : State) : State :=
  let o := s.out (dkey 0x0D i)
  let c := s.ao i
  s.setAo i { c with value := if c.short || o.row = 1 then 0 else o.sel }

/-- R26 over one output, and its channel after it. -/
def applyOut (k : Nat) (s : State) : State :=
  if keyType k = 0x0A then formFan false (keyIdx k) s
  else
    let sel := select s k
    let s1 := s.setOut k { s.out k with sel := sel.1, row := sel.2 }
    match keyType k with
    | 0x0B => driveLoad (keyIdx k) s1
    | 0x0C => driveDio (keyIdx k) s1
    | _ => driveAo (keyIdx k) s1

/-- One output at an output latch: a working one takes its source, another is off. -/
def latchOut (k : Nat) (s : State) : State :=
  if s.outOn k then applyOut k (latchSource k s) else (applyOut k s).setOut k OutC.dflt

/-- The output latch: every output takes its source value together (R22 step 5, R287). -/
def latchAll (s : State) : State :=
  forAll (s.outputs ++ ((s.io.outs.map (fun e => e.1)).filter (fun k => !s.outOn k))) latchOut s

/-- The outputs of one die: R26 is applied without taking new source values (R302, R340, R389, R390). -/
def applyDie (d : Nat) (s : State) : State := forAll (s.outputs.filter (fun k => dieOf k == d)) applyOut s

/-- Forces act at once (R27). The end of a force waits for the output latch (R287), or, where the die takes no source
values, gives way to rows 3 and 4 of R26. -/
def forcesNow (s : State) : State :=
  forAll (s.outputs.filter (fun k => (s.forced k).isSome || ((s.out k).row == 2 && (s.die (dieOf k)).frozen))) applyOut s

/-! ## LOCKOUT (R234) -/

/-- The dies that sense LOCKOUT active: bit d − 1 for die d. -/
def State.lockMask (s : State) : Nat := b2n (s.die 1).sense + 2 * b2n (s.die 2).sense + 4 * b2n (s.die 3).sense

/-- LOCKOUT is active as the Bosun sees it. -/
def State.lockout (s : State) : Bool := s.lockMask != 0

/-- The record LOCKOUT, code 0x0641, or LOCKOUT_DISAGREE, code 0x0681: both carry the land and the dies that sense it
active (R346). -/
def lockRecord (code mask : Nat) (s : State) : State :=
  ttOccur 0 code 0 [BitVec.ofNat 8 (b2n (decide (mask ≠ 0))), BitVec.ofNat 8 mask] s

/-- The dies' new sensing of LOCKOUT (R234). A die that senses it active forces at once; the Bosun records a change of
the land. An item of MAST_MODE counts only since the latest release on the port die (R230 row 2). -/
def lockoutSense (mask : Nat) (s : State) : State :=
  let now := s.aon.nowUs
  let powered := s.pwr.phase != .cold
  let s1 := forAll [1, 2, 3] (fun d st =>
    let x := st.die d
    let a := bit mask (d - 1)
    st.setDie d { x with sense := a, senseAt := if x.sense = a then x.senseAt else now, force := x.force || (a && powered) }) s
  let agree := mask = 0 || mask = 7
  let s2 := { s1 with io := { s1.io with lockRec := mask, disagreed := s1.io.disagreed && !agree,
                                         disagreeAt := if agree then none else some (s1.io.disagreeAt.getD now) } }
  let s2 := if bit mask 0 then { s2 with masts := { s2.masts with
      m := Tbl.mapv Mast.dflt (fun x => { x with lockItem := false }) s2.masts.m } } else s2
  let s3 := if (s.io.lockRec = 0) ≠ (mask = 0) then lockRecord 0x0641 mask s2 else s2
  if powered then forcesNow s3 else s3

/-- LOCKOUT_CHANGE (R234): the land as the dies see it changes; while VIO is low every die takes it as active (R363). -/
def lockoutChange (m : Nat) (s : State) : State :=
  let s1 := { s with io := { s.io with lockLand := m % 8 } }
  if s.pwr.vioLow then s1 else lockoutSense (m % 8) s1

/-- LOCKOUT_RELEASE (R234): a die stops forcing once the land has stayed inactive for 100 ms. -/
def lockoutRelease (s : State) : State :=
  forcesNow (forAll [1, 2, 3] (fun d st =>
    let x := st.die d
    if x.force && !x.sense && st.due (x.senseAt + 100000) then st.setDie d { x with force := false } else st) s)

/-- LOCKOUT_DISAGREE (R234): the dies have disagreed for more than 10 ms. -/
def lockoutDisagree (m : Nat) (s : State) : State :=
  match s.io.disagreeAt with
  | some t =>
    if s.io.disagreed || m ≠ s.lockMask || !s.due (t + 10000) then s
    else lockRecord 0x0681 m { s with io := { s.io with disagreed := true } }
  | none => s

/-! ## Analogue outputs -/

/-- The port die works this output. -/
def State.aoLive (s : State) (i : Nat) : Bool := s.pwr.phase != .cold && (s.die 1).conf && s.en 0x0D i

/-- AO_SHORT (R290): in voltage mode, while the output drives above 0 V. -/
def aoShort (i : Nat) (s : State) : State :=
  let c := s.ao i
  if s.aoLive i && s.db 0x0D i 0 1 1 = 0 && c.value ≠ 0 then
    ttOccur 1 0x09C4 (dkey 0x0D i) [1#8] (s.setAo i { c with short := true, value := 0 })
  else s

/-- AO_OPEN (R290): in current mode, the compliance for 10 ms sets OPEN, 10 ms within it clears OPEN. -/
def aoOpen (i : Nat) (compliance : Bool) (s : State) : State :=
  let c := s.ao i
  if !s.aoLive i || s.db 0x0D i 0 1 1 = 0 || c.open_ = compliance then s
  else
    let s1 := s.setAo i { c with open_ := compliance }
    if compliance then ttOccur 1 0x09C4 (dkey 0x0D i) [2#8] s1 else s1

/-- FAULT_CLEAR of an analogue output (R290): SHORT ends and the output drives its value again. -/
def aoClear (i : Nat) (s : State) : State :=
  let c := s.ao i
  if c.short then driveAo i (s.setAo i { c with short := false }) else s

/-! ## Meanings -/

/-- LOCKOUT_CHANGE (R234). -/
def execLockoutChange (dies : Nat) (s : State) : Host.Outcome State Fault Refusal := .next (lockoutChange dies s)
/-- LOCKOUT_RELEASE (R234). -/
def execLockoutRelease (s : State) : Host.Outcome State Fault Refusal := .next (lockoutRelease s)
/-- LOCKOUT_DISAGREE (R234). -/
def execLockoutDisagree (dies : Nat) (s : State) : Host.Outcome State Fault Refusal := .next (lockoutDisagree dies s)
/-- AO_SHORT (R290). -/
def execAoShort (ch : Nat) (s : State) : Host.Outcome State Fault Refusal := .next (aoShort ch s)
/-- AO_OPEN (R290). -/
def execAoOpen (ch : Nat) (compliance : Bool) (s : State) : Host.Outcome State Fault Refusal := .next (aoOpen ch compliance s)

end Sys2Proof.Machine
end

