-- ==== Sys2Proof/Machine/Afe.lean ====
section
/-! DEFINITION. The analogue front end (chapter 12): results, faults, autoranging, the scan plane, threshold
switches and their records. -/
namespace Sys2Proof.Machine

/-- A front-end reference: TYPE 0x0F direct, 0x10 scan. -/
def afeRef (r : Nat) : Bool := keyType r == 0x0F || keyType r == 0x10

/-- The channel's descriptor. -/
def State.afd (s : State) (r : Nat) : Bytes := s.d (keyType r) (keyIdx r)

/-- The front end runs, hoisted and calibrated (R31, R272, R293). -/
def State.afeUp (s : State) : Bool :=
  s.pwr.phase != .cold && (s.die 1).conf && (Tbl.rd Domain.dflt s.pwr.domains 9).hoisted && !s.start.afeCalibrating

/-- The front end converts this channel. -/
def State.afeLive (s : State) (r : Nat) : Bool := s.afeUp && afeRef r && s.en (keyType r) (keyIdx r)

/-- CONV of a channel. -/
def afeConv (d : Bytes) : Nat := bits (fld d 1 1) 0 3
/-- MEAS of a channel: 0 VOLT, 1 RATIO, 2 RES, 3 CURRENT. -/
def afeMeas (d : Bytes) : Nat := bits (fld d 0 1) 1 2
/-- AUTO. -/
def afeAuto (d : Bytes) : Bool := bit (fld d 0 1) 3
/-- The lowest range allowed: RANGE 8 with ATT_OK on VOLT, else 0 (R272, R280). -/
def afeLowest (d : Bytes) : Nat := if bit (fld d 0 1) 4 && afeMeas d = 0 then 8 else 0

/-- A direct channel works at any time; a scan channel only in its own step (R277). -/
def State.inStep (s : State) (r : Nat) : Bool :=
  keyType r == 0x0F || ((s.conv (afeConv (s.afd r))).busy && (s.conv (afeConv (s.afd r))).cur == some (keyIdx r))

/-- The quality as it is read: DISABLED for a channel that is not enabled (R281). -/
def State.afeQual (s : State) (r : Nat) : Nat := if s.en (keyType r) (keyIdx r) then (s.afe r).qual else 7

/-! ## Threshold switches (R285) -/

/-- A switch changes state. -/
def setSwitch (n : Nat) (on : Bool) (s : State) : State :=
  let w := s.sw n
  if w.on = on then s
  else s.setSw n { w with on := on, at_ := s.aon.nowUs, changes := (w.changes + 1) % 4294967296 }

/-- A switch judges a result of its channel (R285). -/
def judge (r n : Nat) (s : State) : State :=
  let d := s.d 0x11 n
  let w := s.sw n
  let q := s.afeQual r
  if q = 1 then
    let v := (s.afe r).value
    let level := sfld d 8 4
    let hyst : Int := fld d 12 4
    let low := bit (fld d 0 1) 1
    let meets := if w.on then (if low then decide (level + hyst < v) else decide (v < level - hyst))
      else (if low then decide (v < level) else decide (level < v))
    let cnt := if meets then w.count + 1 else 0
    if meets && fld d 1 1 ≤ cnt then setSwitch n (!w.on) (s.setSw n { w with count := 0, failAs := false })
    else s.setSw n { w with count := cnt, failAs := false }
  else if 4 ≤ q then
    let s1 := s.setSw n { w with count := 0, failAs := true }
    match bits (fld d 0 1) 2 2 with
    | 1 => setSwitch n true s1
    | 2 => setSwitch n false s1
    | _ => s1
  else s.setSw n { w with count := 0 }

/-- The enabled switches of a channel. -/
def State.switchesOf (s : State) (r : Nat) : List Nat := (s.enabled 0x11).filter (fun n => s.df 0x11 n 4 4 == r)

/-- Every switch of a channel judges its result, and links force (R285, R287). -/
def judgeAll (r : Nat) (s : State) : State := forcesNow (forAll (s.switchesOf r) (judge r) s)

/-! ## Results (R279 to R281) -/

/-- The quality of a channel, with the record of a change into a fault (R279, R346). -/
def setQual (r q : Nat) (s : State) : State :=
  let c := s.afe r
  let s1 := s.setAfe r { c with qual := q }
  if (q = 4 || q = 5) && !(c.qual = 4 || c.qual = 5) then
    ttOccur 1 0x0A81 r [BitVec.ofNat 8 q, BitVec.ofNat 8 c.exc, BitVec.ofNat 8 c.range] s1
  else s1

/-- The step of a scan channel ends (R277). -/
def endStep (r : Nat) (s : State) : State :=
  if keyType r = 0x10 && s.inStep r then
    let c := afeConv (s.afd r)
    s.setConv c { s.conv c with busy := false }
  else s

/-- A result of quality `q` other than GOOD: the value is kept (R279, R281). -/
def faultResult (r q : Nat) (s : State) : State :=
  let c := s.afe r
  let d := s.afd r
  let s1 := s.setAfe r { c with
    results := (c.results + 1) % 4294967296, restarts := 0, second := false, settle := false,
    range := if c.toLowest then afeLowest d else c.range, arCount := if c.toLowest then 0 else c.arCount, toLowest := false }
  endStep r (judgeAll r (setQual r q s1))

/-- SWAP. -/
def afeSwap (d : Bytes) : Bool := bit (fld d 0 1) 5

/-- The result of the windows' readings (R275): with SWAP, half the difference of the two. -/
def afeHalves (d : Bytes) (plus minus : Rat) : Rat := if afeSwap d then (plus - minus) / 2 else plus

/-- x of a result (R276): RES is the ratio times RREF less LEAD, in Ω, and CURRENT the shunt voltage over 50 Ω, in mA. -/
def afeX (d : Bytes) (v : Rat) : Rat :=
  match afeMeas d with
  | 2 => v * ((400 * 10 ^ fld d 10 1 : Nat) : Rat) - ((fld d 28 2 : Nat) : Rat) / 100
  | 3 => v / 50
  | _ => v

/-- Full scale of a reading at a range (R272): mV, mV/V for RATIO, the ratio for RES. -/
def afeFull (d : Bytes) (range : Nat) : Rat :=
  if range = 8 then 25000
  else (match afeMeas d with | 1 => 1000 | 2 => 1 | _ => 2500) / ((2 ^ range : Nat) : Rat)

/-- Window of a RATE code, µs (R273). -/
def rateWindow (rate : Nat) : Nat := [36667, 20000, 16667, 400, 300000].getD rate 0

/-- H, the length of a half, ns (R275). -/
def afeHalfNs (d : Bytes) : Nat :=
  if fld d 6 2 = 0 then max 500000 (1000 * (fld d 24 2 + rateWindow (fld d 8 1))) else 500000000 / fld d 6 2

/-- Length of a scan channel's step, ns (R277). -/
def stepNs (d : Bytes) : Nat := 12000 + 1000 * fld d 26 2 + (if afeSwap d then 2 else 1) * afeHalfNs d

/-- The pins a channel names (R276). -/
def afePins (d : Bytes) : List Nat := ((List.range 6).map (fun j => fld d (12 + j) 1)).filter (fun p => p != 0xFF)

/-- The open-input test runs at this result (R278): at every step of the scan plane, before every 16th result of a direct
channel. -/
def State.testRuns (s : State) (r : Nat) : Bool := keyType r == 0x10 || (s.afe r).tests == 15

/-- A pin with OPEN_TEST moved by more than 50 mV (R270, R278). -/
def State.pinOpen (s : State) (r : Nat) (moved : List (Nat × Nat)) : Bool :=
  (afePins (s.afd r)).any (fun p => s.db 0x0E p 0 3 1 == 1 && moved.any (fun m => m.1 == p && decide (50 < m.2)))

/-- A rational without its sign. -/
def ratMag (x : Rat) : Rat := if x < 0 then -x else x

/-- The gain rises by one code at a result boundary (R280). -/
def rangeUp (r : Nat) (s : State) : State :=
  let c := s.afe r
  let s1 := setQual r 3 (s.setAfe r { c with range := if c.range = 8 then 0 else c.range + 1, arCount := 0 })
  forAll (s1.switchesOf r) (judge r) s1

/-- A completed result with a value (R281); `sig` is the reading's magnitude. -/
def goodResult (r xBits : Nat) (sig : Rat) (v : Int) (overR : Bool) (s : State) : State :=
  let c := s.afe r
  let d := s.afd r
  let below := afeAuto d && c.range ≠ 7 && decide (sig < 2 / 5 * afeFull d c.range)
  let n := if below then c.arCount + 1 else 0
  let s1 := s.setAfe r { c with
    value := v, x := xBits, overR := overR, swapped := afeSwap d, goodAt := some s.aon.nowUs,
    results := (c.results + 1) % 4294967296, restarts := 0, second := false, shuntOpen := false, arCount := n }
  let s2 := judgeAll r (setQual r 1 s1)
  endStep r (if below && fld d 11 1 ≤ n then rangeUp r s2 else s2)

/-- The clip detector sees overload (R280). -/
def rangeClip (r : Nat) (second : Bool) (s : State) : State :=
  if !s.afeLive r || !s.inStep r then s else
    let c := s.afe r
    let d := s.afd r
    if !afeAuto d then faultResult r 5 s
    else
      let n := if second = c.second then c.restarts else 0
      if 3 ≤ n then faultResult r 5 (s.setAfe r { c with toLowest := true })
      else
        let dest := if c.range = 8 || (c.range = 0 && afeLowest d = 8) then 8 else c.range - 3
        let c1 := { c with restarts := n + 1, second := second }
        if dest = c.range then s.setAfe r c1
        else
          let s1 := setQual r 3 (s.setAfe r { c1 with range := dest, arCount := 0 })
          forAll (s1.switchesOf r) (judge r) s1

/-- CONVERSION_RESULT (R275 to R281): a scan channel's at the end of its step. -/
def conversionResult (y : ConvIn) (s : State) : State :=
  let r := y.ref
  let c := s.afe r
  let d := s.afd r
  let off := keyType r = 0x0F && c.shortAt.isSome && c.exc = 3
  let early := keyType r = 0x10 && !s.due ((s.conv (afeConv d)).t0 + stepNs d / 1000)
  if !s.afeLive r || !s.inStep r || off || early then s else
    let tested := s.testRuns r
    let isOpen := tested && s.pinOpen r y.moved
    let s0 := s.setAfe r { c with
      openIn := if tested then isOpen else c.openIn, tests := (c.tests + 1) % 16,
      exc := if fld d 2 1 = 0xFF then 0 else 1, shortAt := none }
    let curve := s.d 0x22 (fld d 18 2)
    let form := fld curve 1 1
    let cur := afeMeas d = 3
    match f32 y.first.toNat, (if afeSwap d then f32 y.second.toNat else some 0) with
    | some a, some b =>
      let v := afeHalves d a b
      let full := afeFull d c.range
      let x := afeX d v
      if isOpen then faultResult r 5 s0
      else if cur && c.shuntOpen && 25 ≤ ratMag x then faultResult r 5 s0
      else if cur && form = 0x09 && (x < 36 / 10 || 21 < x) then faultResult r 5 s0
      else if full < ratMag a || (afeSwap d && full < ratMag b) then rangeClip r c.second s0
      else if c.settle then faultResult r 2 s0
      else
        let cjRef := fld d 20 4
        let tc := 2 ≤ form && form ≤ 6
        if tc && cjRef ≠ 0 && s.afeQual cjRef ≠ 1 then faultResult r (s.afeQual cjRef) s0
        else
          let cj := if cjRef = 0 then y.landTemp else (s.afe cjRef).value
          match sensorCurve curve (f32Of x) cj with
          | none => faultResult r 5 s0
          | some o => goodResult r (f32Of x) (ratMag v) o.1 o.2 s0
    | _, _ => faultResult r 5 s0

/-! ## Sources and wiring (R278, R279) -/

/-- EXC_OPEN (R279). -/
def excOpen (r : Nat) (s : State) : State :=
  let c := s.afe r
  if !s.afeLive r || !s.inStep r || fld (s.afd r) 2 1 = 0xFF || (keyType r = 0x0F && c.exc = 3) then s
  else faultResult r 4 (s.setAfe r { c with exc := 2 })

/-- The channels that a source serves with this one: on the direct plane both stages of a converter may share it (R274). -/
def State.sharers (s : State) (r : Nat) : List Nat :=
  if keyType r = 0x0F then
    ((s.enabled 0x0F).map (dkey 0x0F)).filter (fun k => fld (s.afd k) 2 1 == fld (s.afd r) 2 1)
  else [r]

/-- EXC_SHORT (R279): the source turns off, for every channel it serves. -/
def excShort (r : Nat) (s : State) : State :=
  let c := s.afe r
  if !s.afeLive r || !s.inStep r || fld (s.afd r) 2 1 = 0xFF || (keyType r = 0x0F && c.exc = 3) then s
  else forAll (s.sharers r) (fun k st =>
    faultResult k 4 (st.setAfe k { st.afe k with exc := 3, shortAt := some (s.aon.nowUs, c.exc == 4) })) s

/-- EXC_RETRY (R279): a shorted direct source is re-enabled after 100 ms and then every 1 s. -/
def excRetry (r : Nat) (s : State) : State :=
  let c := s.afe r
  match c.shortAt with
  | some (t, again) =>
    if s.afeLive r && keyType r = 0x0F && c.exc = 3 && s.due (t + (if again then 1000000 else 100000)) then
      forAll (s.sharers r) (fun k st => st.setAfe k { st.afe k with exc := 4 }) s
    else s
  | none => s

/-- INPUT_COMMON_MODE (R279): the attenuator path of RANGE 8 is the exception (R271). -/
def inputCommonMode (r : Nat) (s : State) : State :=
  if s.afeLive r && s.inStep r && (s.afe r).range ≠ 8 then faultResult r 5 s else s

/-- SHUNT_OVERCURRENT (R279): the shunt opens. -/
def shuntOver (r : Nat) (s : State) : State :=
  if s.afeLive r && afeMeas (s.afd r) = 3 && !(s.afe r).shuntOpen then
    faultResult r 5 (s.setAfe r { s.afe r with shuntOpen := true })
  else s

/-- CHANNEL_STALE (R281): AGE has passed STALE_MS. -/
def channelStale (r : Nat) (s : State) : State :=
  let c := s.afe r
  let ms := fld (s.afd r) 30 2
  match c.goodAt with
  | some t =>
    if s.afeLive r && ms ≠ 0 && (c.qual = 1 || c.qual = 2 || c.qual = 3) && s.due (t + ms * 1000) then
      judgeAll r (setQual r 6 s)
    else s
  | none => s

/-! ## The scan plane (R277, R278) -/

/-- The enabled scan channels of a converter, ascending. -/
def State.scanList (s : State) (c : Nat) : List Nat := (s.enabled 0x10).filter (fun i => afeConv (s.d 0x10 i) == c)

/-- SCAN_PLANE_STEP (R277): the next channel of the converter's list is made. -/
def scanPlaneStep (c : Nat) (s : State) : State :=
  let v := s.conv c
  let l := s.scanList c
  if !s.afeUp || v.stuck || v.busy then s else
    let next := match v.cur with
      | some i => (l.find? (fun j => decide (i < j))).orElse (fun _ => l.head?)
      | none => l.head?
    match next with
    | none => s
    | some i =>
      let r := dkey 0x10 i
      (s.setConv c { v with cur := some i, prev := v.cur, t0 := s.aon.nowUs, busy := true }).setAfe r
        { s.afe r with restarts := 0, second := false }

/-- What the switches and the source of a scan converter do (R277). -/
structure ScanSw where
  /-- The channel whose switches are closed. -/
  made : Option Nat
  /-- The discharge is closed. -/
  discharge : Bool
  /-- The source is on. -/
  source : Bool
  /-- Its polarity is reversed. -/
  negative : Bool
  /-- A window is open. -/
  window : Bool
deriving DecidableEq, Repr

/-- Every switch open and the source off. -/
def ScanSw.open_ : ScanSw := { made := none, discharge := false, source := false, negative := false, window := false }

/-- The scan converter `ns` nanoseconds after t0 of the step in progress (R277): break before discharge before make. A scan
that has stopped, or a front end that does not run, has every switch open (R278, R293). -/
def State.scanSw (s : State) (c ns : Nat) : ScanSw :=
  let v := s.conv c
  match v.cur with
  | none => ScanSw.open_
  | some i =>
    if !s.afeUp || v.stuck || !v.busy then ScanSw.open_ else
      let d := s.d 0x10 i
      let dis := 1000 * fld d 26 2
      let h := afeHalfNs d
      let w := 1000 * rateWindow (fld d 8 1)
      let t := ns - (12000 + dis)
      if ns < 2000 then { ScanSw.open_ with made := v.prev }
      else if ns < 5000 then ScanSw.open_
      else if ns < 5000 + dis then { ScanSw.open_ with discharge := true }
      else if ns < 10000 + dis then ScanSw.open_
      else if ns < 12000 + dis then { ScanSw.open_ with made := some i }
      else
        { made := some i, discharge := false, source := fld d 2 1 != 0xFF, negative := afeSwap d && decide (h ≤ t),
          window := (decide (h - w ≤ t) && decide (t < h)) || (afeSwap d && decide (2 * h - w ≤ t) && decide (t < 2 * h)) }

/-- SCAN_SWITCH_STUCK (R278): the scan of the converter stops. -/
def scanSwitchStuck (c : Nat) (s : State) : State :=
  let v := s.conv c
  match v.cur with
  | none => s
  | some i =>
    if !s.afeUp || v.stuck then s else
      let s1 := s.setConv c { v with stuck := true, busy := false }
      let s2 := ttOccur 1 0x0AC1 (dkey 0x10 i) [BitVec.ofNat 8 c] s1
      forAll (s.scanList c) (fun j st => judgeAll (dkey 0x10 j) (setQual (dkey 0x10 j) 5 st)) s2

/-- AFE_CALIBRATION (R272, R380 step 9): 60 ms after AFE hoists the converters are calibrated; stopped scans restart
(R278). -/
def afeCalibration (s : State) : State :=
  let dm := Tbl.rd Domain.dflt s.pwr.domains 9
  if s.pwr.phase == .cold || !s.start.afeCalibrating || !s.due (dm.at_ + 60000) then s else
    let s1 := { s with start := { s.start with afeCalibrating := false }, io := { s.io with convs := [] } }
    if s.up && s.rdy 4 then s1.setRdy 9 else s1

/-! ## Records (R291, R292) -/

/-- A front-end channel's 32-byte record; RESULTS counts since the start, whatever the rig does. -/
def afeRecord (s : State) (r : Nat) : Bytes :=
  if !s.en (keyType r) (keyIdx r) then
    le 4 r ++ zeros 8 ++ [7#8] ++ zeros 3 ++ le 4 0xFFFFFFFF ++ le 4 (s.afe r).results ++ zeros 8
  else
    let c := s.afe r
    let age := match c.goodAt with | none => 0xFFFFFFFF | some t => min 0xFFFFFFFF ((s.aon.nowUs - t) / 1000)
    le 4 r ++ leInt 4 c.value ++ le 4 c.x
      ++ [BitVec.ofNat 8 c.qual, BitVec.ofNat 8 c.range, BitVec.ofNat 8 c.exc,
          BitVec.ofNat 8 (b2n c.overR + 2 * b2n c.swapped + 4 * b2n c.openIn)]
      ++ le 4 age ++ le 4 c.results ++ zeros 8

/-- An analogue output's record in the same layout. -/
def aoRecord (s : State) (i : Nat) : Bytes :=
  let k := dkey 0x0D i
  let c := s.ao i
  let overR := s.outOn k && s.overridden k
  le 4 k ++ le 4 c.value ++ le 4 c.back
    ++ [BitVec.ofNat 8 (if c.short || c.open_ then 5 else 1), 0#8, 0#8,
        BitVec.ofNat 8 (8 * b2n c.open_ + 16 * b2n c.short + 32 * b2n overR)] ++ zeros 16

/-- A threshold switch's 16-byte record (R292). -/
def swRecord (s : State) (n : Nat) : Bytes :=
  let w := s.sw n
  le 4 (dkey 0x11 n) ++ [BitVec.ofNat 8 (b2n w.on + 2 * b2n w.failAs), BitVec.ofNat 8 w.count] ++ zeros 2 ++ le 4 w.changes
    ++ le 4 (min 0xFFFFFFFF ((s.aon.nowUs - w.at_) / 1000))

/-! ## Meanings -/

/-- SCAN_PLANE_STEP (R277). -/
def execScanPlaneStep (conv : Nat) (s : State) : Host.Outcome State Fault Refusal := .next (scanPlaneStep conv s)
/-- CONVERSION_RESULT (R281). -/
def execConversionResult (r : ConvIn) (s : State) : Host.Outcome State Fault Refusal := .next (conversionResult r s)
/-- SCAN_SWITCH_STUCK (R278). -/
def execScanSwitchStuck (conv : Nat) (s : State) : Host.Outcome State Fault Refusal := .next (scanSwitchStuck conv s)
/-- EXC_OPEN (R279). -/
def execExcOpen (ref : Nat) (s : State) : Host.Outcome State Fault Refusal := .next (excOpen ref s)
/-- EXC_SHORT (R279). -/
def execExcShort (ref : Nat) (s : State) : Host.Outcome State Fault Refusal := .next (excShort ref s)
/-- EXC_RETRY (R279). -/
def execExcRetry (ref : Nat) (s : State) : Host.Outcome State Fault Refusal := .next (excRetry ref s)
/-- INPUT_COMMON_MODE (R279). -/
def execInputCommonMode (ref : Nat) (s : State) : Host.Outcome State Fault Refusal := .next (inputCommonMode ref s)
/-- SHUNT_OVERCURRENT (R279). -/
def execShuntOvercurrent (ref : Nat) (s : State) : Host.Outcome State Fault Refusal := .next (shuntOver ref s)
/-- RANGE_CLIP (R280). -/
def execRangeClip (ref : Nat) (second : Bool) (s : State) : Host.Outcome State Fault Refusal := .next (rangeClip ref second s)
/-- CHANNEL_STALE (R281). -/
def execChannelStale (ref : Nat) (s : State) : Host.Outcome State Fault Refusal := .next (channelStale ref s)
/-- AFE_CALIBRATION (R272). -/
def execAfeCalibration (s : State) : Host.Outcome State Fault Refusal := .next (afeCalibration s)

end Sys2Proof.Machine
end

