-- ==== Sys2Proof/Machine/Halyard.lean ====
section
/-! DEFINITION. Halyard ports (chapter 06): line states, the scan-cycle schedule, slot classes and
enumeration. -/
namespace Sys2Proof.Machine

/-- A Halyard port. -/
def State.hp (s : State) (p : Nat) : HalPort := Tbl.rd HalPort.dflt s.hal p

/-- Write a Halyard port. -/
def State.setHp (s : State) (p : Nat) (h : HalPort) : State := { s with hal := Tbl.wr HalPort.dflt s.hal p h }

/-- Code of a line state (R158). -/
def LineSt.code : LineSt → Nat
  | .off => 0 | .powering => 1 | .ok => 2 | .short => 3 | .open_ => 4 | .foreign => 5 | .lowSupply => 6
  | .enumerating => 7

/-- LINE_STATE as it reads (R158): ENUMERATING while a run lasts (R159). -/
def HalPort.shown (h : HalPort) : LineSt := if h.run.isSome then .enumerating else h.line

/-- LINE_FLAGS (R158). -/
def HalPort.flags (h : HalPort) : Nat := b2n h.lowLine + 2 * b2n h.noisy + 4 * b2n h.collide

/-- A supply of a group as last read. -/
def State.vhalOf (s : State) (g : Nat) : Nat := Tbl.rd 0 s.pwr.vhal g

/-- Write a port; a change of line state or flag writes a LINE_STATE record (R162, R346). -/
def putLine (p : Nat) (h : HalPort) (s : State) : State :=
  let o := s.hp p
  let s1 := s.setHp p h
  let now := if o.line ≠ h.line then h.line else h.shown
  if o.line ≠ h.line || o.shown ≠ h.shown || o.flags ≠ h.flags then
    ttOccur 1 0x0481 (dkey 0x01 p) ([BitVec.ofNat 8 now.code, BitVec.ofNat 8 h.flags] ++ le 2 h.dmA ++ le 2 h.cV
      ++ le 2 (s.vhalOf (p / 16))) s1
  else s1

/-- A switch-on begins with the 2 ms probe at 60 mA; the line state is POWERING (R147, R156). -/
def switchOn (p : Nat) (s : State) : State :=
  putLine p { s.hp p with line := .powering, probing := true, since := s.aon.nowUs } s

/-- The switch turns off with a line state. -/
def switchOff (p : Nat) (l : LineSt) (s : State) : State :=
  putLine p { s.hp p with line := l, probing := false, since := s.aon.nowUs } s

/-- The line's state apart from its group's supply. -/
def HalPort.base (h : HalPort) : LineSt := if h.line = .lowSupply then h.under else h.line

/-- The switch is on: every state but OFF, SHORT and FOREIGN, also under LOW_SUPPLY. -/
def HalPort.isOn (h : HalPort) : Bool := h.base ≠ .off && h.base ≠ .short && h.base ≠ .foreign

/-- Whether ports and their lines work: outside a cold reset (R163). -/
def State.halRuns (s : State) : Bool := s.pwr.phase != .cold

/-! ## Line events (R147, R162) -/

/-- The probe of a switch-on ends after 2 ms (R147). -/
def probeEnd (p : Nat) (shorted : Bool) (s : State) : State :=
  let h := s.hp p
  if s.halRuns && h.line = .powering && h.probing && s.due (h.since + 2000) then
    if shorted then switchOff p .short s else s.setHp p { h with probing := false, since := h.since + 2000 }
  else s

/-- Blanking ends 100 ms after the probe: the line is OK, and a later fault starts its retries anew (R147,
R162). -/
def poweringEnd (p : Nat) (s : State) : State :=
  let h := s.hp p
  if s.halRuns && h.line = .powering && !h.probing && s.due (h.since + 100000) then
    putLine p { h with line := .ok, retries := 0 } s
  else s

/-- Current at LIMIT for SHORT_TIME outside the blanking (R162). -/
def lineShort (p : Nat) (s : State) : State :=
  let h := s.hp p
  if s.halRuns && h.isOn && h.base ≠ .powering then switchOff p .short s else s

/-- Reverse current or a line above VHAL (R162). -/
def lineForeign (p : Nat) (s : State) : State :=
  if s.halRuns && (s.hp p).isOn then switchOff p .foreign s else s

/-- Wait before the next retry, µs: 10 s three times, then 60 s (R162). -/
def retryWait (n : Nat) : Nat := if n < 3 then 10000000 else 60000000

/-- The retry timer of a shorted or foreign port expires: a switch-on with probe (R162). -/
def shortRetry (p : Nat) (s : State) : State :=
  let h := s.hp p
  if s.halRuns && s.en 0x01 p && (h.line = .short || h.line = .foreign) && s.due (h.since + retryWait h.retries) then
    switchOn p (s.setHp p { h with retries := h.retries + 1 })
  else s

/-- Ports of a supply group (R146). -/
def groupPorts (g : Nat) : List Nat := (List.range 16).map (fun i => 16 * g + i)

/-- VHALg below 9.5 V: every enabled port of the group goes to LOW_SUPPLY (R162). -/
def lowSupply (g cV : Nat) (s : State) : State :=
  let s1 := { s with pwr := { s.pwr with vhal := Tbl.wr 0 s.pwr.vhal g cV } }
  if s.halRuns && cV < 950 then
    forAll (groupPorts g) (fun p st =>
      let h := st.hp p
      if st.en 0x01 p && h.line ≠ .lowSupply then putLine p { h with line := .lowSupply, under := h.line } st else st) s1
  else s1

/-- VHALg at or above 10.0 V for 1 s: the ports return to the state they were in, a switch-on whose
probe and blanking have passed meanwhile to OK (R162). -/
def lowSupplyEnd (g cV : Nat) (s : State) : State :=
  let s1 := { s with pwr := { s.pwr with vhal := Tbl.wr 0 s.pwr.vhal g cV } }
  if s.halRuns && 1000 ≤ cV then
    forAll (groupPorts g) (fun p st =>
      let h := st.hp p
      if h.line = .lowSupply then
        putLine p { h with line := if h.under = .powering then .ok else h.under, probing := false, under := .off } st
      else st) s1
  else s1

/-- The line voltage stays below MIN_LINE for 10 ms while the current is below LIMIT (R162). -/
def lowLine (p cV : Nat) (s : State) : State :=
  let h := { s.hp p with cV := cV }
  if s.halRuns && h.isOn && cV < s.df 0x01 p 8 2 && h.dmA < 10 * s.df 0x01 p 2 2 then putLine p { h with lowLine := true } s else s.setHp p h

/-- The line voltage stays above MIN_LINE for 1 s (R162). -/
def lowLineEnd (p cV : Nat) (s : State) : State :=
  let h := { s.hp p with cV := cV }
  if s.halRuns && s.df 0x01 p 8 2 < cV then putLine p { h with lowLine := false } s else s.setHp p h

/-! ## Readiness of ports (R164, R381, R383) -/

/-- Every enabled port not in SHORT, FOREIGN or LOW_SUPPLY is ready. -/
def State.halReady (s : State) : Bool :=
  (s.enabled 0x01).all (fun p =>
    let l := (s.hp p).line
    l == .short || l == .foreign || l == .lowSupply || bit s.start.ports p)

/-- Mark a port ready (R164). -/
def portReady (p : Nat) (s : State) : State :=
  { s with start := { s.start with ports := s.start.ports ||| 2 ^ p } }

/-! ## The schedule (R155, R156) -/

/-- End of slot `slot` of phase `phase`, µs after the cycle start (R24). -/
def slotEndUs (phase slot : Nat) : Nat := 512 + phase * 126496 + 20000 + (slot + 1) * 416

/-- Slot mark of phase k, µs after the cycle start (R155). -/
def markUs (phase : Nat) : Nat := 512 + phase * 126496 + 19992

/-- CONVERT (R152, R164): CYCLE is the 16-bit field sent, and DIAG follows it. -/
def convertFrame (s : State) (p cycle : Nat) : Frame :=
  let c := cycle % 65536
  let every := s.df 0x01 p 4 2
  let diag := every ≠ 0 && c % every = 0
  let b := [0x10#8, BitVec.ofNat 8 (b2n diag)] ++ le 2 c ++ zeros 2
  Frame.convert p ([0xB4#8] ++ b ++ [BitVec.ofNat 8 (crc8 b)])

/-- A port starts its part of a cycle: it takes part when its line is OK or OPEN and no run is on it (R155, R156, R159,
R162). -/
def startPort (p : Nat) (s : State) : State :=
  let h := s.hp p
  let tk := h.run.isNone && (h.line = .ok || h.line = .open_)
  let s1 := s.setHp p { h with taking := tk, badSlots := 0, heard := false, collideNow := false, slotPos := 0 }
  if tk then emit [convertFrame s p s.scan.portCycle] s1 else s1

/-- The current above the baseline, in 0.1 mA (R148). -/
def overBase (x : Sink) : Rat := (x.peak : Rat) - (x.before.sum : Rat) / ((max 1 x.before.length : Nat) : Rat)

/-- Presence class (R148): 0 none, 1 one point, 2 more than one. -/
def presence (x : Sink) : Nat := if overBase x < 45 then 0 else if overBase x ≤ 145 then 1 else 2

/-- Class of a reply (R156) and its six bytes: GOOD 0, CRC 1, CODE 2, COLLIDE 3, MISSING 4. An edge is a current 5 mA above
the baseline (R148). DESIGN CHOICE (log 54): COLLIDE goes before CRC and CODE. -/
def rxClass (cycle a : Nat) (rx : SlotRx) : Nat × Bytes :=
  if overBase rx.sink < 50 || rx.edge < -10 || 17 < rx.edge then (4, [])
  else if presence rx.sink = 2 then (3, [])
  else match rx.cells with
    | none => (2, [])
    | some bs =>
      if bs.length ≠ 6 then (2, [])
      else if crc8 (le 2 a ++ le 1 cycle ++ bs.take 5) = fld bs 5 1 then (0, bs) else (1, bs)

/-- Class of a slot (R156): PORT_DOWN 5 where the port takes no part or its line is not OK or OPEN. -/
def slotClass (s : State) (p a : Nat) (rx : SlotRx) : Nat × Bytes :=
  let h := s.hp p
  if !h.taking || !(h.line = .ok || h.line = .open_) then (5, []) else rxClass s.scan.portCycle a rx

/-- The intake record of a slot (R171). -/
def intakeOf (s : State) (p a cls : Nat) (bs : Bytes) : Intake :=
  { point := 1024 * p + a, cls := cls, temp := if cls = 0 then sfld bs 0 2 else -32768,
    rh := if cls = 0 then fld bs 2 2 else 0xFFFF, cycle := s.scan.portCycle, status := if cls = 0 then fld bs 4 1 else 0 }

/-- The FIFO takes the records the ports hold, ports in ascending order, as far as it has room (R190). -/
def drainRegs (s : State) : State :=
  if s.scan.regs.isEmpty then s else
    let all := s.scan.regs.flatMap (fun e => e.2.map (fun r => (e.1, r)))
    let n := 512 - s.scan.intake.length
    let rest := (all.drop n).foldl (fun t e => Tbl.wr [] t e.1 (Tbl.rd [] t e.1 ++ [e.2])) []
    { s with scan := { s.scan with intake := s.scan.intake ++ (all.take n).map (fun e => e.2), regs := rest } }

/-- A record goes to the intake FIFO after those the ports hold; while the FIFO is full, as it can be in a warm reset, the
port holds two records and then discards the oldest (R190). -/
def placeRecord (p : Nat) (r : Intake) (s0 : State) : State :=
  let s := drainRegs s0
  if s.scan.intake.length < 512 then
    { s with scan := { s.scan with intake := s.scan.intake ++ [r] } }
  else
    let q := Tbl.rd [] s.scan.regs p
    if q.length < 2 then { s with scan := { s.scan with regs := Tbl.wr [] s.scan.regs p (q ++ [r]) } }
    else
      let h := s.hp p
      let n := satInc 0xFFFFFFFF h.intakeLost
      ttOccur 1 0x0482 (dkey 0x01 p) (le 4 n)
        ({ s with scan := { s.scan with regs := Tbl.wr [] s.scan.regs p (q.drop 1 ++ [r]) } }.setHp p
          { h with intakeLost := n })

/-- A reply slot ends on a port (R156, R162, R171). -/
def slotEnd (p phase slot : Nat) (rx : SlotRx) (s : State) : State :=
  let a := phase * 256 + slot
  let h := s.hp p
  if !(s.halRuns && s.scan.active && s.en 0x01 p && p < 128 && phase < 4 && slot < 256 && h.slotPos ≤ a
      && s.due (s.scan.startUs + slotEndUs phase slot)) then s else
    let c := slotClass s p a rx
    let cls := c.1
    let real := cls ≠ 5 && cls ≠ 4
    let enabled := s.db 0x02 (1024 * p + a) 8 0 1 = 1
    let h1 : HalPort := { h with
      slotPos := a + 1, heard := h.heard || real, badSlots := h.badSlots + b2n (cls = 1 || cls = 2),
      collideNow := h.collideNow || cls = 3, stray := h.stray + b2n (real && !enabled),
      line := if h.line = .open_ && real then .ok else h.line }
    let s1 := putLine p h1 s
    if enabled then placeRecord p (intakeOf s p a cls c.2) s1 else s1

/-- The schedule of a cycle ends on a port: OPEN, NOISY, COLLIDE and readiness are judged, and the cycle is
over when it has ended on every port taking part (R155, R158, R162, R164). -/
def scheduleEnd (p dmA : Nat) (s : State) : State :=
  if !(s.halRuns && s.scan.active && s.due (s.scan.startUs + 506496)) then s else
    let h := s.hp p
    let s1 := if h.taking then
        let h1 : HalPort := { h with
          dmA := dmA, taking := false, slotPos := 1024, collide := h.collideNow,
          noisy := decide (s.df 0x01 p 10 2 < h.badSlots),
          line := if h.line = .ok && !h.heard && dmA = 0 then .open_ else h.line }
        let s2 := putLine p h1 s
        if s.scan.cycle ≠ 0 && (h1.line = .ok || h1.line = .open_) then portReady p s2 else s2
      else s
    if s1.hal.any (fun e => e.2.taking) then s1
    else { s1 with scan := { s1.scan with active := false } }

/-! ## Enumeration (R154, R157 to R161) -/

/-- Nibble j of an identity (R154). -/
def nibble (ident j : Nat) : Nat := bits ident (4 * j) 4

/-- A prefix of nibbles packed two to a byte, the even nibble low (R154). -/
def packPrefix : List Nat → Bytes
  | [] => []
  | [a] => [BitVec.ofNat 8 a]
  | a :: b :: t => BitVec.ofNat 8 (a + 16 * b) :: packPrefix t

/-- A SEARCH or IDENTIFY frame (R154). -/
def depthFrame (p type : Nat) (pfx : List Nat) : Frame :=
  let b := [BitVec.ofNat 8 type, BitVec.ofNat 8 pfx.length] ++ packPrefix pfx
  Frame.enum p ([0xB4#8] ++ b ++ [BitVec.ofNat 8 (crc8 b)])

/-- An ASSIGN frame (R154). -/
def assignFrame (p want ident : Nat) : Frame :=
  let b := [0x22#8] ++ le 2 want ++ le 2 (ident % 65536)
  Frame.enum p ([0xB4#8] ++ b ++ [BitVec.ofNat 8 (crc8 b)])

/-- All sixteen nibbles of an identity. -/
def nibbles (ident : Nat) : List Nat := (List.range 16).map (nibble ident)

/-- The enabled points of a port, by POINT_ID. -/
def State.portPts (s : State) (p : Nat) : List Nat :=
  (listedIdx s.rig.live 0x02).filter (fun i => i / 1024 == p && s.db 0x02 i 8 0 1 == 1)

/-- The rig's address word for an identity on a port: its address with VALID, or VALID clear (R159). DESIGN CHOICE (log 55):
the address bits of a word with VALID clear are 0, and a stored word with VALID clear and other address bits differs from
it. -/
def State.wantAddr (s : State) (p ident : Nat) : Nat × Bool :=
  match (s.portPts p).find? (fun i => s.df 0x02 i 0 8 == ident) with
  | some i => (i % 1024 + 32768, true)
  | none => (0, false)

/-- Count a SEARCH and send it. -/
def sendSearch (p : Nat) (pfx : List Nat) (r : EnumRun) (s : State) : State :=
  let h := s.hp p
  emit [depthFrame p 0x20 pfx]
    (s.setHp p { h with run := some { r with wait := .search pfx },
                        sum := { h.sum with searches := (h.sum.searches + 1) % 65536 } })

/-- Count a conflict (R158, R159). -/
def addConflict (p : Nat) (s : State) : State :=
  let h := s.hp p
  s.setHp p { h with sum := { h.sum with conflict := (h.sum.conflict + 1) % 65536 } }

/-- The identities of the rig that the search did not find, listed as missing (R158, R159). -/
def listMissing (p : Nat) (s : State) : State :=
  forAll (s.portPts p) (fun i st =>
    let h := st.hp p
    let id := st.df 0x02 i 0 8
    if h.recs.any (fun r => r.ident == id && r.result != 5) then st else
      let m : EnumRec := { ident := id, before := 0xFFFF, after := 0xFFFF, result := 5, verify := 0 }
      st.setHp p { h with sum := { h.sum with missing := h.sum.missing + 1 }, recs := (h.recs ++ [m]).take 2048 }) s

/-- Go on with the run: handle the windows of the last SEARCH, then pop the stack, until the run waits for an
exchange or is over (R159). `n` bounds the windows and pops handled at once. -/
def enumGo : Nat → Nat → State → State
  | 0, _, s => s
  | n + 1, p, s =>
    let h := s.hp p
    match h.run with
    | none => s
    | some r =>
      match r.windows with
      | (q, cls) :: t =>
        let r1 := { r with windows := t }
        if cls = 1 then
          emit [depthFrame p 0x21 q] (s.setHp p { h with run := some { r1 with wait := .identify q false } })
        else if cls = 2 then
          if q.length < 16 then enumGo n p (s.setHp p { h with run := some { r1 with stack := q :: r.stack } })
          else enumGo n p (addConflict p (s.setHp p { h with run := some r1 }))
        else enumGo n p (s.setHp p { h with run := some r1 })
      | [] =>
        match r.stack with
        | q :: t => sendSearch p q { r with stack := t } s
        | [] => listMissing p (s.setHp p { h with run := some { r with wait := .ended } })

/-- Windows handled at once: sixteen of a SEARCH and the pop after them. -/
def enumFuel : Nat := 20

/-- Record an identity read without error (R158, R159); in ASSIGN it is placed. -/
def enumRecord (p ident addr : Nat) (s : State) : State :=
  let h := s.hp p
  match h.run with
  | none => s
  | some r =>
    let w := s.wantAddr p ident
    let sum : EnumSum := { h.sum with found := h.sum.found + 1, unmapped := h.sum.unmapped + b2n (!w.2) }
    let isDup := h.recs.any (fun x => x.ident == ident)
    let rec0 : EnumRec := { ident := ident, before := addr, after := addr, result := if w.2 then 0 else 3, verify := 0 }
    let h1 : HalPort := { h with
      sum := if isDup then { sum with conflict := sum.conflict + 1 } else sum, recs := (h.recs ++ [rec0]).take 2048 }
    if r.assign && addr ≠ w.1 then
      emit [assignFrame p w.1 ident] (s.setHp p { h1 with run := some { r with wait := .assign ident w.1 false } })
    else enumGo enumFuel p (s.setHp p { h1 with run := some r })

/-- Set the newest record of an identity (R158). -/
def setRec (ident after result : Nat) : List EnumRec → List EnumRec
  | [] => []
  | x :: t => if x.ident = ident then { x with after := after, result := result } :: t else x :: setRec ident after result t

/-- An acknowledgement of ASSIGN: the point has its address, or is parked (R158, R159). -/
def assigned (p ident want : Nat) (s : State) : State :=
  let h := s.hp p
  let valid := 32768 ≤ want
  enumGo enumFuel p (s.setHp p { h with
    sum := { h.sum with assigned := h.sum.assigned + b2n valid, parked := h.sum.parked + b2n (!valid) },
    recs := setRec ident want (if valid then 1 else 2) h.recs })

/-- ASSIGN failed for good: ACK_FAILED (R158, R159). -/
def ackFailed (p ident : Nat) (s : State) : State :=
  let h := s.hp p
  let before := ((h.recs.find? (fun x => x.ident == ident)).map (·.before)).getD 0
  enumGo enumFuel p (addConflict p (s.setHp p { h with recs := setRec ident before 4 h.recs }))

/-- ID and stored ADDR of an IDENTIFY reply, when its CRC-8 over both passes (R154). -/
def identifyOf (reply : Option Bytes) : Option (Nat × Nat) :=
  match reply with
  | some bs => if bs.length = 11 && crc8 (bs.take 10) = fld bs 10 1 then some (fld bs 0 8, fld bs 8 2) else none
  | none => none

/-- An acknowledgement of ASSIGN is good: its CRC-8 over IDCHK then ADDR passes (R154). -/
def ackGood (ident : Nat) (ack : Option Bytes) : Bool :=
  match ack with
  | some bs => bs.length == 3 && crc8 (le 2 ident ++ bs.take 2) == fld bs 2 1
  | none => false

/-- One exchange of a run ends (R159). An exchange other than the one waited for changes nothing. -/
def enumExchange (p : Nat) (rx : EnumRx) (s : State) : State :=
  let h := s.hp p
  match h.run with
  | none => s
  | some r =>
    match r.wait, rx with
    | .search pfx, .search cl =>
      let ws := (List.range 16).map (fun i => (pfx ++ [i], ((cl[i]?).map presence).getD 0))
      enumGo enumFuel p (s.setHp p { h with run := some { r with windows := ws } })
    | .identify q again, .identify reply =>
      match identifyOf reply with
      | some x => enumRecord p x.1 x.2 s
      | none =>
        if !again then
          emit [depthFrame p 0x21 q] (s.setHp p { h with run := some { r with wait := .identify q true } })
        else if q.length < 16 then enumGo enumFuel p (s.setHp p { h with run := some { r with stack := q :: r.stack } })
        else enumGo enumFuel p (addConflict p s)
    | .assign ident want again, .assign ack =>
      if ackGood ident ack then assigned p ident want s
      else if !again then
        emit [depthFrame p 0x21 (nibbles ident)] (s.setHp p { h with run := some { r with wait := .reidentify ident want } })
      else ackFailed p ident s
    | .reidentify ident want, .identify _ =>
      emit [assignFrame p want ident] (s.setHp p { h with run := some { r with wait := .assign ident want true } })
    | _, _ => s

/-- ENUMERATE_RUN_START (R159): the run begins, and the first SEARCH goes out; a line that is off is switched on first, and
its SEARCH goes out 50 ms later. -/
def enumStart (p : Nat) (s : State) : State :=
  let h := s.hp p
  match h.run, h.asked with
  | some r, _ =>
    if s.up && r.wait = .power && s.due (r.startUs + 50000) then enumGo enumFuel p s else s
  | none, some asg =>
    if !s.up || h.taking || !s.en 0x01 p then s else
      let r : EnumRun := { assign := asg, startUs := s.aon.nowUs, stack := [[]], windows := [], wait := .power }
      let s1 := putLine p { h with asked := none, run := some r, sum := EnumSum.zero, recs := [] } s
      if h.isOn then enumGo enumFuel p s1 else switchOn p s1
  | none, none => s

/-- VERIFY of each record (R158, R159): GOOD when the point answered GOOD in its rig address. -/
def verifyRecs (s : State) (p : Nat) (good : List Nat) (l : List EnumRec) : List EnumRec :=
  l.map (fun r => if r.result = 5 then r else
    let w := s.wantAddr p r.ident
    { r with verify := if w.2 && good.contains (w.1 % 1024) then 1 else 2 })

/-- The addresses that answered GOOD in a verification cycle, whose CONVERT carried the last global CYCLE (R159). -/
def goodAddrs (s : State) (rx : List (Nat × SlotRx)) : List Nat :=
  (rx.filter (fun e => (rxClass s.scan.portCycle e.1 e.2).1 == 0)).map (fun e => e.1)

/-- The run ends (R159): ASSIGN has run its verification cycle, which received `rx` by address. Answers whether it
ended. -/
def enumEnd (p : Nat) (rx : List (Nat × SlotRx)) (s : State) : State × Bool :=
  let h := s.hp p
  match h.run with
  | none => (s, false)
  | some r =>
    if r.wait ≠ .ended then (s, false) else
      let s1 := if r.assign then
          emit [convertFrame s p s.scan.portCycle, .mark p 0, .mark p 1, .mark p 2, .mark p 3] s else s
      (putLine p { h with
        run := none, recs := if r.assign then verifyRecs s p (goodAddrs s rx) h.recs else h.recs,
        sum := { h.sum with durationMs := (s.aon.nowUs - r.startUs) / 1000 } } s1, true)

/-- The 32-byte summary (R158). -/
def enumSummary (s : State) (p : Nat) : Bytes :=
  let h := s.hp p
  le 2 h.sum.found ++ le 2 h.sum.assigned ++ le 2 h.sum.parked ++ le 2 h.sum.missing ++ le 2 h.sum.unmapped
    ++ le 2 h.sum.conflict ++ le 2 h.sum.searches ++ le 2 h.recs.length ++ le 4 h.sum.durationMs
    ++ [BitVec.ofNat 8 h.shown.code, BitVec.ofNat 8 h.flags] ++ le 2 h.dmA ++ le 2 h.cV ++ zeros 6

/-- A record's 16 bytes (R158). -/
def EnumRec.bytes (r : EnumRec) : Bytes :=
  le 8 r.ident ++ le 2 r.before ++ le 2 r.after ++ [BitVec.ofNat 8 r.result, BitVec.ofNat 8 r.verify] ++ zeros 2

/-- The reply of MODE 2: summary, list header and up to 500 records from FIRST (R158). -/
def enumReport (s : State) (p first : Nat) : Bytes :=
  let rs := ((s.hp p).recs.drop first).take 500
  enumSummary s p ++ le 2 rs.length ++ zeros 14 ++ rs.flatMap EnumRec.bytes

/-- A transaction names the port or any of its points or cables (R157). -/
def txnNamesPort (s : State) (p : Nat) : Bool :=
  match s.rig.txn with
  | none => false
  | some t => t.mode == 2 || t.staged.any (fun f =>
      let i := keyIdx f.key
      (keyType f.key == 0x01 && i == p) || (keyType f.key == 0x02 && i / 1024 == p)
        || (keyType f.key == 0x03 && i / 16 == p))

/-- PORT_ENUMERATE (R157): MODE 0 and 1 wait for their run, MODE 2 replies at once. The grounds of CONFLICT and FAULTED are
the command's, whatever its MODE. -/
def runEnumerate (c : Cmd) (s : State) : State × Res :=
  let p := keyIdx (fld c.payload 0 4)
  let mode := fld c.payload 4 1
  let h := s.hp p
  if !s.en 0x01 p || h.asked.isSome || h.run.isSome || txnNamesPort s p then (s, Res.conflict)
  else if h.line = .short || h.line = .foreign || h.line = .lowSupply then (s, Res.of 0x0600 [])
  else if mode = 2 then (s, Res.ok (enumReport s p (fld c.payload 6 2)))
  else (s.setHp p { h with asked := some (mode = 1) }, Res.later)

end Sys2Proof.Machine
end

