-- ==== Sys2Proof/Machine/RigOps.lean ====
section
/-! DEFINITION. Writing the live rig by single-purpose commands, fields held by a transaction, and the
power estimate (R120, R134, R136, R372, R375). -/
namespace Sys2Proof.Machine

/-- Whether bytes `[off, off + n)` of a descriptor are held by a transaction awaiting its boundary (R134). A
LOAD stages the whole rig. -/
def State.held (s : State) (key off n : Nat) : Bool :=
  match s.rig.txn with
  | none => false
  | some t => t.waiting && (t.mode == 2 || t.staged.any (fun f =>
      f.key == key && decide (f.off < off + n) && decide (off < f.off + f.bytes.length)))

/-- The delta log is full (R119, R136). -/
def State.deltaFull (s : State) : Bool := decide (4096 ≤ s.rig.delta.length)

/-- A field of a table of descriptors is written. -/
def putField (t : Tbl Bytes) (key off : Nat) (bs : Bytes) : Tbl Bytes :=
  descPut t key (patch (descOf t (keyType key) (keyIdx key)) off bs)

/-- The KIND that a command's fields give a curve slot: the last of them that covers its first byte. -/
def kindGiven (key : Nat) (l : List (Nat × Nat × Bytes)) : Nat :=
  match (l.filter (fun f => f.1 == key && f.2.1 == 0)).getLast? with | some f => fld f.2.2 0 1 | none => 0

/-- A field of a command is written, a curve slot being first given the KIND that the command's fields give it. -/
def putOpen (l : List (Nat × Nat × Bytes)) (t : Tbl Bytes) (key off : Nat) (bs : Bytes) : Tbl Bytes :=
  putField (if keyType key = 0x22 then descPut t key (slotOpen (kindGiven key l) (descOf t 0x22 (keyIdx key))) else t) key off bs

/-- Fields of one command, as key, offset and bytes, written in order. -/
def putFields (t : Tbl Bytes) (l : List (Nat × Nat × Bytes)) : Tbl Bytes := l.foldl (fun a f => putOpen l a f.1 f.2.1 f.2.2) t

/-- The fields of one command in the delta log, as key, offset and bytes. -/
def fieldsOf (jseq : Nat) (l : List Delta) : List (Nat × Nat × Bytes) :=
  (l.filter (fun x => x.jseq == jseq)).map (fun x => (x.key, x.off, x.bytes))

/-- Delta records applied in order, those of one command together. -/
def putDeltas (t : Tbl Bytes) (l : List Delta) : Tbl Bytes :=
  l.foldl (fun a r => putOpen (if keyType r.key = 0x22 then fieldsOf r.jseq l else []) a r.key r.off r.bytes) t

/-- A delta record takes its place in JSEQ order. -/
def insertDelta (r : Delta) : List Delta → List Delta
  | [] => [r]
  | x :: t => if x.jseq ≤ r.jseq then x :: insertDelta r t else r :: x :: t

/-- The delta records of a descriptor that are live and have a JSEQ above `jseq`: those of a commit that awaits its boundary
are not. -/
def State.laterDeltas (s : State) (key jseq : Nat) : List Delta :=
  let held := match s.rig.txn with
    | some t => if t.waiting then t.commit else 0
    | none => 0
  s.rig.delta.filter (fun r => r.key == key && decide (jseq < r.jseq) && r.jseq != held)

/-- The scan engine goes on with a point's, a cable's or a curve's descriptor as it stands for the cycle in progress (R29,
R138). -/
def keepForCycle (key : Nat) (s : State) : State :=
  if [0x02, 0x03, 0x22].contains (keyType key) && (Tbl.rd none s.scan.old key).isNone then
    { s with scan := { s.scan with old := Tbl.wr none s.scan.old key (some (descOf s.rig.live (keyType key) (keyIdx key))) } }
  else s

/-- A single-purpose change: the live descriptor and one delta record, both in JSEQ order (R120). A command that executes
after one of a higher JSEQ leaves the bytes that one wrote, and its record holds what stands. -/
def rigWrite (key off : Nat) (bytes : Bytes) (jseq item : Nat) (s : State) : State :=
  let live := putDeltas (putField s.rig.live key off bytes) (s.laterDeltas key jseq)
  let now := cut (descOf live (keyType key) (keyIdx key)) off bytes.length
  let r : Delta := { jseq := jseq, item := item, key := key, off := off, bytes := now }
  let s1 := keepForCycle key s
  { s1 with rig := { s1.rig with live := live, delta := insertDelta r s1.rig.delta } }

/-- Enabled descriptors of a table. -/
def enabledIn (t : Tbl Bytes) (dt : Nat) : List Nat :=
  (t.filter (fun e => keyType e.1 == dt && bit (fld e.2 0 1) 0)).map (fun e => keyIdx e.1)

/-- Power allowance of an enabled host port in mW (R372). -/
def portMw (p : Nat) : Nat :=
  if p < 2 then 50 else if p = 2 then 20 else if p < 5 then 15 else if p < 7 then 20 else 5

/-- EST_MW of a rig (R372), in mW. -/
def estMwOf (t : Tbl Bytes) : Rat :=
  let period := fld (descOf t 0x20 0) 0 4
  let loops := enabledIn t 0x05
  let half (b : Bool) : Nat := if loops.any (fun l => decide (l / 16 < 128) == b) then 40 else 0
  let rate : Rat := loops.foldl (fun a l => a + 4000 / ((max 1 (fld (descOf t 0x05 l) 4 4) : Nat) : Rat)) 0
  let convs := (enabledIn t 0x0F).map (fun c => bits (fld (descOf t 0x0F c) 1 1) 0 3)
    ++ (enabledIn t 0x10).map (fun c => bits (fld (descOf t 0x10 c) 1 1) 0 3)
  let nconv := ((List.range 8).filter (fun c => convs.contains c)).length
  let scan : Rat := if period = 0 then 0 else 1500 * ((enabledIn t 0x01).length : Rat) / (period : Rat)
  (560 + ((enabledIn t 0x21).map portMw).sum + half true + half false : Nat) + scan + rate / 800
    + 35 * (nconv : Rat) / 2 + 22 * ((enabledIn t 0x0D).length : Rat) / 5
    + 3 * ((enabledIn t 0x0A).length : Rat) / 5 + 4 * ((enabledIn t 0x0B).length : Rat) / 5
    + 2 * ((enabledIn t 0x0C).length : Rat) / 5

/-- EST_MW as reported: rounded to the nearest mW (R374). -/
def estMw (t : Tbl Bytes) : Nat := (ratRound (estMwOf t)).toNat

/-- The cap forbids a rig (R375). -/
def State.overCap (s : State) (t : Tbl Bytes) : Bool := s.pwr.capMw ≠ 0 && decide (((s.pwr.capMw : Nat) : Rat) < estMwOf t)

/-- Staged fields applied in order. -/
def putStaged (t : Tbl Bytes) (l : List Staged) : Tbl Bytes :=
  putFields t (l.map (fun f => (f.key, f.off, f.bytes)))

/-- The signers of the live rig, kept in the keys region. -/
def State.signers (s : State) : Tbl Bytes := s.rig.live.filter (fun e => keyType e.1 == 0x23)

/-- The rig that T_act brings. -/
def State.staged (s : State) (t : Txn) : Tbl Bytes :=
  if t.mode = 2 then putDeltas (t.image ++ s.signers) s.rig.delta
  else putDeltas (putStaged s.rig.live t.staged) (s.rig.delta.filter (fun r => decide (t.commit < r.jseq)))

end Sys2Proof.Machine
end

