-- ==== Sys2Proof/Machine/Scan.lean ====
section
/-! DEFINITION. Scan scheduling (R188, R189), the reads of points and fronts (R80, R187), point thresholds
(R178) and trend memory (R191 to R194). -/
namespace Sys2Proof.Machine

/-! ## Scheduling -/

/-- Earliest start of the next cycle, µs; `none` when stopped (R188, R189, R380 step 11). -/
def State.nextStart (s : State) : Option Nat :=
  let p := s.period
  if s.scan.cycle = 0 then (if p = 0 && !s.scan.extra then none else some s.scan.firstAt)
  else if s.scan.extra then some (s.scan.startUs + 512000)
  else if p = 0 then none
  else if s.scan.begun then some (max (s.scan.startUs + 512000) s.scan.changedAt)
  else some (max (s.scan.startUs + p * 1000) (max (s.scan.startUs + 512000) s.scan.changedAt))

/-- The scan period changes (R188): scanning that starts from stopped begins a cycle at the first tick edge after the change,
unless it is stopped again before. -/
def periodChanged (old : Nat) (s : State) : State :=
  if old = s.scanPeriod then s else
    { s with scan := { s.scan with
      changedAt := s.aon.nowUs, begun := s.scanPeriod ≠ 0 && (s.scan.begun || (old = 0 && s.scan.cycle ≠ 0)) } }

/-- NEXT_START of SCAN_SET (R189): OPTIME of the next cycle start, or 0 when stopped, and before step 11 of R380. -/
def State.nextStartMs (s : State) : Nat :=
  if s.scan.cycle = 0 && s.aon.nowUs < s.scan.firstAt then 0 else
    match s.nextStart with
    | none => 0
    | some t => max t s.aon.nowUs / 1000

/-- SCAN_SET ACTION 0 (R189, R134, R136, R375) and ACTION 1. -/
def runScanSet (c : Cmd) (s : State) : State × Res :=
  let period := fld c.payload 0 4
  let reply (st : State) : Res := Res.ok (le 4 st.scan.cycle ++ zeros 4 ++ le 6 st.nextStartMs ++ zeros 2)
  if fld c.payload 4 1 = 1 then
    let s1 := { s with scan := { s.scan with extra := true } }
    (s1, reply s1)
  else
    let key := dkey 0x20 0
    let live := descPut s.rig.live key (patch (s.d 0x20 0) 0 (le 4 period))
    let raises := decide (estMwOf s.rig.live < estMwOf live)
    if s.held key 0 4 || s.deltaFull || (raises && s.overCap live) then (s, Res.conflict)
    else
      let s1 := periodChanged s.scanPeriod (rigWrite key 0 (le 4 period) c.jseq 0 s)
      (s1, reply s1)

/-! ## Reads -/

/-- POINT_READ (R80). -/
def runPointRead (c : Cmd) (s : State) : State × Res :=
  let first := keyIdx (fld c.payload 0 4)
  (s, Res.ok ((List.range (fld c.payload 4 2)).flatMap (fun i => (s.point (first + i)).bytes)))

/-- FRONT_READ (R187). -/
def runFrontRead (c : Cmd) (s : State) : State × Res :=
  let first := keyIdx (fld c.payload 0 4)
  (s, Res.ok (le 4 s.scan.cycle ++ le 6 s.scan.startMs ++ zeros 6
    ++ (List.range (fld c.payload 4 2)).flatMap (fun i => (s.front (first + i)).bytes)))

/-- One item of POINT_THRESH_SET (R178): LEVEL and HYST as one delta record. -/
def threshItem (c : Cmd) (i : Nat) (s : State) : State × Nat :=
  let it := cut c.payload (4 + 8 * i) 8
  let key := fld it 0 4
  if !s.ptEn (keyIdx key) || s.held key 12 4 || s.deltaFull then (s, 0x0403)
  else (rigWrite key 12 (cut it 4 4) c.jseq i s, 0)

/-- Apply the items of a multi-item command in request order and collect their outcomes (R74). -/
def runItems (n : Nat) (f : Nat → State → State × Nat) (s : State) : State × List Nat :=
  (List.range n).foldl (fun acc i => let r := f i acc.1; (r.1, acc.2 ++ [r.2])) (s, [])

/-- POINT_THRESH_SET (R178). -/
def runThreshSet (c : Cmd) (s : State) : State × Res :=
  let r := runItems (fld c.payload 0 2) (threshItem c) s
  (r.1, Res.multi r.2 [])

/-! ## Trend memory -/

/-- A stream. -/
def State.stream (s : State) (n : Nat) : Stream := Tbl.rd Stream.dflt s.trend.streams n

/-- Write a stream. -/
def State.setStream (s : State) (n : Nat) (v : Stream) : State :=
  { s with trend := { s.trend with streams := Tbl.wr Stream.dflt s.trend.streams n v } }

/-- Bytes of a sample group (R191). -/
def Stream.groupLen (v : Stream) : Nat := 16 + 8 * v.count

/-- Whole groups a ring holds (R192). -/
def Stream.ringGroups (v : Stream) : Nat := v.units * 65536 / v.groupLen

/-- TREND units a session holds (R103). -/
def State.trendUsed (s : State) (sess : Nat) : Nat :=
  ((s.trend.streams.filter (fun e => e.2.sess == sess)).map (fun e => e.2.units)).sum

/-- The lowest `n` of the 160 units of trend memory that no stream holds (R105, log 64). -/
def State.freeUnits (s : State) (n : Nat) : List Nat :=
  let used := s.trend.streams.flatMap (fun e => e.2.unitsAt)
  ((List.range 160).filter (fun u => !used.contains u)).take n

/-- The group lies on byte `o` of its Hold ring: groups follow one another in a ring of bytes (R191). -/
def Stream.covers (v : Stream) (o : Nat) (g : TGroup) : Bool :=
  let r := max 1 (v.units * 65536)
  decide ((o + r - (g.seq - 1) * v.groupLen % r) % r < v.groupLen)

/-- A double-bit error at byte `o` of trend memory marks the group that holds it (R21). -/
def trendDamage (o : Nat) (s : State) : State :=
  { s with trend := { s.trend with streams := Tbl.mapv Stream.dflt (fun v =>
      match v.unitsAt.findIdx? (fun u => u == o / 65536) with
      | none => v
      | some j => { v with hold := v.hold.map (fun g =>
          if v.covers (j * 65536 + o % 65536) g then { g with damaged := true } else g) }) s.trend.streams } }

/-- TREND_READ OPEN (R192, R105). -/
def runTrendOpen (c : Cmd) (s : State) : State × Res :=
  let units := fld c.payload 12 2
  let free := (List.range 16).find? (fun i => (s.stream (c.slot * 16 + i)).sess == 0)
  if (s.ses c.slot).quota.trend < s.trendUsed c.sess + units then (s, Res.of 0x0302 [])
  else match free with
    | none => (s, Res.conflict)
    | some i =>
      let v : Stream := { Stream.dflt with
        sess := c.sess, fronts := decide (fld c.payload 1 1 = 1), first := keyIdx (fld c.payload 4 4),
        count := fld c.payload 8 2, every := fld c.payload 10 2, units := units,
        spill := decide (fld c.payload 3 1 = 1), openCycle := s.scan.cycle, unitsAt := s.freeUnits units }
      (s.setStream (c.slot * 16 + i) v,
        Res.ok ([BitVec.ofNat 8 (c.slot * 16 + i)] ++ zeros 3 ++ le 4 v.ringGroups
          ++ le 4 (if v.spill then v.ringGroups else 0) ++ zeros 4))

/-- The groups of a stream in either ring, oldest first (R192). -/
def Stream.groups (v : Stream) : List TGroup :=
  v.spilled.filter (fun g => !v.hold.any (fun h => h.seq == g.seq)) ++ v.hold

/-- OLDEST: the oldest SEQ held in either ring; the next SEQ when none is. -/
def Stream.oldest (v : Stream) : Nat := (v.groups.head?.map (·.seq)).getD v.seq

/-- Byte `i` of a record in the Hold carries the mark of a damaged record (R21): the spec does not say where a read shows it
(log 64). -/
def markDamaged (i mark : Nat) (b : Bytes) : Bytes := b.set i (BitVec.ofNat 8 mark)

/-- A group's bytes (R191). A damaged one carries its mark in bit 1 beside GAP, and a word in error (R21, log 64). -/
def TGroup.bytes (g : TGroup) : Bytes :=
  let b := le 4 g.seq ++ le 4 g.cycle ++ le 6 g.optime ++ [BitVec.ofNat 8 (b2n g.gap), 0#8] ++ g.samples
  if g.damaged then markDamaged 14 (b2n g.gap + 2) (damageWord 2 g.seq b) else b

/-- TREND_READ READ (R192). A stream that is not open fails with CONFLICT. -/
def runTrendRead (c : Cmd) (s : State) : State × Res :=
  let v := s.stream (fld c.payload 2 1)
  if v.sess = 0 then (s, Res.conflict) else
    let frm := max (fld c.payload 16 4) v.oldest
    let gs := (v.groups.filter (fun g => decide (frm ≤ g.seq))).take (8160 / v.groupLen)
    let next := (gs.getLast?.map (fun g => g.seq + 1)).getD frm
    (s, Res.ok (le 4 next ++ le 4 v.oldest ++ le 2 gs.length ++ zeros 6 ++ gs.flatMap TGroup.bytes))

/-- TREND_READ CLOSE (R192). -/
def runTrendClose (c : Cmd) (s : State) : State × Res :=
  let n := fld c.payload 2 1
  if (s.stream n).sess = c.sess then (s.setStream n Stream.dflt, Res.ok []) else (s, Res.conflict)

/-- TREND_READ STATUS (R192). -/
def runTrendStatus (c : Cmd) (s : State) : State × Res :=
  let v := s.stream (fld c.payload 2 1)
  if v.sess = 0 then (s, Res.conflict)
  else (s, Res.ok (le 4 (v.seq - 1) ++ le 4 v.oldest ++ le 4 v.lost ++ zeros 4))

/-- A front log record's 16 bytes (R194). -/
def FLog.bytes (r : FLog) : Bytes :=
  le 6 r.optime ++ [BitVec.ofNat 8 r.state, 0#8] ++ le 2 r.position ++ leInt 2 r.speed ++ leInt 2 r.qMean
    ++ leInt 2 r.qMax

/-- TREND_READ FRONT_LOG (R194). -/
def runFrontLog (c : Cmd) (s : State) : State × Res :=
  let l := Tbl.rd [] s.trend.logs (keyIdx (fld c.payload 4 4))
  (s, Res.ok (le 2 l.length ++ zeros 14 ++ l.flatMap FLog.bytes))

/-- The samples of a stream as they stand (R191). -/
def Stream.samples (v : Stream) (s : State) : Bytes :=
  (List.range v.count).flatMap (fun i =>
    if v.fronts then
      let e := s.front (v.first + i)
      le 2 e.position ++ leInt 2 e.speed ++ leInt 2 e.qMean ++ [BitVec.ofNat 8 (e.state + 4 * b2n e.speedValid), 0#8]
    else (s.point (v.first + i)).bytes.take 8)

/-- Bytes of the ring written so far. -/
def Stream.written (v : Stream) : Nat := (v.seq - 1) * v.groupLen

/-- A full Hold ring loses its oldest group, counted unless it has been spilled; the next one then carries
GAP (R193). -/
def Stream.dropOldest (v : Stream) : Stream :=
  match v.hold with
  | [] => v
  | g :: t =>
    if v.spill && decide (g.seq * v.groupLen ≤ v.spilledTo) then { v with hold := t }
    else
      let t1 := match t with
        | [] => []
        | h :: u => { h with gap := true } :: u
      { v with hold := t1, lost := satInc 0xFFFFFFFF v.lost }

/-- One group of a stream, or its loss (R193). -/
def Stream.snap (v : Stream) (cycle optime : Nat) (late : Bool) (s : State) : Stream :=
  if late || v.ringGroups = 0 then { v with lost := satInc 0xFFFFFFFF v.lost, gap := true } else
    let v1 := if v.ringGroups ≤ v.hold.length then v.dropOldest else v
    let g : TGroup := { seq := v1.seq, cycle := cycle, optime := optime, gap := v1.gap, samples := v1.samples s,
                         damaged := false }
    { v1 with hold := v1.hold ++ [g], seq := v1.seq + 1, gap := false }

/-- The stream takes a group from this cycle (R192). -/
def Stream.takes (v : Stream) (cycle : Nat) : Bool :=
  v.sess ≠ 0 && decide (v.openCycle < cycle) && (cycle - v.openCycle - 1) % max 1 v.every = 0

/-- The TRC engine takes the groups of a cycle (R193): in its window, or too late. -/
def trendSnapshot (late : Bool) (s : State) : State :=
  match s.scan.snap with
  | none => s
  | some (cyc, ms) =>
    if !s.up then s else
      let closed := decide (s.scan.cycle ≠ cyc) && decide (s.scan.startUs + 20000 ≤ s.aon.nowUs)
      let ss := s.trend.streams.map (fun e =>
        if e.2.takes cyc then (e.1, e.2.snap cyc ms (late || closed) s) else e)
      { s with trend := { s.trend with streams := ss }, scan := { s.scan with snap := none } }

/-- A 4 KiB block of a stream's Hold ring moves to its spill ring (R191). -/
def trendSpill (n : Nat) (s : State) : State :=
  let v := s.stream n
  if !s.up || v.sess = 0 || !v.spill || v.written < v.spilledTo + 4096 then s else
    let dest := v.spilledTo + 4096
    let moved := v.hold.filter (fun g => decide (v.spilledTo < g.seq * v.groupLen) && decide (g.seq * v.groupLen ≤ dest))
    let sp := v.spilled ++ moved
    s.setStream n { v with spilledTo := dest, spilled := sp.drop (sp.length - v.ringGroups) }

end Sys2Proof.Machine
end

