-- ==== Sys2Proof/Machine/FieldOps.lean ====
section
/-! DEFINITION. The host opcodes of the field side (R81, R97, R291, R292, R303, R323, R341): writes, FAULT_CLEAR and
reads. -/
namespace Sys2Proof.Machine

/-- Readiness and ownership of an operating item (R97 steps 1 and 2); 0 when both pass. -/
def itemGate (c : Cmd) (key : Nat) (ready : Bool) (s : State) : Nat :=
  if !ready then 0x0100 else if !s.mayOperate key c.sess then 0x0201 else 0

/-- The die of an output is configured (R382). -/
def State.fieldReady (s : State) (k : Nat) : Bool := s.rdy (dieBit (dieOf k))

/-- One item of FAN_SET, LOAD_WRITE, DIO_WRITE or AO_WRITE (R25, R81, R97, R234). -/
def writeItem (c : Cmd) (i : Nat) (s : State) : State × Nat :=
  let it := cut c.payload (4 + 8 * i) 8
  let k := fld it 0 4
  let v := if keyType k = 0x0A || keyType k = 0x0D then fld it 4 2 else fld it 4 1
  let g := itemGate c k (s.fieldReady k) s
  if g ≠ 0 then (s, g)
  else if !s.outOn k || s.srcKind k ≠ 0 then (s, 0x0403)
  else if s.lockForces k then (s, 0x0600)
  else
    let s1 := { s with io := { s.io with host := Tbl.wr 0 s.io.host k v } }
    (commitItem k c.jseq c.sess c.role s1, 0)

/-- FAN_SET, LOAD_WRITE, DIO_WRITE, AO_WRITE. -/
def runWrite (c : Cmd) (s : State) : State × Res :=
  let r := runItems (fld c.payload 0 2) (writeItem c) s
  (r.1, Res.multi r.2 [])

/-- Clearing a channel's fault: whether it is refused with FAULTED, and the state after (R290, R298, R319, R336). -/
def clearFault (k : Nat) (s : State) : Bool × State :=
  match keyType k with
  | 0x0A => (false, fanClear (keyIdx k) s)
  | 0x0B => loadClear (keyIdx k) s
  | 0x0C => dioClear (keyIdx k) s
  | _ => (false, aoClear (keyIdx k) s)

/-- One item of FAULT_CLEAR (R81, R97, R234). -/
def clearItem (c : Cmd) (i : Nat) (s : State) : State × Nat :=
  let k := fld c.payload (4 + 4 * i) 4
  let g := itemGate c k (s.fieldReady k) s
  if g ≠ 0 then (s, g)
  else if s.lockForces k then (s, 0x0600)
  else
    let r := clearFault k s
    if r.1 then (s, 0x0600) else (commitItem k c.jseq c.sess c.role r.2, 0)

/-- FAULT_CLEAR. -/
def runFaultClear (c : Cmd) (s : State) : State × Res :=
  let r := runItems (fld c.payload 0 2) (clearItem c) s
  (r.1, Res.multi r.2 [])

/-- COUNT records from FIRST (R20: each taken whole). -/
def readRecords (c : Cmd) (f : Nat → Bytes) : Res :=
  let first := fld c.payload 0 4
  Res.ok ((List.range (fld c.payload 4 2)).flatMap (fun i => f (first + i)))

/-- FAN_READ (R341). -/
def runFanRead (c : Cmd) (s : State) : State × Res := (s, readRecords c (fun k => fanRecord s (keyIdx k)))
/-- LOAD_READ (R323). -/
def runLoadRead (c : Cmd) (s : State) : State × Res := (s, readRecords c (fun k => loadRecord s (keyIdx k)))
/-- DIO_READ (R303). -/
def runDioRead (c : Cmd) (s : State) : State × Res := (s, readRecords c (fun k => dioRecord s (keyIdx k)))
/-- AFE_READ (R291). -/
def runAfeRead (c : Cmd) (s : State) : State × Res :=
  (s, readRecords c (fun k => if keyType k = 0x0D then aoRecord s (keyIdx k) else afeRecord s k))
/-- THRESH_READ (R292). -/
def runThreshRead (c : Cmd) (s : State) : State × Res := (s, readRecords c (fun k => swRecord s (keyIdx k)))

end Sys2Proof.Machine
end

