-- ==== Sys2Proof/Machine/Loops.lean ====
section
/-! DEFINITION. The Sheave array (chapter 08): one sample of a loop, the competition ring, overruns, injection and
capture, and the loop opcodes. -/
namespace Sys2Proof.Machine

/-! ## Arithmetic (R12, R13, R200): a value and whether it saturated -/

/-- Held within a range. -/
def satIn (lo hi v : Int) : Int × Bool := if v < lo then (lo, true) else if hi < v then (hi, true) else (v, false)
/-- Q15. -/
def satQ (v : Int) : Int × Bool := satIn (-32768) 32767 v
/-- A40. -/
def satA (v : Int) : Int × Bool := satIn (-549755813888) 549755813887 v
/-- A40 to Q15: add 2¹⁴, shift right by 15, saturate. -/
def toQ (v : Int) : Int × Bool := satQ ((v + 16384) / 32768)
/-- A sum of A40 terms, saturating at each step. -/
def sumA : List Int → Int × Bool → Int × Bool
  | [], a => a
  | t :: ts, a => let r := satA (a.1 + t); sumA ts (r.1, a.2 || r.2)

/-! ## Flags (R200) -/

/-- SAT_PV. -/
def fSatPv : Nat := 1
/-- SAT_ARITH. -/
def fSatArith : Nat := 2
/-- SAT_NOTCH. -/
def fSatNotch : Nat := 4
/-- SAT_ACC. -/
def fSatAcc : Nat := 8
/-- BAD_INPUT. -/
def fBadInput : Nat := 16
/-- OVERRUN. -/
def fOverrun : Nat := 32
/-- FALLBACK. -/
def fFallback : Nat := 64
/-- PLAUS. -/
def fPlaus : Nat := 128
/-- INJECT_ABORT. -/
def fAbort : Nat := 256
/-- ECC. -/
def fEcc : Nat := 512
/-- RING. -/
def fRing : Nat := 1024

/-- A flag where a condition holds. -/
def flagIf (b : Bool) (f : Nat) : Nat := if b then f else 0

/-- The loop's descriptor. -/
def State.lpd (s : State) (l : Nat) : Bytes := s.d 0x05 l

/-! ## Inputs (R198, R199) -/

/-- An input after reading: its q (none when dropped), whether it was bad, the new last good q, and flags. -/
structure InQ where
  q : Option Int
  bad : Bool
  last : Option Int
  flags : Nat
deriving DecidableEq, Repr

/-- Input entry `n` of a loop. -/
def readIn (s : State) (d : Bytes) (n : Nat) (last : Option Int) : InQ :=
  let off := 24 + 8 * n
  if !inPresent d off then { q := none, bad := false, last := last, flags := 0 } else
    match inValue s d off with
    | none =>
      let q := match bits (fld d (off + 5) 1) 0 2 with
        | 0 => last
        | 1 => some 32767
        | 2 => some (-32768)
        | _ => none
      { q := q, bad := true, last := last, flags := fBadInput }
    | some x =>
      let lim := if bit (fld d 168 1) 0 && n = 1 then (sfld d 188 4, fld d 192 4)
        else if bit (fld d 168 1) 0 && n = 2 then (sfld d 196 4, fld d 200 4)
        else (sfld d 16 4, fld d 20 4)
      let r := if q15Src (inSrc d off) then (x, false) else satQ (divRound ((x - lim.1) * 32768) lim.2)
      { q := some r.1, bad := false, last := some r.1, flags := flagIf r.2 fSatPv }

/-- PV from the inputs (R199): none when bad. -/
def combine (d : Bytes) (qs : List (Option Int)) : Option Int × Bool :=
  let m := if bit (fld d 168 1) 0 then 0 else bits (fld d 1 1) 0 3
  let vals := qs.filterMap id
  match m with
  | 0 => (qs.headD none, false)
  | 4 => match qs with
    | some a :: some b :: _ => let r := satQ (a - b); (some r.1, r.2)
    | _ => (none, false)
  | m =>
    match vals with
    | [] => (none, false)
    | v :: vs =>
      if m = 1 then (some (vs.foldl min v), false)
      else if m = 2 then (some (vs.foldl max v), false)
      else (some (divRound vals.sum vals.length), false)

/-! ## Notches (R209) -/

/-- A biquad on input `x` with coefficients at `off`: the output, the state and whether a product, the sum or the output
saturated. Without a state it is steady at `x`. -/
def biquad (d : Bytes) (off : Nat) (st : Option Notch) (x : Int) : Int × Notch × Bool :=
  let n := st.getD { x1 := x, x2 := x, y1 := x * 32768, y2 := x * 32768 }
  let c (j : Nat) : Int := sfld d (off + 2 * j) 2
  let p1 := satA (c 3 * n.y1 / 16384)
  let p2 := satA (c 4 * n.y2 / 16384)
  let a := sumA [c 0 * x * 2, c 1 * n.x1 * 2, c 2 * n.x2 * 2, -p1.1, -p2.1] (0, p1.2 || p2.2)
  let y := toQ a.1
  (y.1, { x1 := x, x2 := n.x1, y1 := a.1, y2 := n.y1 }, a.2 || y.2)

/-- Notch 0 or 1 on the signal (`out`: on the output) is enabled. -/
def notchOn (d : Bytes) (j : Nat) (out : Bool) : Bool := bits (fld d 140 1) (2 * j) 2 == (if out then 3 else 1)

/-- N0 then N1 on a signal; `lim` holds each result on the output. -/
def notches (d : Bytes) (out : Bool) (lim : Int → Int) (n0 n1 : Option Notch) (x : Int) :
    Int × Option Notch × Option Notch × Bool :=
  let r0 := if notchOn d 0 out then let r := biquad d 144 n0 x; (lim r.1, some r.2.1, r.2.2) else (x, n0, false)
  let r1 := if notchOn d 1 out then let r := biquad d 156 n1 r0.1; (lim r.1, some r.2.1, r.2.2) else (r0.1, n1, false)
  (r1.1, r0.2.1, r1.2.1, r0.2.2 || r1.2.2)

/-! ## Plausibility model (R210) -/

/-- The model input z, from u1 and u2. -/
def modelZ (d : Bytes) (u1 u2 : Int) : Int × Bool :=
  sumA [sfld d 172 2 * u1 * 2, sfld d 174 2 * u2 * 2, sfld d 176 2 * 32768] (0, false)

/-- One step of the model and whether any of its operations saturated; without a line it is refilled with z, and the output
set to z. -/
def modelStep (d : Bytes) (m : Option Model) (z : Int) : Model × Bool :=
  let fill := toQ z
  let m0 := m.getD { line := List.replicate 128 fill.1, sum := 0, n := 0, y := z }
  let div := max 1 (fld d 180 2)
  let s := satA (m0.sum + z)
  let push := decide (div ≤ m0.n + 1)
  let mean := satQ (divRound s.1 (div * 32768))
  let m1 : Model := if push then { m0 with line := (mean.1 :: m0.line).take 128, sum := 0, n := 0 }
    else { m0 with sum := s.1, n := m0.n + 1 }
  let zd := (m1.line[fld d 170 1]?).getD 0
  let diff := satA (zd * 32768 - m1.y)
  let y := if m.isNone then (z, fill.2) else
    let r := satA (m1.y + sfld d 178 2 * diff.1 / 32768)
    (r.1, diff.2 || r.2)
  ({ m1 with y := y.1 }, s.2 || (push && mean.2) || y.2)

/-- The residual test's state and count (R210). -/
def residTest (d : Bytes) (r : Int) (fail : Bool) (cnt : Nat) : Bool × Nat :=
  let lim : Int := fld d 182 2
  let mag : Int := r.natAbs
  let meets := if fail then decide (mag < lim - fld d 184 2) else decide (lim < mag)
  if meets then (if fld d 169 1 ≤ cnt + 1 then (!fail, 0) else (fail, cnt + 1)) else (fail, 0)

/-! ## Profile (R208) -/

/-- The profile's p, v and a after a step towards `t`, a Q15 target. -/
def profile (d : Bytes) (t p v a : Int) : Int × Int × Int :=
  let vmax : Int := fld d 128 4
  let amax : Int := fld d 132 4
  let jmax : Int := fld d 136 4
  let t30 := t * 32768
  if vmax = 0 then (t30, 0, 0) else
    let r := t30 - p
    if r = 0 && v = 0 && a = 0 then (p, v, a) else
      let q : Int := min vmax (Nat.sqrt ((2 * amax).toNat * r.natAbs) : Nat)
      let vdes := if 0 < r then q else if r < 0 then -q else 0
      let a1 := a + clampI (-jmax) jmax (clampI (-amax) amax (vdes - v) - a)
      let v1 := clampI (-vmax) vmax (v + a1)
      if r = 0 || (decide (0 < v1 * r) && decide (r.natAbs ≤ v1.natAbs)) then (t30, 0, 0) else (p + v1, v1, a1)

/-! ## Laws (R203 to R205, R207) -/

/-- LAW of a loop. -/
def lawOf (d : Bytes) : Nat := bits (fld d 0 1) 1 2
/-- OUT_LO. -/
def outLo (d : Bytes) : Int := sfld d 62 2
/-- OUT_HI. -/
def outHi (d : Bytes) : Int := sfld d 64 2
/-- Level of stage `j` (R205). -/
def stageOut (d : Bytes) (j : Nat) : Int := sfld d (104 + 2 * j) 2
/-- h, the half band. -/
def halfBand (d : Bytes) : Int := fld d 58 2 / 2

/-- The law state set from an output (R207). -/
def lawFrom (d : Bytes) (y : Int) : Nat :=
  match lawOf d with
  | 1 => if outLo d + outHi d ≤ 2 * y then 1 else 0
  | 3 => (List.range (fld d 13 1)).foldl (fun b j => if stageOut d j ≤ y then j + 1 else b) 0
  | _ => 0

/-- What a law gives: accumulator, state, rest and whether SAT_ACC is met. -/
structure LawOut where
  acc : Int
  st : Nat
  rest : Option Int
  sat : Bool
deriving DecidableEq, Repr

/-- The law on e (R203 to R205); `since` samples in the present state. -/
def law (d : Bytes) (lp : Loop) (since : Nat) (e acc : Int) : LawOut :=
  let h := halfBand d
  let lo := outLo d * 32768
  let hi := outHi d * 32768
  let hys : Int := fld d 60 2
  match lawOf d with
  | 1 =>
    let on := if lp.lstate = 0 then decide (h < e) && decide (fld d 82 2 ≤ since)
      else !(decide (e < -h) && decide (fld d 80 2 ≤ since))
    { acc := if on then hi else lo, st := b2n on, rest := none, sat := false }
  | 2 =>
    let st := match lp.lstate with
      | 0 => if h < e then 1 else if e < -h then 2 else 0
      | 1 => if e < -h then 2 else if e < h - hys then 0 else 1
      | _ => if h < e then 1 else if -h + hys < e then 0 else 2
    let x := acc + (if st = 1 then (fld d 72 4 : Int) else if st = 2 then -(fld d 76 4 : Int) else 0)
    let y := clampI lo hi x
    let rest := if y ≠ x then some y else if lp.rest = some y then some y else none
    { acc := y, st := st, rest := rest, sat := rest.isSome }
  | _ =>
    let s := lp.lstate
    let dw := decide (fld d 84 2 ≤ since)
    let s1 := if s < fld d 13 1 && decide (sfld d (88 + 2 * s) 2 ≤ e) && dw then s + 1
      else if 0 < s && decide (e < sfld d (88 + 2 * (s - 1)) 2 - hys) && dw then s - 1 else s
    { acc := if s1 = 0 then lo else stageOut d (s1 - 1) * 32768, st := s1, rest := none, sat := false }

/-! ## Injection (R221) -/

/-- The PRBS-15 register one bit on (x¹⁵ + x¹⁴ + 1). -/
def prbsNext (r : Nat) : Nat := (r * 2) % 32768 + (if bit r 14 != bit r 13 then 1 else 0)

/-- inj at the present sample. -/
def injValue (x : Inj) : Int :=
  if x.signal = 0 || x.n < x.pre || x.pre + x.length ≤ x.n then 0 else
    let n := x.n - x.pre
    match x.signal with
    | 1 => x.ampl
    | 2 => if n / max 1 x.shape % 2 = 0 then x.ampl else -x.ampl
    | 3 => if bit x.prbs 14 then x.ampl else -x.ampl
    | _ => sineSample x.ampl.toNat n x.shape

/-- The injection after a sample: none when it has ended. -/
def injNext (x : Inj) : Option Inj :=
  let n := x.n - x.pre
  let step := x.signal = 3 && x.pre ≤ x.n && (n + 1) % max 1 x.shape = 0
  let y := { x with n := x.n + 1, prbs := if step then prbsNext x.prbs else x.prbs }
  if x.pre + x.length ≤ y.n then none else some y

/-! ## Set-up (R216) -/

/-- The output value the accumulator starts from. -/
def startOut (s : State) (l : Nat) (d : Bytes) : Int :=
  let g := s.groupOf l
  let ref := match g with
    | some g => s.df 0x05 (s.head g) 120 4
    | none => fld d 120 4
  let kind := if g.isSome then 1 else bits (fld d 2 1) 0 2
  let held (k : Nat) : Nat := (s.out k).row5
  if kind = 0 || kind = 2 || ref = 0 then sfld d 66 2
  else
    let y : Int := if kind = 3 then
        let n := ((List.range (fld d 13 1)).takeWhile (fun j => held (ref + j) ≠ 0)).length
        if n = 0 then outLo d else stageOut d (n - 1)
      else match keyType ref with
        | 0x0A => divRound ((held ref * 32767 : Nat)) 2047
        | 0x0D => divRound ((held ref * 32767 : Nat)) 65535
        | _ => if held ref ≠ 0 then outHi d else outLo d
    clampI (outLo d) (outHi d) y

/-- The loop set up for its first sample. -/
def setUp (s : State) (l : Nat) (d : Bytes) (lp : Loop) : Loop :=
  let it := s.loopInt l
  let t := it.target.getD (sfld d 56 2)
  let sp := clampI (sfld d 68 2) (sfld d 70 2) t
  let y := startOut s l d
  { lp with fresh := false, mode := it.mode, manOut := it.manOut, target := t, pendSp := false,
            p := sp * 32768, v := 0, a := 0, spT := sp, acc := y * 32768, out := y, holdOut := y, lstate := lawFrom d y,
            since := 65535 }

/-! ## One sample (R201) -/

/-- What a sample leaves beside the loop's state. -/
structure SampleOut where
  loop : Loop
  /-- Flags met by this sample. -/
  flags : Nat
  inj : Int
  /-- Fallback was entered (1) or left (2). -/
  event : Nat
deriving DecidableEq, Repr

/-- The pending intent is taken (R195, R207, R208): an OK LOOP_MODE item ends fallback (R215). -/
def takePending (s : State) (l : Nat) (lp : Loop) : Loop :=
  let it := s.loopInt l
  let l1 := if lp.pendSp then { lp with target := it.target.getD lp.target, pendSp := false } else lp
  if l1.pendMode then
    { l1 with mode := it.mode, manOut := it.manOut, pendMode := false, holdOut := if it.mode = 2 then l1.out else l1.holdOut,
              fbOver := false, fbEcc := false, fbGood := 0 }
  else l1

/-- A loop's sample at a tick, reading the state at the tick edge (R196, R201). With a bad PV the notches on the output
advance with the output in force (R199). While a failing test holds the output (P_ACT 2), the law runs on. -/
def sample (s : State) (l tick : Nat) : SampleOut :=
  let d := s.lpd l
  let lp0 := s.loop l
  let lp := takePending s l (if lp0.fresh then setUp s l d lp0 else lp0)
  let since := satInc 65535 lp.since
  let pEn := bit (fld d 168 1) 0
  let pAct := bits (fld d 168 1) 1 2
  let ins := (List.range 4).map (fun n => readIn s d n (lp.lastQ.getD n none))
  let inFlags := ins.foldl (fun a i => a ||| i.flags) 0
  let c := combine d (ins.map (fun i => i.q))
  let inj := match lp.inj with | some x => injValue x | none => 0
  let injAt (k : Nat) : Int := match lp.inj with | some x => if x.at_ = k then inj else 0 | none => 0
  -- notches on PV
  let pvN : Option Int × Option Notch × Option Notch × Bool := match c.1 with
    | some v => let r := notches d false id lp.notch0 lp.notch1 v; (some r.1, r.2.1, r.2.2.1, r.2.2.2)
    | none => (none, if notchOn d 0 false then none else lp.notch0, if notchOn d 1 false then none else lp.notch1, false)
  -- plausibility model
  let badU := (ins.getD 1 { q := none, bad := false, last := none, flags := 0 }).bad
    || (ins.getD 2 { q := none, bad := false, last := none, flags := 0 }).bad
  let u (n : Nat) : Int := ((ins.map (fun i => i.q)).getD n none).getD 0
  let z := modelZ d (u 1) (u 2)
  let mdl : Option Model × Bool :=
    if !pEn then (none, false) else if badU then (lp.model, false)
    else let r := modelStep d lp.model z.1; (some r.1, r.2 || z.2)
  let yQ : Int × Bool := match mdl.1 with | some m => toQ m.y | none => (0, false)
  let yHat := yQ.1
  let res : Option (Int × Bool) := match pvN.1, mdl.1 with
    | some v, some _ => if pEn then some (satQ (v - yHat)) else none
    | _, _ => none
  let test : Bool × Nat := match res with
    | some r => residTest d r.1 lp.fail lp.tcnt
    | none => (pEn && lp.fail, 0)
  let failing := pEn && test.1
  let pvLaw0 : Option Int := if failing && pAct = 1 && mdl.1.isSome then some yHat else pvN.1
  let pvI : Option (Int × Bool) := pvLaw0.map (fun v => satQ (v + injAt 1))
  -- setpoint
  let spT := clampI (sfld d 68 2) (sfld d 70 2) lp.target
  let pr := profile d spT lp.p lp.v lp.a
  let sp := satQ ((toQ pr.1).1 + injAt 0)
  let e : Option (Int × Bool) := pvI.map (fun v => satQ (if bit (fld d 0 1) 3 then sp.1 - v.1 else v.1 - sp.1))
  -- tracking
  let acc0 : Int := match s.groupOf l with
    | some g => if s.db 0x06 g 0 1 1 = 1 then
        (match (s.grp g).result with | some r => min lp.acc ((r + s.df 0x06 g 2 2) * 32768) | none => lp.acc) else lp.acc
    | none => lp.acc
  -- fallback, holding, law
  let pvBad := pvLaw0.isNone
  let fb := lp.fbOver || lp.fbEcc || (pvN.1.isNone && bit (fld d 3 1) 1) || (failing && pAct = 3)
  let hold := failing && pAct = 2
  let auto := lp.mode = 0 && !fb
  let lw : LawOut := if auto && !pvBad then law d lp since ((e.map (fun x => x.1)).getD 0) acc0
    else { acc := acc0, st := lp.lstate, rest := lp.rest, sat := false }
  -- output
  let lim := clampI (outLo d) (outHi d)
  let inForce : Int := if fb then sfld d 66 2 else match lp.mode with
    | 1 => lim lp.manOut
    | 2 => lp.holdOut
    | _ => lp.out
  let y0 := if pvBad then inForce else lim (toQ lw.acc).1
  let yN := notches d true lim pvN.2.1 pvN.2.2.1 y0
  let y1 := if pvBad || hold then lp.out else lim (yN.1 + injAt 2)
  let y := if fb then sfld d 66 2 else match lp.mode with
    | 1 => lim lp.manOut
    | 2 => lp.holdOut
    | _ => y1
  let st := if auto then lw.st else lawFrom d y
  let flags := inFlags ||| flagIf (c.2 || mdl.2 || yQ.2 || sp.2 || (res.map (fun r => r.2)).getD false
        || (pvI.map (fun r => r.2)).getD false || (e.map (fun r => r.2)).getD false) fSatArith
    ||| flagIf (pvN.2.2.2 || yN.2.2.2) fSatNotch ||| flagIf lw.sat fSatAcc ||| flagIf failing fPlaus ||| flagIf fb fFallback
  let good := if lp.fbOver then lp.fbGood + 1 else 0
  let leave := lp.fbOver && fld d 12 1 ≠ 0 && decide (fld d 12 1 ≤ good)
  let out : Loop := { lp with
    due := some (tick + max 1 (fld d 4 4)), lastQ := ins.map (fun i => i.last), p := pr.1, v := pr.2.1, a := pr.2.2,
    acc := if auto then lw.acc else y * 32768, lstate := st, since := if st = lp.lstate then since else 0,
    rest := if auto then lw.rest else none, notch0 := yN.2.1, notch1 := yN.2.2.1, model := mdl.1, fail := test.1,
    tcnt := test.2, flags := lp.flags ||| flags, consec := 0, fbOver := lp.fbOver && !leave, fbGood := if leave then 0 else good,
    fb := fb, out := y, cand := some y, pv := (pvI.map (fun r => r.1)).getD lp.pv, pvBad := pvN.1.isNone, spT := spT,
    spEff := sp.1, e := (e.map (fun r => r.1)).getD lp.e, resid := (res.map (fun r => r.1)).getD lp.resid,
    samples := (lp.samples + 1) % 4294967296, lastTick := tick % 4294967296, inj := lp.inj.bind injNext }
  { loop := out, flags := flags, inj := inj,
    event := if fb && !lp0.fb then 1 else if lp0.fb && !fb then 2 else 0 }

/-! ## Notices, captures, injections -/

/-- Notice 0x8503 (R218). -/
def loopNotice (l new event : Nat) (s : State) : State :=
  if new = 0 && event = 0 then s else
    let lp := s.loop l
    notify 3 0x8503 (le 4 (dkey 0x05 l) ++ le 4 lp.flags ++ le 4 new
      ++ [BitVec.ofNat 8 event, BitVec.ofNat 8 (s.loopInt l).mode] ++ leInt 2 lp.out ++ le 4 lp.overruns ++ zeros 12) s

/-- Flags set outside a sample, with their notice. -/
def raiseFlags (l f event : Nat) (s : State) : State :=
  let lp := s.loop l
  let new := (lp.flags ||| f) - lp.flags
  loopNotice l new event (s.setLoop l { lp with flags := lp.flags ||| f })

/-- A capture buffer. -/
def State.capBuf (s : State) (b : Nat) : CapBuf := Tbl.rd CapBuf.dflt s.shv.caps b
/-- Write a capture buffer. -/
def State.setCap (s : State) (b : Nat) (v : CapBuf) : State :=
  { s with shv := { s.shv with caps := Tbl.wr CapBuf.dflt s.shv.caps b v } }

/-- The captured signals of a sample in SEL order (R220, R222). -/
def capSample (s : State) (l sel : Nat) (o : SampleOut) : Bytes :=
  let g : Int := match s.groupOf l with | some g => ((s.grp g).result).getD 0 | none => 0
  let m : Int := match o.loop.model with | some m => (toQ m.y).1 | none => 0
  (List.range 4).flatMap (fun j => leInt 2 (match bits sel (4 * j) 4 with
    | 0 => o.loop.pv | 1 => o.loop.spEff | 2 => o.loop.e | 3 => o.loop.out | 4 => o.loop.cand.getD 0 | 5 => o.inj
    | 6 => m | 7 => o.loop.resid | 8 => g | _ => 0))

/-- A capture buffer is full (R222). -/
def capFull : Nat := 8184

/-- The capture of a sample reaches its buffer (R222). -/
def captureStep (edge : State) (l tick : Nat) (o : SampleOut) (s : State) : State :=
  match (edge.loop l).inj with
  | none => s
  | some x =>
    match x.buf with
    | none => s
    | some b =>
      let c := s.capBuf b
      let first := c.samples.isEmpty
      let c1 : CapBuf := { c with
        samples := c.samples ++ [capSample edge l c.sel o], st := 1,
        optime := if first then s.optime else c.optime, firstTick := if first then tick % 4294967296 else c.firstTick }
      let ended := (injNext x).isNone
      let full := capFull ≤ c1.samples.length
      let s1 := s.setCap b { c1 with st := if ended then 3 else if full then 2 else 1 }
      if full && !ended then
        let lp := s1.loop l
        s1.setLoop l { lp with inj := if x.signal = 0 then none else lp.inj.map (fun y => { y with buf := none }) }
      else s1

/-- An injection and its capture end early (R223). -/
def abortInj (l : Nat) (s : State) : State :=
  let lp := s.loop l
  match lp.inj with
  | none => s
  | some x =>
    let s1 := match x.buf with
      | some b => s.setCap b { s.capBuf b with st := 4 }
      | none => s
    raiseFlags l fAbort 0 (s1.setLoop l { lp with inj := none })

/-- Everything a session has in injections and capture buffers ends with it (R92, R222, R223). -/
def dropCaptures (sess : Nat) (s : State) : State :=
  let ls := (s.shv.loops.filter (fun e => match e.2.inj with | some x => x.sess == sess | none => false)).map (fun e => e.1)
  let s1 := forAll ls abortInj s
  { s1 with shv := { s1.shv with caps := s1.shv.caps.filter (fun e => e.2.sess != sess) } }

/-! ## Overruns (R214) -/

/-- One overrun of a loop is counted. -/
def bookOverrun (l : Nat) (s : State) : State :=
  let lp := s.loop l
  let enter := decide (3 ≤ lp.consec + 1) && !lp.fbOver
  let n := satInc 0xFFFFFFFF lp.overruns
  let s1 := s.setLoop l { lp with
    overruns := n, consec := satInc 255 lp.consec, late := lp.late - 1, fbGood := 0, fbOver := lp.fbOver || enter,
    fb := lp.fb || enter }
  let s2 := if enter then ttOccur 0 0x05C1 (dkey 0x05 l) (le 4 n) s1 else s1
  let s3 := raiseFlags l (fOverrun ||| flagIf enter fFallback) (if enter && !lp.fb then 1 else 0) s2
  if enter then abortInj l s3 else s3

/-- Every overrun of a loop that a tick has met is counted. -/
def bookAll (l : Nat) (s : State) : State := iter (bookOverrun l) (s.loop l).late s

/-- A sample that did not write back (R201, R214): nothing of it stays, the set-up of a first sample included; the next
due tick is counted as usual. -/
def overrunSample (l tick : Nat) (s : State) : State :=
  let d := s.lpd l
  let lp := s.loop l
  s.setLoop l { lp with late := lp.late + 1, due := some (tick + max 1 (fld d 4 4)) }

/-- A double-bit error in a loop's slot (R195): the ECC flag and fallback; the slot is reloaded from the live rig. -/
def slotEcc (l : Nat) (s : State) : State :=
  if !s.en 0x05 l then s else
    let lp := s.loop l
    let s1 := ttOccur 0 0x05C2 (dkey 0x05 l) [] (s.setLoop l { lp with fbEcc := true, fb := true })
    let s2 := raiseFlags l (fEcc ||| fFallback) (if lp.fb then 0 else 1) s1
    abortInj l s2

/-! ## The ring (R212) -/

/-- The lowest candidate of a group and its loop, the lowest number among equals. -/
def lowest (s : State) (g : Nat) : Option (Int × Nat) :=
  (s.members g).foldl (fun b l =>
    match (s.loop l).cand with
    | none => b
    | some c => match b with
      | none => some (c, l)
      | some (x, m) => if c < x || (c = x && l < m) then some (c, l) else b) none

/-- The permit an enabled dryer offers a group (R241): not yet, between a start and its first evaluation (R252). -/
def permitOf (s : State) (g : Nat) : Option (Option Int) :=
  let of (off : Nat) (p : Dryer → Nat) : Option (Option Int) :=
    ((s.enabled 0x07).find? (fun i => s.df 0x07 i off 2 == g)).map (fun i =>
      if (s.dryer i).fresh then none else some ((p (s.dryer i) : Nat) : Int))
  match of 4 (fun y => y.pHeat) with
  | some p => some p
  | none => of 6 (fun y => y.pMeter)

/-- One group of the ring; a parity error keeps the previous result. -/
def ringGroup (bad : List Nat) (g : Nat) (s : State) : State :=
  if bad.contains g then
    forAll (s.members g) (fun l st => raiseFlags l fRing 0 st) (ttOccur 0 0x0581 (dkey 0x06 g) [] s)
  else
    let low := lowest s g
    match permitOf s g with
    | some none => s
    | some (some p) => s.setGrp g (match low with
      | some (c, l) => if c ≤ p then { result := some c, winner := l } else { result := some p, winner := 0xFFFF }
      | none => { result := some p, winner := 0xFFFF })
    | none => match low with
      | none => s
      | some (c, l) => s.setGrp g { result := some c, winner := l }

/-- The ring of a tick: it runs when a member of an enabled group is due, and for the groups with a permit (R241). -/
def runRing (due bad : List Nat) (s : State) : State :=
  let gs := s.enabled 0x06
  if gs.any (fun g => (s.members g).any (fun l => due.contains l)) then forAll gs (ringGroup bad) s
  else forAll (gs.filter (fun g => (permitOf s g).isSome)) (ringGroup bad) s

/-! ## The loops of a tick (R22 steps 1 to 4) -/

/-- The loops due at a tick. -/
def State.dueLoops (s : State) (tick : Nat) : List Nat :=
  (s.enabled 0x05).filter (fun l => match (s.loop l).due with | some t => decide (t ≤ tick) | none => false)

/-- One due loop: its sample from the state at the edge, or an overrun. -/
def loopAt (edge : State) (late : List Nat) (tick l : Nat) (s : State) : State :=
  if late.contains l then overrunSample l tick s
  else
    let o := sample edge l tick
    let was := (edge.loop l).flags
    let s1 := captureStep edge l tick o (s.setLoop l { o.loop with inj := o.loop.inj })
    let s2 := loopNotice l ((was ||| o.flags) - was) o.event s1
    if o.event = 1 then abortInj l s2 else s2

/-- Steps 1 to 4 of a tick. -/
def tickLoops (e : TickEnv) (s : State) : State :=
  if !s.rdy 8 then s else
    let t := s.shv.tick
    let s0 := forAll e.slotEcc slotEcc (forAll ((s.shv.loops.filter (fun x => x.2.late ≠ 0)).map (fun x => x.1)) bookAll s)
    let due := s0.dueLoops t
    let s1 := forAll due (loopAt s0 e.late t) s0
    let s2 := runRing due e.ringParity s1
    { s2 with shv := { s2.shv with tick := t + 1 } }

/-! ## Rig changes (R138, R216, R217) -/

/-- A loop that stays enabled takes a new descriptor (R217). -/
def loopChanged (old new : Bytes) (l : Nat) (s : State) : State :=
  let lp := s.loop l
  let s1 := if old = new then s else abortInj l s
  let lp1 := s1.loop l
  if lp.fresh then s1 else
    let same (off n : Nat) : Bool := cut old off n == cut new off n
    let lo := outLo new * 32768
    let hi := outHi new * 32768
    let acc := if same 62 4 then lp1.acc else clampI lo hi lp1.acc
    let vmax : Int := fld new 128 4
    let amax : Int := fld new 132 4
    let st := if lawOf old ≠ lawOf new then lawFrom new (clampI (outLo new) (outHi new) (toQ acc).1)
      else if lawOf new = 3 then min lp1.lstate (fld new 13 1) else lp1.lstate
    let nSame (j : Nat) : Bool := same (144 + 12 * j) 10 && (bits (fld old 140 1) (2 * j) 2 == bits (fld new 140 1) (2 * j) 2)
    let pNew := bit (fld new 168 1) 0
    let keepModel := pNew && bit (fld old 168 1) 0 && same 170 1 && same 180 2
    s1.setLoop l { lp1 with
      acc := acc, rest := if acc = lp1.acc then lp1.rest else some acc,
      v := if same 128 8 then lp1.v else clampI (-vmax) vmax lp1.v,
      a := if same 128 8 then lp1.a else clampI (-amax) amax lp1.a,
      lstate := st, since := if st = lp1.lstate then lp1.since else 0,
      notch0 := if nSame 0 then lp1.notch0 else none, notch1 := if nSame 1 then lp1.notch1 else none,
      model := if keepModel then lp1.model else none, fail := lp1.fail && pNew, tcnt := if keepModel then lp1.tcnt else 0 }

/-- A loop at an activation: `old` and `new` descriptors; it samples at T_act (R133, R196). A newly enabled loop is set up
afresh (R216); one that is disabled is no longer scheduled, and its flags stay until it is enabled again (R13). -/
def loopActivate (old new : Bytes) (l : Nat) (s : State) : State :=
  let was := bit (fld old 0 1) 0
  let now := bit (fld new 0 1) 0
  let s1 := if was && now then loopChanged old new l s
    else if now then s.setLoop l Loop.dflt
    else if was then let s2 := abortInj l s; s2.setLoop l { s2.loop l with due := none, cand := none, pendSp := false, pendMode := false }
    else s
  if now && s1.rdy 8 then s1.setLoop l { s1.loop l with due := some s1.shv.tick } else s1

/-- Every enabled loop is loaded and scheduled: LOOPS is set (R196, R216). -/
def loadLoops (s : State) : State :=
  let ls : Tbl Loop := s.enabled 0x05 |>.foldl (fun t l =>
    Tbl.wr Loop.dflt t l { Loop.dflt with due := some (s.df 0x05 l 8 4) }) []
  { s with shv := { s.shv with tick := 0, loops := ls, groups := [], caps := [] } }.setRdy 8

/-! ## Opcodes -/

/-- One item of LOOP_SET_SP (R81, R208). -/
def spItem (c : Cmd) (i : Nat) (s : State) : State × Nat :=
  let it := cut c.payload (4 + 8 * i) 8
  let k := fld it 0 4
  let l := keyIdx k
  let g := itemGate c k true s
  if g ≠ 0 then (s, g)
  else if !s.en 0x05 l then (s, 0x0403)
  else
    let s1 := s.setLoopInt l { s.loopInt l with target := some (sfld it 4 2) }
    (commitItem k c.jseq c.sess c.role (s1.setLoop l { s1.loop l with pendSp := true }), 0)

/-- LOOP_SET_SP. -/
def runLoopSetSp (c : Cmd) (s : State) : State × Res :=
  let r := runItems (fld c.payload 0 2) (spItem c) s
  (r.1, Res.multi r.2 [])

/-- One item of LOOP_MODE (R207, R223). -/
def modeItem (c : Cmd) (i : Nat) (s : State) : State × Nat :=
  let it := cut c.payload (4 + 8 * i) 8
  let k := fld it 0 4
  let l := keyIdx k
  let g := itemGate c k true s
  if g ≠ 0 then (s, g)
  else if !s.en 0x05 l then (s, 0x0403)
  else
    let s1 := s.setLoopInt l { s.loopInt l with mode := fld it 4 1, manOut := sfld it 6 2 }
    let s2 := abortInj l (s1.setLoop l { s1.loop l with pendMode := true })
    (commitItem k c.jseq c.sess c.role s2, 0)

/-- LOOP_MODE. -/
def runLoopMode (c : Cmd) (s : State) : State × Res :=
  let r := runItems (fld c.payload 0 2) (modeItem c) s
  (r.1, Res.multi r.2 [])

/-- One item of LOOP_CLEAR_FLAGS (R81, R200). -/
def flagItem (c : Cmd) (i : Nat) (s : State) : State × Nat :=
  let it := cut c.payload (4 + 8 * i) 8
  let k := fld it 0 4
  let l := keyIdx k
  let g := itemGate c k true s
  if g ≠ 0 then (s, g)
  else if !s.en 0x05 l then (s, 0x0403)
  else
    let lp := s.loop l
    (commitItem k c.jseq c.sess c.role (s.setLoop l { lp with flags := lp.flags - (lp.flags &&& fld it 4 4) }), 0)

/-- LOOP_CLEAR_FLAGS. -/
def runLoopClear (c : Cmd) (s : State) : State × Res :=
  let r := runItems (fld c.payload 0 2) (flagItem c) s
  (r.1, Res.multi r.2 [])

/-- A loop's 64-byte record (R219). -/
def loopRecord (s : State) (l : Nat) : Bytes :=
  let d := s.lpd l
  let lp := s.loop l
  let g := s.groupOf l
  let gr := match g with | some g => s.grp g | none => Grp.dflt
  let inj := match lp.inj with | some x => decide (x.signal ≠ 0) | none => false
  let cap := match lp.inj with | some x => x.buf.isSome | none => false
  let flags := b2n lp.fb + 2 * b2n inj + 4 * b2n cap + 8 * b2n lp.fail + 16 * b2n lp.pvBad
    + 32 * b2n (g.isSome && gr.winner == l)
  let m : Int := match lp.model with | some m => (toQ m.y).1 | none => 0
  let eng : Int := if lp.fresh then 0
    else clampI (-2147483648) 2147483647 (sfld d 16 4 + divRound (lp.pv * fld d 20 4) 32768)
  le 4 (dkey 0x05 l) ++ [BitVec.ofNat 8 (s.loopInt l).mode, BitVec.ofNat 8 flags, BitVec.ofNat 8 lp.lstate,
      BitVec.ofNat 8 lp.consec]
    ++ le 4 lp.flags ++ le 4 lp.overruns ++ leInt 2 lp.pv ++ leInt 2 lp.spT ++ leInt 2 lp.spEff ++ leInt 2 lp.e
    ++ leInt 2 lp.out ++ leInt 2 (lp.cand.getD 0) ++ leInt 2 (gr.result.getD 0) ++ le 2 gr.winner ++ leInt 8 lp.acc
    ++ leInt 2 m ++ leInt 2 lp.resid ++ le 2 lp.since ++ zeros 2 ++ le 4 lp.samples ++ le 4 lp.lastTick ++ leInt 4 eng
    ++ zeros 4

/-- LOOP_READ (R219). -/
def runLoopRead (c : Cmd) (s : State) : State × Res := (s, readRecords c (fun k => loopRecord s (keyIdx k)))

/-- INJECT_START (R220). -/
def runInject (c : Cmd) (s : State) : State × Res :=
  let k := fld c.payload 0 4
  let l := keyIdx k
  let signal := fld c.payload 4 1
  let cap := fld c.payload 6 1 = 1
  let lp := s.loop l
  let reply (b : Nat) : Res := Res.ok ([BitVec.ofNat 8 b] ++ zeros 7)
  let g := itemGate c k true s
  if g ≠ 0 then (s, Res.of g [])
  else if !s.en 0x05 l then (s, Res.conflict)
  else if signal = 0 && !cap then (commitItem k c.jseq c.sess c.role (abortInj l s), reply 0xFF)
  else if lp.inj.isSome then (s, Res.conflict)
  else if signal ≠ 0 && ((s.loopInt l).mode ≠ 0 || lp.fb || lp.fbOver || lp.fbEcc) then (s, Res.conflict)
  else
    let held := (s.shv.caps.filter (fun e => e.2.sess == c.sess)).length
    let free := (List.range 32).find? (fun b => (s.capBuf b).sess == 0)
    if cap && decide ((s.ses c.slot).quota.capture ≤ held) then (s, Res.of 0x0302 [])
    else if cap && free.isNone then (s, Res.conflict)
    else
      let buf := if cap then free else none
      let x : Inj := { signal := signal, at_ := fld c.payload 5 1, ampl := fld c.payload 10 2, length := fld c.payload 12 4,
                       shape := fld c.payload 16 2, pre := fld c.payload 18 2, n := 0, buf := buf, sess := c.sess, prbs := 0x7FFF }
      let s1 := match buf with
        | some b => s.setCap b { CapBuf.dflt with sess := c.sess, loop := l, sel := fld c.payload 8 2, pre := x.pre, period := s.df 0x05 l 4 4 }
        | none => s
      (commitItem k c.jseq c.sess c.role (s1.setLoop l { s1.loop l with inj := some x }), reply (buf.getD 0xFF))

/-- A capture buffer's header (R222). -/
def capHeader (v : CapBuf) : Bytes :=
  le 4 (dkey 0x05 v.loop) ++ le 2 v.sel ++ [BitVec.ofNat 8 v.st, 0#8] ++ le 4 v.samples.length ++ le 4 v.pre
    ++ le 6 v.optime ++ zeros 2 ++ le 4 v.period ++ le 4 v.firstTick ++ zeros 32

/-- A capture buffer as a read from sample `n` on returns it (R222). A damaged one carries its mark in the byte after STATE,
and a word in error (R21, log 64). -/
def capBytes (v : CapBuf) (n : Nat) : Bytes :=
  if v.damaged then
    let b := (damageWord 3 v.sess (capHeader v ++ v.samples.flatten)).set 7 1#8
    b.take 64 ++ (b.drop (64 + 8 * n)).take (8 * 1014)
  else capHeader v ++ ((v.samples.drop n).take 1014).flatten

/-- A double-bit error at byte `o` of the capture region marks the buffer that has it among its record (R21, R222): buffer
`b` is 64 KiB from `b` times 64 KiB (log 64). -/
def capDamage (o : Nat) (s : State) : State :=
  let v := s.capBuf (o / 65536)
  if v.sess ≠ 0 && decide (o % 65536 < 64 + 8 * v.samples.length) then s.setCap (o / 65536) { v with damaged := true } else s

/-- CAPTURE_READ READ (R222). -/
def runCaptureRead (c : Cmd) (s : State) : State × Res :=
  let v := s.capBuf (fld c.payload 0 1)
  if v.sess = 0 then (s, Res.conflict)
  else (s, Res.ok (capBytes v (fld c.payload 4 4)))

/-- CAPTURE_READ FREE (R222): a capture still running ends early. -/
def runCaptureFree (c : Cmd) (s : State) : State × Res :=
  let b := fld c.payload 0 1
  let v := s.capBuf b
  if v.sess = 0 || v.sess ≠ c.sess then (s, Res.conflict)
  else
    let running := match (s.loop v.loop).inj with | some x => x.buf == some b | none => false
    let s1 := if running then abortInj v.loop s else s
    (s1.setCap b CapBuf.dflt, Res.ok [])

/-! ## Meanings -/

/-- LOOP_OVERRUN (R214): an overrun that a tick met is counted. -/
def execLoopOverrun (loop : Nat) (s : State) : Host.Outcome State Fault Refusal :=
  .next (if (s.loop loop).late = 0 then s else bookOverrun loop s)

end Sys2Proof.Machine
end

