-- ==== Sys2Proof/Machine/Masts.lean ====
section
/-! DEFINITION. Masts (chapter 09): references, windows, the state table, gates, the tariff ledger and their opcodes. -/
namespace Sys2Proof.Machine

/-- The Mast's descriptor. -/
def State.md (s : State) (m : Nat) : Bytes := s.d 0x04 m
/-- Committed mode: 0 OFF, 1 COOL, 2 DRY, 3 MAINTAIN (R226). -/
def State.mastMode (s : State) (m : Nat) : Nat := Tbl.rd 0 s.masts.mode m
/-- Working ledger record. -/
def State.ledger (s : State) (m : Nat) : Ledger := Tbl.rd Ledger.dflt s.masts.led m
/-- Write a working ledger record. -/
def State.setLedger (s : State) (m : Nat) (v : Ledger) : State :=
  { s with masts := { s.masts with led := Tbl.wr Ledger.dflt s.masts.led m v } }
/-- N_FANS. -/
def mastFans (d : Bytes) : Nat := fld d 3 1
/-- The cables of a Mast. -/
def mastCables (d : Bytes) : List Nat := (List.range (fld d 2 1)).map (fun j => fld d (16 + 2 * j) 2)
/-- SILENCE: 0 CONTINUE, 1 HOLD, 2 STOP (R233). -/
def mastSilence (d : Bytes) : Nat := bits (fld d 1 1) 0 2
/-- DONE_TO_MAINT. -/
def doneToMaint (d : Bytes) : Bool := bit (fld d 1 1) 4

/-- The front settings a Mast's mode puts in place of a cable's (R226), coded as `cableOvr`. -/
def mastCableOvr (s : State) (m : Nat) : Nat :=
  let d := s.md m
  if !bit (fld d 0 1) 2 then 0 else
    match s.mastMode m with
    | 0 => 0
    | 2 => 65536 + fld d 178 2 + 1
    | _ => 2 * 65536 + fld d 176 2 + 1

/-! ## References (R228) -/

/-- Mean of a list rounded to the nearest count; none of nothing. -/
def meanOf (l : List Int) : Option Int := match l with | [] => none | _ => some (divRound l.sum l.length)

/-- Greatest of a list. -/
def maxOf : List Int → Option Int
  | [] => none
  | v :: vs => some (vs.foldl max v)

/-- RH of the air after the fan (R228): p(T) = 6.112 × exp(17.62 T / (243.12 + T)); none at −243.12 °C, where p has no
value. -/
def rhAfter (rh t ta : Int) : Option Nat :=
  let den (x : Int) : Rat := 24312 / 100 + (x : Rat) / 100
  let ex (x : Int) : Rat := 1762 / 100 * ((x : Rat) / 100) / den x
  if den t = 0 || den ta = 0 then none else
    match fxExp (fxOf (ex t - ex ta)) with
    | none => some (if rh = 0 then 0 else 10000)
    | some q => some (clampI 0 10000 (ratRound ((rh : Rat) * q))).toNat

/-- What an evaluation reads of a Mast's bin. -/
structure MastRef where
  tA : Int
  rhA : Nat
  emcA : Nat
  tG : Int
  mG : Nat
  /-- References valid. -/
  ok : Bool
  /-- A maintenance trigger on a point holds. -/
  trig : Bool
  fronts : Nat
  passed : Nat
  /-- Of those, PASSED in a cycle that started after the campaign began (R227). -/
  done : Nat
  slowest : Option Int
deriving DecidableEq, Repr

/-- The points of a cable that count for GRAIN_SEL (R228): within the inlet layer for 1, else all. -/
def grainPts (s : State) (d : Bytes) (c : Nat) : List Nat :=
  let ps := s.cablePts c
  let h (p : Nat) : Int := s.df 0x02 p 10 2
  let hs := ps.map h
  let down := s.db 0x03 c 0 3 1 = 1
  let end_ : Int := if down then (maxOf hs).getD 0 else -((maxOf (hs.map (fun x => -x))).getD 0)
  if bits (fld d 0 1) 3 2 = 1 then ps.filter (fun p => decide ((h p - end_).natAbs ≤ fld d 126 2)) else ps

/-- A scan cycle has completed within twice SCAN_PERIOD, or within 600 s while scanning is stopped (R228). -/
def State.cycleRecent (s : State) : Bool :=
  match s.scan.doneUs with
  | none => false
  | some t => decide (s.aon.nowUs ≤ t + (if s.period = 0 then 600000000 else 2000 * s.period))

/-- The references of a Mast (R227, R228, R230). -/
def mastRefs (s : State) (m : Nat) : MastRef :=
  let d := s.md m
  let x := s.mast m
  let src (off : Nat) : Option Int := if inPresent d off then inValue s d off else none
  let t := meanOf ([80, 88].filterMap src)
  let rh := meanOf ([96, 104].filterMap src)
  let tA := t.map (fun v => clampI (-32767) 32767 (v + sfld d 116 2))
  let rhA : Option Nat := match t, rh, tA with
    | some a, some b, some c => rhAfter b a c
    | _, _, _ => none
  let emc : Option Nat := match tA, rhA with
    | some a, some b => let e := emcOf (s.d 0x22 (fld d 4 2)) a b; if e.2.1 then some e.1 else none
    | _, _ => none
  let cables := mastCables d
  let good (p : Nat) : Bool := (s.point p).qual == 1 || (s.point p).qual == 2
  let pts := (cables.flatMap (grainPts s d)).filter good
  let ts : List Int := pts.map (fun p => (s.point p).temp)
  let ms : List Int := (pts.filter (fun p => (s.point p).emcValid)).map (fun p => ((s.point p).emc : Int))
  let agg (l : List Int) : Option Int := if l.length < 3 then none else if bits (fld d 0 1) 3 2 = 2 then maxOf l else meanOf l
  let all := cables.flatMap s.cablePts
  let warm := maxOf ((all.filter good).map (fun p => (s.point p).temp))
  let hot := all.any (fun p => (s.point p).thState == 2 || (s.point p).thState == 3)
  let q := cables.filter (fun c => s.frontMode c ≠ 0 && (s.front c).state ≠ 0 && !(s.front c).branchOpen)
  let speeds := (cables.filter (fun c => (s.front c).state == 2 && (s.front c).speedValid)).map (fun c => -(s.front c).speed)
  let every := fld d 188 2
  let tG := agg ts
  let mG := agg ms
  { tA := tA.getD (-32768), rhA := rhA.getD 0xFFFF, emcA := emc.getD 0xFFFF, tG := tG.getD (-32768),
    mG := match mG with | some v => v.toNat | none => 0xFFFF,
    ok := emc.isSome && tG.isSome && mG.isSome && s.cycleRecent,
    trig := hot || (match warm with | some w => decide (sfld d 186 2 < w) | none => false)
      || (every ≠ 0 && decide (x.maintAt + every * 3600000000 ≤ s.aon.nowUs)),
    fronts := q.length, passed := (q.filter (fun c => (s.front c).state == 3)).length,
    done := (q.filter (fun c => (s.front c).state == 3 && decide (x.campCycle < (s.front c).cycle))).length,
    slowest := (maxOf speeds).map (fun v => -v) }

/-! ## Windows (R229) -/

/-- Offset of the window set in force (R230). -/
def windowOff (d : Bytes) (mode : Nat) (x : Mast) : Nat :=
  if x.maint || (x.st == 4 && doneToMaint d) then 160
  else match mode with | 1 => 128 | 2 => 144 | _ => 160

/-- One evaluation of the window: the state, the count, and T_OK, M_OK and AIR_OK as bits 1 to 3. -/
def windowStep (d : Bytes) (off : Nat) (r : MastRef) (x : Mast) : Bool × Nat × Nat :=
  let dT := clampI (-32768) 32767 (r.tA - r.tG)
  let dM := clampI (-32768) 32767 ((r.emcA : Int) - r.mG)
  let tHys : Int := fld d (off + 4) 2
  let mHys : Int := fld d (off + 10) 2
  let inside (v lo hi : Int) : Bool := decide (lo ≤ v) && decide (v ≤ hi)
  let tOk := inside dT (sfld d off 2) (sfld d (off + 2) 2)
  let mOk := inside dM (sfld d (off + 6) 2) (sfld d (off + 8) 2)
  let tMin := sfld d (off + 12) 2
  let rhMax : Int := fld d (off + 14) 2
  let airOk := decide (tMin ≤ r.tA) && decide ((r.rhA : Int) ≤ rhMax)
  let closes := !inside dT (sfld d off 2 - tHys) (sfld d (off + 2) 2 + tHys)
    || !inside dM (sfld d (off + 6) 2 - mHys) (sfld d (off + 8) 2 + mHys)
    || decide (r.tA < tMin - tHys) || decide (rhMax + 300 < r.rhA)
  let hit := if x.open_ then closes else tOk && mOk && airOk
  let n := if hit then x.count + 1 else 0
  let flags := 2 * b2n tOk + 4 * b2n mOk + 8 * b2n airOk
  if hit && decide (bits (fld d 6 1) 0 4 ≤ n) then (!x.open_, 0, flags) else (x.open_, n, flags)

/-! ## The state table (R230, R233) -/

/-- Minutes in µs. -/
def minUs (n : Nat) : Nat := n * 60000000

/-- n at an entry to RUN: MIN_FANS where SPEED_LO is set, N_FANS otherwise (R229). -/
def startFans (d : Bytes) : Nat := if sfld d 180 2 ≠ 0 then min (fld d 7 1) (mastFans d) else mastFans d

/-- The Mast enters a state; `n` is given for an entry to RUN. -/
def mastEnter (d : Bytes) (now st : Nat) (n : Option Nat) (x : Mast) : Mast :=
  if st = x.st then x else
    let running (v : Nat) : Bool := v == 2 || v == 3
    let left := running x.st && !running st
    let closed := st = 0 || st = 1 || st = 4 || st = 6 || (st = 5 && !bit (fld d 1 1) 2)
    let n1 := if closed then 0 else if st = 3 then mastFans d else min (n.getD x.n) (mastFans d)
    { x with
      st := st, at_ := now, gates := if closed then 0 else if st = 2 then x.gates % 2 ^ n1 else x.gates, n := n1,
      stopAt := if left then now else x.stopAt, minStopMet := x.minStopMet && !left,
      maintAt := if x.st = 2 then now else x.maintAt,
      runAt := if st = 2 then now else x.runAt, minRunMet := x.minRunMet && st ≠ 2,
      stage := 0, maint := false, newMode := x.newMode && !(st = 4 && !x.maint) }

/-- Rows 7 to 13, at evaluations: the Mast and whether STARTS and CAMPAIGNS rise. -/
def mastLate (d : Bytes) (now mode campS : Nat) (silent : Bool) (r : MastRef) (x : Mast) : Mast × Bool × Bool :=
  let go (st : Nat) (n : Option Nat) : Mast × Bool × Bool := (mastEnter d now st n x, false, false)
  let maxRun := fld d 124 2
  let complete := (r.fronts ≠ 0 && r.done = r.fronts) || (maxRun ≠ 0 && decide (maxRun * 3600 ≤ campS))
  let inDone := x.st = 4 || x.maint
  if !r.ok then go 5 none
  else if x.st = 5 then (if x.gates ≠ 0 && x.open_ then go 2 (some (startFans d)) else go 1 none)
  else if x.newMode && inDone then
    let y := mastEnter d now 1 none x
    ({ y with newMode := false }, false, false)
  else if (mode = 1 || mode = 2) && complete && !inDone then (mastEnter d now 4 none x, false, true)
  else if x.st = 4 && !(doneToMaint d && r.trig) then (x, false, false)
  else if x.st = 2 then
    let minRun := x.minRunMet || decide (x.runAt + minUs (fld d 120 2) ≤ now)
    let maintEnd := (mode = 3 || x.maint) && decide (x.runAt + minUs (fld d 190 2) ≤ now) && !r.trig
    if (minRun && !x.open_) || maintEnd then go (if x.maint then 4 else 1) none else (x, false, false)
  else
    let stopped := x.minStopMet || decide (x.stopAt + minUs (fld d 122 2) ≤ now)
    let need := mode = 3 || x.st = 4
    if (x.st = 1 || x.st = 4) && stopped && x.open_ && !(silent && mastSilence d = 1) && (r.trig || !need) then
      let y := mastEnter d now 2 (some (startFans d)) x
      ({ y with maint := x.st == 4 }, true, false)
    else (x, false, false)

/-- What the rows read beside the Mast. -/
structure MastEnv where
  now : Nat
  mode : Nat
  /-- The port die senses LOCKOUT active. -/
  lock : Bool
  /-- Time of the release of the land. -/
  released : Nat
  silent : Bool
  /-- A scan cycle completed recently enough for references to be valid (R228). -/
  recent : Bool
deriving DecidableEq, Repr

/-- Rows 1 to 6 (R230): the Mast after them, and whether the later rows are still to be asked. -/
def mastEarly (d : Bytes) (e : MastEnv) (x0 : Mast) : Mast × Bool :=
  let now := e.now
  let home := if e.mode = 0 then 0 else 1
  if e.lock then (mastEnter d now 6 none { x0 with forceTo := none, forceMin := 0, lockItem := false }, false)
  else if x0.st = 6 then
    let free := decide (e.released + 100000 ≤ now)
    let resume := bit (fld d 1 1) 3 && decide (e.released + fld d 192 2 * 1000000 ≤ now)
    if free && (x0.lockItem || resume) then ({ mastEnter d now home none x0 with lockItem := false }, false) else (x0, false)
  else
    let stop := e.silent && mastSilence d = 2
    let begun := if x0.forceMin ≠ 0 then { x0 with forceTo := some (now + minUs x0.forceMin), forceMin := 0 } else x0
    let overR := match begun.forceTo with | some t => decide (t ≤ now) || stop | none => false
    let x := if overR then { begun with forceTo := none } else begun
    if overR && x.st = 3 && e.mode ≠ 0 then
      let run := x.open_ && bit x.flags 4 && e.recent && !stop
      (if run then mastEnter d now 2 (some (mastFans d)) x else mastEnter d now 1 none x, false)
    else if x.forceTo.isNone && (e.mode = 0 || x.st = 0) then (mastEnter d now home none x, false)
    else if x.forceTo.isSome then (mastEnter d now 3 none x, false)
    else if stop then (mastEnter d now (if x.maint || x.st = 4 then 4 else 1) none x, false)
    else (x, true)

/-- Staging in RUN (R229). -/
def mastStage (d : Bytes) (now : Nat) (hold : Bool) (slowest : Option Int) (x : Mast) : Mast :=
  if sfld d 180 2 = 0 then x else
    let k := match slowest with
      | none => 0
      | some v => if v < sfld d 180 2 then 1 else if sfld d 182 2 < v then 2 else 0
    if k = 0 || k ≠ x.stage then { x with stage := k, stageAt := now }
    else if now < x.stageAt + minUs (fld d 184 2) then x
    else if k = 1 then
      if x.n < mastFans d && !hold then { x with n := x.n + 1, stageAt := now } else x
    else if fld d 7 1 < x.n then { x with n := x.n - 1, stageAt := now, gates := x.gates % 2 ^ (x.n - 1) }
    else x

/-- The next gate of the stagger (R229): the first at once, each later one START_GAP timed checks after the gate before it
opened. -/
def mastGate (d : Bytes) (x : Mast) : Mast :=
  let want := if x.st = 3 then mastFans d else if x.st = 2 then x.n else 0
  match (List.range want).find? (fun j => !bit x.gates j) with
  | none => x
  | some j => if j = 0 || fld d 118 2 ≤ x.gaps.getD (j - 1) 0 then { x with gates := x.gates + 2 ^ j, gaps := x.gaps.set j 0 } else x

/-- What the rows read (R230). -/
def State.mastEnv (s : State) (m : Nat) : MastEnv :=
  { now := s.aon.nowUs, mode := s.mastMode m, lock := (s.die 1).sense, released := (s.die 1).senseAt, silent := s.host.silence,
    recent := s.cycleRecent }

/-- The state a start rebuilds at the first evaluation (R238). -/
def mastRebuild (now mode : Nat) (x : Mast) : Mast :=
  let n := ((List.range 8).filter (fun j => bit x.gates j)).length
  if n ≠ 0 then { x with fresh := false, st := 2, n := n, open_ := true, runAt := now, minRunMet := true, at_ := now }
  else { x with fresh := false, st := if mode = 0 then 0 else 1, n := 0, at_ := now }

/-- A Mast's 64-byte record as it stands (R237). -/
def mastRecordNow (s : State) (m : Nat) : Bytes :=
  let x := s.mast m
  let now := s.aon.nowUs
  let left := match x.forceTo with | some t => min 0xFFFF ((t - now + 59999999) / 60000000) | none => 0
  let flags := b2n x.open_ + x.flags + 64 * b2n s.host.silence + 128 * b2n (s.die 1).sense
  le 4 (dkey 0x04 m) ++ [BitVec.ofNat 8 (s.mastMode m), BitVec.ofNat 8 x.st, BitVec.ofNat 8 x.gates, BitVec.ofNat 8 x.n,
      BitVec.ofNat 8 flags, BitVec.ofNat 8 x.count]
    ++ leInt 2 x.tA ++ le 2 x.rhA ++ le 2 x.emcA ++ leInt 2 x.tG ++ le 2 x.mG ++ leInt 2 x.dT ++ leInt 2 x.dM
    ++ [BitVec.ofNat 8 x.fronts, BitVec.ofNat 8 x.passed] ++ leInt 2 x.slowest
    ++ le 4 (min 0xFFFFFFFF ((now - x.at_) / 1000000)) ++ le 2 left
    ++ le 2 (if x.stage = 0 then 0 else min 0xFFFF ((now - x.stageAt) / 60000000)) ++ le 4 x.cycle
    ++ le 4 (s.ledger m).campaignS ++ zeros 20

/-- The record that MAST_READ gives is formed at the end of an evaluation or timed check (R237). -/
def mastSeen (m : Nat) (s : State) : State := s.setMast m { s.mast m with record := some (mastRecordNow s m) }

/-- One Mast's evaluation (R228 to R231). -/
def mastEvaluate (m : Nat) (s : State) : State :=
  let d := s.md m
  let x0 := s.mast m
  let e := s.mastEnv m
  let r := mastRefs s m
  let dT : Int := if r.ok then clampI (-32768) 32767 (r.tA - r.tG) else 0
  let dM : Int := if r.ok then clampI (-32768) 32767 ((r.emcA : Int) - r.mG) else 0
  let w := if !x0.fresh && r.ok && e.mode ≠ 0 then windowStep d (windowOff d e.mode x0) r x0 else (x0.open_, 0, 0)
  let x1 : Mast := { x0 with
    open_ := w.1, count := w.2.1, flags := w.2.2 + 16 * b2n r.ok + 32 * b2n r.trig, tA := r.tA, rhA := r.rhA,
    emcA := r.emcA, tG := r.tG, mG := r.mG, dT := dT, dM := dM, fronts := r.fronts, passed := r.passed,
    slowest := r.slowest.getD (-32768), cycle := s.scan.cycle }
  if x0.fresh then
    let y := mastRebuild e.now e.mode x1
    let z := if e.lock then mastEnter d e.now 6 none y else y
    mastSeen m (s.setMast m (mastGate d z))
  else
    let y := mastEarly d e x1
    let late := if y.2 then mastLate d e.now e.mode (s.ledger m).campaignS e.silent r y.1 else (y.1, false, false)
    let z := if late.1.st = 2 then mastStage d e.now (e.silent && mastSilence d = 1) r.slowest late.1 else late.1
    let l := s.ledger m
    let s1 := s.setLedger m { l with starts := l.starts + b2n late.2.1, campaigns := l.campaigns + b2n late.2.2 }
    mastSeen m (s1.setMast m (mastGate d z))

/-- MAST_EVALUATION (R231): every enabled Mast once per scan cycle, after the cycle's fronts. -/
def mastEvaluation (s : State) : State :=
  if !s.up || !s.scan.frontsDone || s.scan.mastDone then s else
    let s1 := forAll (s.enabled 0x04) mastEvaluate s
    { s1 with scan := { s1.scan with mastDone := true } }.setRdy 13

/-! ## The timed check and the ledger (R231, R235) -/

/-- Tariff band `back` seconds ago: 0 to 3, or 4 when untimed (R235). -/
def bandOf (s : State) (d : Bytes) (back : Nat) : Nat :=
  match s.tt.offset with
  | none => 4
  | some off =>
    let sec : Int := ((s.optime : Int) + off) / 1000 - back
    let w := ((sec / 86400 + 5) % 7).toNat
    let i := (sec % 86400).toNat / 1800
    let base := if bit (fld d 220 1) w then 208 else 196
    bits (fld d (base + i / 4) 1) (2 * (i % 4)) 2

/-- Add to an entry of a list. -/
def addAt (l : List Nat) (i v : Nat) : List Nat := l.set i (l.getD i 0 + v)

/-- Fans that run: gate open, no fault, not overridden (R235). -/
def fansRunning (s : State) (m : Nat) : Nat :=
  let d := s.md m
  ((List.range (mastFans d)).filter (fun j =>
    let k := dkey 0x0A (fld d (8 + j) 1)
    bit (s.mast m).gates j && (s.fan (keyIdx k)).fault == 0 && !s.overridden k)).length

/-- The second that ends now is booked (R235). -/
def bookSecond (m : Nat) (s : State) : State :=
  let n := fansRunning s m
  let b := bandOf s (s.md m) 1
  let l := s.ledger m
  let x := s.mast m
  let l1 := if n = 0 then l else { l with runS := addAt l.runS b 1, fanS := addAt l.fanS b n }
  s.setLedger m (if x.st = 2 || x.st = 3 then { l1 with campaignS := l1.campaignS + 1 } else l1)

/-- One Mast's timed check (R231): between a start and the first evaluation the gates hold (R238). -/
def mastCheck (m : Nat) (s : State) : State :=
  let s1 := bookSecond m s
  let x := s1.mast m
  if x.fresh then mastSeen m s1 else
    let d := s1.md m
    let y := (mastEarly d (s1.mastEnv m) { x with gaps := x.gaps.map (satInc 65535) }).1
    mastSeen m (s1.setMast m (mastGate d y))

/-- MAST_TIMED_CHECK (R231): once a second, on OPTIME. -/
def mastTimedCheck (s : State) : State :=
  if !s.up || !s.rdy 17 || !s.due ((s.masts.checkS + 1) * 1000000) then s else
    let s1 := forAll (s.enabled 0x04) mastCheck s
    { s1 with masts := { s1.masts with checkS := (s.aon.nowUs + 249) / 1000000 } }

/-- The ledger is written to the memory die (R235, R362). -/
def saveLedger (s : State) : State :=
  { s with masts := { s.masts with saved := s.masts.led, savedAt := s.optime, saveUs := s.aon.nowUs } }

/-- LEDGER_SAVE (R235): every 60 s. -/
def ledgerSave (s : State) : State :=
  if !s.up || !s.rdy 17 || !s.due (s.masts.saveUs + 60000000) then s else saveLedger s

/-! ## Opcodes -/

/-- One item of MAST_MODE (R226): a force asked of a LOCKED Mast never runs while the land is active. -/
def mastItem (c : Cmd) (i : Nat) (s : State) : State × Nat :=
  let it := cut c.payload (4 + 8 * i) 8
  let k := fld it 0 4
  let m := keyIdx k
  let mode := fld it 4 1
  let g := itemGate c k true s
  if g ≠ 0 then (s, g)
  else if !s.en 0x04 m then (s, 0x0403)
  else
    let x := s.mast m
    let camp := (mode = 1 || mode = 2) && mode ≠ s.mastMode m
    let s1 := { s with masts := { s.masts with mode := Tbl.wr 0 s.masts.mode m mode } }
    let s2 := if camp then s1.setLedger m { s1.ledger m with campaignS := 0 } else s1
    let x1 : Mast := { x with
      campCycle := if camp then s.scan.cycle else x.campCycle,
      newMode := x.newMode || ((x.st = 4 || x.maint) && (camp || mode = 3)),
      lockItem := x.lockItem || (x.st = 6 && !(s.die 1).sense),
      forceMin := if fld it 6 2 = 0 then x.forceMin else if x.st = 6 && (s.die 1).sense then 0 else fld it 6 2 }
    (commitItem k c.jseq c.sess c.role (s2.setMast m x1), 0)

/-- MAST_MODE. -/
def runMastMode (c : Cmd) (s : State) : State × Res :=
  let r := runItems (fld c.payload 0 2) (mastItem c) s
  (r.1, Res.multi r.2 [])

/-- A Mast's 64-byte record (R237), at its reset values before the first evaluation or timed check. -/
def mastRecord (s : State) (m : Nat) : Bytes :=
  (s.mast m).record.getD (le 4 (dkey 0x04 m) ++ zeros 6 ++ leInt 2 (-32768) ++ le 2 0xFFFF ++ le 2 0xFFFF ++ leInt 2 (-32768)
    ++ le 2 0xFFFF ++ zeros 44)

/-- MAST_READ (R237). -/
def runMastRead (c : Cmd) (s : State) : State × Res := (s, readRecords c (fun k => mastRecord s (keyIdx k)))

/-- The band code of a read: 0xFF when untimed (R236). -/
def bandCode (s : State) (m : Nat) : Byte :=
  let b := bandOf s (s.md m) 0
  BitVec.ofNat 8 (if b = 4 then 0xFF else b)

/-- A ledger record's 96 bytes (R236). -/
def ledgerRecord (s : State) (m : Nat) : Bytes :=
  let l := s.ledger m
  le 4 (dkey 0x04 m) ++ [bandCode s m] ++ zeros 3 ++ (l.runS.take 4).flatMap (le 4) ++ le 4 (l.runS.getD 4 0) ++ le 4 l.starts
    ++ (l.fanS.take 4).flatMap (le 8) ++ le 8 (l.fanS.getD 4 0) ++ le 4 l.campaignS ++ le 4 l.campaigns
    ++ le 6 s.masts.savedAt ++ zeros 10

/-- LEDGER_READ (R236). -/
def runLedgerRead (c : Cmd) (s : State) : State × Res :=
  let r := readRecords c (fun k => ledgerRecord s (keyIdx k))
  (s, { r with data := le 6 s.optime ++ zeros 2 ++ [bandCode s (keyIdx (fld c.payload 0 4))] ++ zeros 7 ++ r.data })

/-! ## Starts and changes (R235, R238) -/

/-- Masts at a start of the control die: each waits for its first evaluation with the gates its fans' keepers show. -/
def startMasts (s : State) : State :=
  let one (t : Tbl Mast) (m : Nat) : Tbl Mast :=
    let d := s.md m
    let g := (List.range (mastFans d)).foldl (fun a j =>
      if (s.out (dkey 0x0A (fld d (8 + j) 1))).row5 = 0 then a else a + 2 ^ j) 0
    Tbl.wr Mast.dflt t m { Mast.dflt with gates := g, maintAt := s.aon.nowUs, at_ := s.aon.nowUs }
  { s with masts := { s.masts with m := (s.enabled 0x04).foldl one [], led := s.masts.saved, saveUs := s.aon.nowUs,
                                   checkS := s.aon.nowUs / 1000000 } }.setRdy 17

/-- A Mast at an activation (R138, R238): a newly enabled one begins in IDLE with MIN_STOP met. -/
def mastActivate (old new : Bytes) (m : Nat) (s : State) : State :=
  let was := bit (fld old 0 1) 0
  let now := bit (fld new 0 1) 0
  if was && now then
    let x := s.mast m
    s.setMast m { x with n := min x.n (mastFans new), gates := x.gates % 2 ^ mastFans new }
  else if now then s.setMast m { Mast.dflt with fresh := false, maintAt := s.aon.nowUs, at_ := s.aon.nowUs }
  else s.setMast m Mast.dflt

/-! ## Meanings -/

/-- MAST_EVALUATION (R231). -/
def execMastEvaluation (s : State) : Host.Outcome State Fault Refusal := .next (mastEvaluation s)
/-- MAST_TIMED_CHECK (R231). -/
def execMastTimedCheck (s : State) : Host.Outcome State Fault Refusal := .next (mastTimedCheck s)
/-- LEDGER_SAVE (R235). -/
def execLedgerSave (s : State) : Host.Outcome State Fault Refusal := .next (ledgerSave s)

end Sys2Proof.Machine
end

