-- ==== Sys2Proof/Machine/Dryers.lean ====
section
/-! DEFINITION. Dryers (chapter 10): inputs, permits, the state table, batch and continuous sequences, faults and
their opcodes. -/
namespace Sys2Proof.Machine

/-- Committed MODE: 0 OFF, 1 BATCH, 2 CONTINUOUS (R243). -/
def State.dryMode (s : State) (i : Nat) : Nat := Tbl.rd 0 s.dryers.mode i % 256
/-- AUTO_CYCLE as committed. -/
def State.dryAuto (s : State) (i : Nat) : Bool := bit (Tbl.rd 0 s.dryers.mode i / 256) 0

/-- What an evaluation of a dryer reads (R242). -/
structure DryEnv where
  now : Nat
  /-- OPTIME, ms. -/
  ms : Nat
  mode : Nat
  auto : Bool
  silent : Bool
  full : Bool
  empty : Bool
  hReady : Bool
  hFault : Bool
  flow : Bool
  estop : Bool
  moist : Option Int
  grain : Option Int
  plenum : Option Int
  plaus : Bool
  heat : Int
  meter : Int
  /-- A named output or a group head's channel reports a fault (R248). -/
  outFault : Bool
  /-- Required inputs that are bad, by descriptor offset (R248). -/
  bad : List Nat
deriving DecidableEq, Repr

/-- The outputs a dryer names (R239): FILL_OUT, DUMP_OUT, ALARM_OUT, blowers and coolers. -/
def dryOutputs (d : Bytes) : List Nat :=
  (([80, 84, 88] ++ (List.range (fld d 2 1)).map (fun j => 96 + 4 * j) ++ (List.range (fld d 3 1)).map (fun j => 120 + 4 * j)).map
    (fun o => fld d o 4)).filter (fun k => k != 0)

/-- The inputs a mode needs (R243), by descriptor offset; the plenum temperature is watched while present (R248). -/
def dryNeeds (d : Bytes) (mode : Nat) : List Nat :=
  match mode with
  | 1 => [8, 16] ++ (if bit (fld d 1 1) 1 then [24] else []) ++ (if bit (fld d 1 1) 2 then [32] else [])
  | 2 => [8, 16, 32]
  | _ => []

/-- The descriptor gives what a mode needs (R243). -/
def dryFit (d : Bytes) (mode : Nat) : Bool :=
  (dryNeeds d mode).all (inPresent d) && (if mode = 1 then fld d 84 4 != 0 else fld d 6 2 != 0xFFFF)

/-- What the dryer reads now. -/
def dryEnv (s : State) (i : Nat) : DryEnv :=
  let d := s.d 0x07 i
  let hg := fld d 4 2
  let mg := fld d 6 2
  let res (g : Nat) : Int := if g = 0xFFFF then 0 else ((s.grp g).result).getD 0
  let chan (g : Nat) : List Nat := if g = 0xFFFF then [] else [s.df 0x05 (s.head g) 120 4].filter (fun k => k != 0)
  let read (off : Nat) : Option Int := if inPresent d off then inValue s d off else none
  { now := s.aon.nowUs, ms := s.optime, mode := s.dryMode i, auto := s.dryAuto i, silent := s.host.silence,
    full := inAsserted s d 8, empty := inAsserted s d 16, hReady := inAsserted s d 48, hFault := inAsserted s d 56,
    flow := inAsserted s d 64, estop := inAsserted s d 72, moist := read 24, grain := read 32, plenum := read 40,
    plaus := mg != 0xFFFF && (s.loop (s.head mg)).fail, heat := res hg, meter := res mg,
    outFault := (dryOutputs d ++ chan hg ++ chan mg).any s.chanFaulted,
    bad := (dryNeeds d (s.dryMode i) ++ [40]).filter (fun o => inPresent d o && (inValue s d o).isNone) }

/-! ## Conditions that hold for a time -/

/-- A temperature or moisture compared in its own units; a bad one compares false. -/
def cmpIn (v : Option Int) (p : Int → Bool) : Bool := match v with | some x => p x | none => false

/-- Discharge is wanted in a state that watches IN_FLOW (R248). -/
def dryWanted (e : DryEnv) (x : Dryer) : Bool := [4, 5, 6, 9].contains x.w.st && (decide (1024 ≤ e.meter) || x.dump)

/-- The conditions by number: 0 full, 1 not full, 2 empty, 3 moisture, 4 END_TEMP, 5 COOL_TEMP, 6 WARM_TEMP, 7 PURGE_TEMP,
8 heat ready, 9 heat not ready, 10 no flow, and 16 + an input's offset for a bad input. -/
def dryConds (d : Bytes) (e : DryEnv) (x : Dryer) : List (Nat × Bool) :=
  [(0, e.full), (1, !e.full), (2, e.empty), (3, cmpIn e.moist (fun v => decide (v ≤ (fld d 140 2 : Int)))),
   (4, cmpIn e.grain (fun v => decide (sfld d 142 2 ≤ v))), (5, cmpIn e.grain (fun v => decide (v ≤ sfld d 144 2))),
   (6, cmpIn e.grain (fun v => decide (sfld d 154 2 ≤ v))), (7, cmpIn e.plenum (fun v => decide (v ≤ sfld d 158 2))),
   (8, e.hReady), (9, !e.hReady), (10, dryWanted e x && !e.flow)]
  ++ [8, 16, 24, 32, 40].map (fun o => (16 + o, e.bad.contains o))

/-- The start of a condition is kept while it holds. -/
def condStep (now : Nat) (t : Tbl Nat) (c : Nat × Bool) : Tbl Nat :=
  Tbl.wr 0 t c.1 (if c.2 then (if Tbl.rd 0 t c.1 = 0 then now + 1 else Tbl.rd 0 t c.1) else 0)

/-- A condition has held for `us` µs. -/
def condHeld (t : Tbl Nat) (now c us : Nat) : Bool := Tbl.rd 0 t c ≠ 0 && decide (Tbl.rd 0 t c + us ≤ now + 1)

/-- A condition has held for CONFIRM_S. -/
def dryHeld (d : Bytes) (e : DryEnv) (x : Dryer) (c : Nat) : Bool := condHeld x.conds e.now c (fld d 132 2 * 1000000)

/-- `n` minutes of OPTIME have passed since the state was entered (R242). -/
def dryPassed (e : DryEnv) (x : Dryer) (n : Nat) : Bool := decide (x.w.entered + n * 60000 ≤ e.ms)

/-! ## Changes of state (R243 to R251) -/

/-- States whose P_HEAT opens (R245). -/
def dryOpens (st : Nat) : Bool := [2, 5, 6, 8, 9].contains st

/-- Enter a state; PREV is cleared. -/
def dryEnter (d : Bytes) (e : DryEnv) (st : Nat) (x : Dryer) : Dryer :=
  if st = x.w.st then x else
    { x with
      w := { x.w with st := st, entered := e.ms, prev := 0, fault := if st = 0 then 0 else x.w.fault }, tailAt := 0,
      conds := Tbl.wr 0 x.conds 15 0,
      blowAt := if fld d 2 1 = 0 && dryOpens st && !dryOpens x.w.st then e.now else x.blowAt }

/-- Enter PAUSED or HEAT_LOST with PREV the present state; what DUMP_TAIL has counted is kept (R251). -/
def dryAside (d : Bytes) (e : DryEnv) (st : Nat) (x : Dryer) : Dryer :=
  let y := dryEnter d e st x
  { y with w := { y.w with prev := x.w.st }, tailHeld := if x.tailAt = 0 then 0 else e.now + 2 - x.tailAt }

/-- OFF calls for a PURGE in this state (R243). -/
def dryOffPurges (x : Dryer) : Bool := x.pHeat != 0 || [3, 8, 9].contains x.w.st

/-- A fault: the first cause is kept (R248). -/
def dryFail (d : Bytes) (e : DryEnv) (cause : Nat) (purge : Bool) (x : Dryer) : Dryer :=
  dryEnter d e (if purge then 10 else 12) { x with w := { x.w with fault := if x.w.fault = 0 then cause else x.w.fault } }

/-- A cause holds now (R244, R249). -/
def dryCauseHolds (d : Bytes) (e : DryEnv) (cause : Nat) : Bool :=
  match cause with
  | 1 => e.estop
  | 2 => e.hFault
  | 7 => inPresent d 64 && decide (1024 ≤ e.meter) && !e.flow
  | 8 => !e.bad.isEmpty
  | 9 => e.outFault
  | _ => false

/-- OFF (R243, R249). -/
def dryOff (d : Bytes) (e : DryEnv) (x : Dryer) : Dryer :=
  match x.w.st with
  | 0 => x
  | 12 => x
  | 10 => if [1, 2, 7, 8, 9].any (dryCauseHolds d e) then x else { x with w := { x.w with fault := 0 } }
  | _ => dryEnter d e (if dryOffPurges x then 10 else 0) x

/-- A run starts (R246, R247, R253). -/
def dryStart (d : Bytes) (e : DryEnv) (x : Dryer) : Dryer :=
  if x.w.st ≠ 0 then x else
    let full := dryHeld d e x 0
    dryEnter d e (if !full then 1 else if e.mode = 2 then 5 else 2)
      { x with w := { x.w with heatMs := 0, fault := 0 }, flags := 0 }

/-- The present phase ends (R246, R247). -/
def dryEnd (d : Bytes) (e : DryEnv) (x : Dryer) : Dryer :=
  match x.w.st with
  | 1 => dryEnter d e (if e.mode = 2 then 5 else 2) x
  | 2 => dryEnter d e 3 x
  | 3 => dryEnter d e 4 x
  | 4 =>
    let y := { x with w := { x.w with batches := satInc 0xFFFFFFFF x.w.batches } }
    if e.auto && e.mode = 1 then dryEnter d e 1 { y with w := { y.w with heatMs := 0 } } else dryEnter d e 0 y
  | _ => x

/-- RESUME (R251): DUMP_TAIL goes on from where it stood, and the blower gap before P_HEAT counts afresh. -/
def dryResume (d : Bytes) (e : DryEnv) (x : Dryer) : Dryer :=
  let prev := x.w.prev
  let home := if dryHeld d e x 1 then 1 else 5
  let dest := match prev with
    | 5 => home
    | 6 => home
    | 7 => home
    | 8 => if e.mode = 2 then home else 2
    | _ => prev
  let y := dryEnter d e dest x
  { y with blowAt := e.now, tailHeld := 0,
           tailAt := if (dest = 4 || dest = 9) && x.tailHeld ≠ 0 then e.now + 2 - x.tailHeld else y.tailAt }

/-- One committed item at an evaluation (R243, R244). -/
def dryItem (d : Bytes) (e : DryEnv) (x : Dryer) (it : DryerItem) : Dryer :=
  if it.action = 0 then (if it.mode = 0 then dryOff d e x else dryStart d e x)
  else if it.st ≠ x.w.st then { x with stepsVoid := satInc 0xFFFF x.stepsVoid }
  else match it.action with
    | 1 => dryEnd d e x
    | 2 => dryAside d e 11 x
    | 3 => dryResume d e x
    | 4 => if dryCauseHolds d e x.w.fault then x else dryEnter d e 0 x
    | _ => dryEnter d e 9 x

/-- An item that rows 1 to 3 of R245 come before: a step whose state the dryer has left is counted (R244). -/
def dryVoid (x : Dryer) (it : DryerItem) : Dryer :=
  if it.action ≠ 0 && it.st ≠ x.w.st then { x with stepsVoid := satInc 0xFFFF x.stepsVoid } else x

/-! ## The rows of R245 -/

/-- The causes of R248 detected now, in code order. -/
def dryCauses (d : Bytes) (e : DryEnv) (x : Dryer) : List Nat :=
  let st := x.w.st
  let runs := st ≠ 0 && st ≠ 12
  [(1, e.estop && st ≠ 0), (2, e.hFault && [2, 5, 6, 8, 9].contains st), (3, st = 8 && dryPassed e x (fld d 166 2)),
   (4, st = 7 && dryPassed e x (fld d 168 2)), (5, st = 1 && fld d 134 2 ≠ 0 && dryPassed e x (fld d 134 2)),
   (6, (st = 4 || st = 9) && dryPassed e x (fld d 152 2)),
   (7, inPresent d 64 && condHeld x.conds e.now 10 (fld d 170 2 * 1000000)),
   (8, runs && e.bad.any (fun o => condHeld x.conds e.now (16 + o) (fld d 172 2 * 1000000))), (9, runs && e.outFault)].filterMap
    (fun c => if c.2 then some c.1 else none)

/-- Rows 6 and 7: HEAT_LOST and STARVED, then the end of the present state; with the FLAGS bit a bound has set. -/
def dryLate (d : Bytes) (e : DryEnv) (x : Dryer) : Dryer × Option Nat :=
  let st := x.w.st
  let held := dryHeld d e x
  let ready := inPresent d 48
  let lost := Tbl.rd 0 x.conds 9 ≠ 0 && decide (max (Tbl.rd 0 x.conds 9 - 1) x.heatAt + fld d 164 2 * 1000000 ≤ e.now)
  let tailed := x.tailAt ≠ 0 && decide (x.tailAt + fld d 150 2 * 1000000 ≤ e.now + 1)
  let bound (b : Nat) (y : Dryer) : Dryer × Option Nat := ({ y with flags := y.flags ||| 2 ^ b }, some b)
  if [2, 5, 6, 9].contains st && ready && x.pHeat ≠ 0 && !e.hReady && lost then (dryAside d e 8 x, none)
  else if st = 8 && held 8 then (dryEnter d e (if x.w.prev = 6 || x.w.prev = 9 then 5 else x.w.prev) x, none)
  else if (st = 5 || st = 6) && held 1 then (dryEnter d e 7 x, none)
  else match st with
    | 1 => (if held 0 then dryEnd d e x else x, none)
    | 2 =>
      let m := fld d 1 1
      let crit := (bit m 0 && decide (fld d 136 2 * 60000 ≤ x.w.heatMs)) || (bit m 1 && held 3) || (bit m 2 && held 4)
      if crit then (dryEnd d e x, none)
      else if fld d 138 2 * 60000 ≤ x.w.heatMs then bound 0 (dryEnd d e x) else (x, none)
    | 3 =>
      if dryPassed e x (fld d 146 2) && (!inPresent d 32 || held 5) then (dryEnd d e x, none)
      else if dryPassed e x (fld d 148 2) then bound 1 (dryEnd d e x) else (x, none)
    | 4 => (if tailed then dryEnd d e x else x, none)
    | 5 =>
      if held 6 then (dryEnter d e 6 x, none)
      else if dryPassed e x (fld d 156 2) then bound 2 (dryEnter d e 6 x) else (x, none)
    | 7 => (if held 0 then dryEnter d e 5 x else x, none)
    | 9 => (if tailed then dryEnter d e 10 x else x, none)
    | 10 =>
      let dest := if x.w.fault = 0 then 0 else 12
      if dryPassed e x (fld d 160 2) && (!inPresent d 40 || held 7) then (dryEnter d e dest x, none)
      else if dryPassed e x (fld d 162 2) then bound 3 (dryEnter d e dest x) else (x, none)
    | _ => (x, none)

/-- Row 5 (R250). -/
def drySilence (d : Bytes) (e : DryEnv) (x : Dryer) : Dryer :=
  if !e.silent then x else
    match bits (fld d 0 1) 3 2 with
    | 1 => if [1, 2, 3, 4, 5, 6, 7, 9].contains x.w.st then dryAside d e 11 x else x
    | 2 => if x.w.st = 10 then x else dryOff d e x
    | _ => x

/-- The rows of R245: the dryer after them, and the FLAGS bit a bound has set. -/
def dryRows (d : Bytes) (e : DryEnv) (causes : List Nat) (x : Dryer) : Dryer × Option Nat :=
  let st := x.w.st
  let early : Option Dryer :=
    if st = 0 && e.estop then some x
    else if causes.contains 1 then some (if st = 12 then x else dryFail d e 1 false x)
    else if st = 10 then none
    else match causes with
      | [] => none
      | c :: _ => some (dryFail d e c (c = 2 || c = 3 || c = 4 || dryOffPurges x) x)
  match early with
  | some y => (y.items.foldl dryVoid y, none)
  | none =>
    let y := x.items.foldl (dryItem d e) x
    if y.w.st ≠ st then (y, none) else
      let z := drySilence d e y
      if z.w.st ≠ st then (z, none) else dryLate d e z

/-! ## Outputs and permits (R241, R245) -/

/-- The outputs and permits of the state the dryer is in now. -/
def dryDrive (d : Bytes) (e : DryEnv) (x : Dryer) : Dryer :=
  let st := x.w.st
  let eff := if st = 8 then x.w.prev else st
  let level := !dryHeld d e x 0
  let blow := [2, 3, 5, 6, 7, 8, 9, 10, 11].contains st || (st = 4 && bit (fld d 0 1) 2)
  let n := fld d 2 1
  let gap := fld d 130 2 * 1000000
  let opened := blow && decide (x.nBlow < n) && (x.nBlow = 0 || decide (x.blowAt + gap ≤ e.now))
  let nBlow := if !blow then 0 else if opened then x.nBlow + 1 else min x.nBlow n
  let blowAt := if opened then e.now else x.blowAt
  let gapOk := nBlow = n && decide (blowAt + gap ≤ e.now)
  let drained := eff = 9 && (!e.full || Tbl.rd 0 x.conds 15 ≠ 0)
  let heat := gapOk && (eff = 2 || eff = 5 || eff = 6 || (eff = 9 && !drained))
  { x with
    fill := if eff = 1 then (if e.mode = 2 then level else true) else (eff = 5 || eff = 6 || eff = 7) && level,
    dump := st = 4, alarm := st = 12 || e.plaus, blow := blow, nBlow := nBlow, blowAt := blowAt,
    cool := [3, 5, 6, 7, 8, 9, 10, 11].contains st, pHeat := if heat then 32767 else 0,
    pMeter := if st = 5 then fld d 176 2 else if st = 6 then 32767 else if st = 9 then fld d 174 2 else 0,
    heatAt := if heat && x.pHeat = 0 then e.now else x.heatAt,
    conds := Tbl.wr 0 x.conds 15 (b2n drained) }

/-- COND of R253. -/
def dryCond (e : DryEnv) : Nat :=
  b2n e.full + 2 * b2n e.empty + 4 * b2n e.hReady + 8 * b2n e.hFault + 16 * b2n e.flow + 32 * b2n e.estop
    + 64 * b2n e.plaus + 128 * b2n e.silent

/-- Bits for the causes recorded while they hold, in condition 14 less 1. -/
def causeBits (l : List Nat) : Nat := l.foldl (fun a c => a ||| 2 ^ c) 0

/-- A temperature held in its range, 0x8000 for no value (R9, R10). -/
def heldTemp (v : Option Int) : Int := match v with | some x => clampI (-32767) 32767 x | none => -32768

/-- One evaluation of a dryer and the records it writes (R242, R245). -/
def dryEvaluate (d : Bytes) (e : DryEnv) (dt : Nat) (x0 : Dryer) : Dryer × List (Nat × Bytes) :=
  let x1 : Dryer := { x0 with
    w := { x0.w with heatMs := if x0.w.st = 2 && x0.pHeat ≠ 0 then x0.w.heatMs + dt else x0.w.heatMs,
                     runMs := if x0.w.st = 6 then x0.w.runMs + dt else x0.w.runMs },
    conds := (dryConds d e x0).foldl (condStep e.now) x0.conds }
  let x2 : Dryer := { x1 with
    tailAt := if (x1.w.st = 4 || x1.w.st = 9) && x1.tailAt = 0 && dryHeld d e x1 2 then e.now + 1 else x1.tailAt }
  let causes := dryCauses d e x2
  let was := Tbl.rd 0 x2.conds 14
  let new := causes.filter (fun c => !bit was c)
  let r := dryRows d e causes x2
  let y := dryDrive d e r.1
  let z : Dryer := { y with
    items := [], cond := dryCond e, heatRes := e.heat, meterRes := e.meter,
    moist := match e.moist with | some v => (clampI 0 10000 v).toNat | none => 0xFFFF, grainT := heldTemp e.grain,
    plenumT := heldTemp e.plenum, evalMs := e.ms, conds := Tbl.wr 0 y.conds 14 (causeBits causes) }
  let st : Byte := BitVec.ofNat 8 x0.w.st
  (z, new.map (fun c => (0x07C1, [BitVec.ofNat 8 c, st]))
    ++ (match r.2 with | some b => [(0x0781, [BitVec.ofNat 8 b, st])] | none => [])
    ++ (if e.plaus && !bit x0.cond 6 then [(0x0782, [BitVec.ofNat 8 z.w.st])] else []))

/-- The gates a dryer takes over at the first evaluation after a warm reset, those its outputs hold, and the permit of its
state (R252). -/
def dryTakeOver (s : State) (i : Nat) (x : Dryer) : Dryer :=
  let d := s.d 0x07 i
  let n := fld d 2 1
  let on (j : Nat) : Bool := (s.out (fld d (96 + 4 * j) 4)).row5 ≠ 0
  let k := ((List.range n).takeWhile on).length
  let y := { x with fresh := false, nBlow := k, blowAt := if k = n then 0 else s.aon.nowUs, dump := x.w.st = 4 }
  { y with pHeat := (dryDrive d (dryEnv s i) y).pHeat }

/-- The save record of a dryer is written (R245, R362). -/
def drySave (i : Nat) (s : State) : State :=
  { s with dryers := { s.dryers with save := Tbl.wr DryerSave.dflt s.dryers.save i (s.dryer i).w } }

/-- A dryer's 64-byte record as an evaluation leaves the dryer (R253). -/
def dryerRecordNow (s : State) (i : Nat) (x : Dryer) : Bytes :=
  let d := s.d 0x07 i
  let m := Tbl.rd 0 s.dryers.mode i
  let gates := b2n x.fill + 2 * b2n x.dump + 4 * b2n x.alarm + 8 * (2 ^ min 6 x.nBlow - 1)
    + 512 * (if x.cool then 2 ^ min 2 (fld d 3 1) - 1 else 0)
  le 4 (dkey 0x07 i) ++ [BitVec.ofNat 8 m, BitVec.ofNat 8 (m / 256), BitVec.ofNat 8 x.w.st, BitVec.ofNat 8 x.w.prev,
      BitVec.ofNat 8 x.w.fault, BitVec.ofNat 8 x.cond]
    ++ le 2 gates ++ le 2 x.pHeat ++ le 2 x.pMeter ++ leInt 2 x.heatRes ++ leInt 2 x.meterRes ++ le 2 x.moist
    ++ leInt 2 x.grainT ++ leInt 2 x.plenumT ++ le 2 x.stepsVoid ++ le 4 ((x.evalMs - x.w.entered) / 1000)
    ++ le 4 (x.w.heatMs / 1000) ++ le 4 x.w.batches ++ le 4 (min 0xFFFFFFFF (x.w.runMs / 1000)) ++ le 4 x.flags
    ++ le 6 x.w.entered ++ zeros 2 ++ zeros 8

/-- BATCHES and RUN_S in the save record, which never decrease (R253). -/
def dryCounters (i : Nat) (s : State) : State :=
  let w := (s.dryer i).w
  let v := Tbl.rd DryerSave.dflt s.dryers.save i
  { s with dryers := { s.dryers with
      save := Tbl.wr DryerSave.dflt s.dryers.save i { v with batches := w.batches, runMs := w.runMs } } }

/-- One dryer's evaluation; a change of state is saved before the outputs latch, and the counters as they are booked. -/
def dryOne (dt i : Nat) (s : State) : State :=
  let x := s.dryer i
  let e := dryEnv s i
  let r := dryEvaluate (s.d 0x07 i) e (if x.fresh then 0 else dt) (if x.fresh then dryTakeOver s i x else x)
  let s0 := s.setDryer i { r.1 with record := some (dryerRecordNow s i r.1) }
  let s1 := forAll r.2 (fun rec st => ttOccur 0 rec.1 (dkey 0x07 i) rec.2 st) s0
  if r.1.w.st ≠ x.w.st || x.fresh then drySave i s1 else dryCounters i s1

/-- DRYER_EVALUATION (R242): at every 400th tick edge. -/
def dryerEvaluation (s : State) : State :=
  if !s.up || !s.rdy 4 || s.aon.nowUs / 100000 = s.dryers.evalAt / 100000 then s else
    let dt := (s.aon.nowUs - s.dryers.evalAt) / 1000
    let s1 := forAll (s.enabled 0x07) (dryOne dt) s
    { s1 with dryers := { s1.dryers with evalAt := s.aon.nowUs } }.setRdy 14

/-- DRYER_SAVE_REFRESH (R245): every 10 s. -/
def dryerSaveRefresh (s : State) : State :=
  if !s.up || !s.rdy 14 || !s.due (s.dryers.saveAt + 10000000) then s else
    let s1 := forAll (s.enabled 0x07) drySave s
    { s1 with dryers := { s1.dryers with saveAt := s.aon.nowUs } }

/-! ## Opcodes -/

/-- DRYER_MODE (R243). -/
def runDryerMode (c : Cmd) (s : State) : State × Res :=
  let k := fld c.payload 0 4
  let i := keyIdx k
  let mode := fld c.payload 4 1
  let x := s.dryer i
  let d := s.d 0x07 i
  let g := itemGate c k true s
  let st := x.w.st
  let commit (it : List DryerItem) : State × Res :=
    let s1 := { s with dryers := { s.dryers with mode := Tbl.wr 0 s.dryers.mode i (mode + 256 * fld c.payload 5 1) } }
    (commitItem k c.jseq c.sess c.role (s1.setDryer i { x with items := x.items ++ it }), Res.ok [])
  if g ≠ 0 then (s, Res.of g [])
  else if !s.en 0x07 i then (s, Res.conflict)
  else if mode = 0 then commit [{ action := 0, mode := 0, st := st }]
  else if st = 12 then (s, Res.conflict)
  else if st ≠ 0 then (if mode = s.dryMode i then commit [] else (s, Res.conflict))
  else if !dryFit d mode then (s, Res.conflict)
  else if inAsserted s d 72 then (s, Res.of 0x0600 [])
  else commit [{ action := 0, mode := mode, st := st }]

/-- States in which an ACTION is valid (R244). -/
def dryValid (action st : Nat) : Bool :=
  match action with
  | 1 => [1, 2, 3, 4].contains st
  | 2 => [1, 2, 3, 4, 5, 6, 7, 9].contains st
  | 3 => st == 11
  | 4 => st == 12
  | 5 => [5, 6, 7].contains st
  | _ => false

/-- DRYER_STEP (R244). -/
def runDryerStep (c : Cmd) (s : State) : State × Res :=
  let k := fld c.payload 0 4
  let i := keyIdx k
  let a := fld c.payload 4 1
  let x := s.dryer i
  let g := itemGate c k true s
  if g ≠ 0 then (s, Res.of g [])
  else if !s.en 0x07 i || !dryValid a x.w.st || (a = 4 && dryCauseHolds (s.d 0x07 i) (dryEnv s i) x.w.fault) then (s, Res.conflict)
  else
    (commitItem k c.jseq c.sess c.role (s.setDryer i { x with items := x.items ++ [{ action := a, mode := 0, st := x.w.st }] }),
      Res.ok [])

/-- A dryer's 64-byte record (R253): that of the latest evaluation, else reset values beside BATCHES and RUN_S, which never
decrease. -/
def dryerRecord (s : State) (i : Nat) : Bytes :=
  let w := if s.en 0x07 i then (s.dryer i).w else Tbl.rd DryerSave.dflt s.dryers.save i
  (s.dryer i).record.getD (le 4 (dkey 0x07 i) ++ zeros 16 ++ le 2 0xFFFF ++ leInt 2 (-32768) ++ leInt 2 (-32768) ++ zeros 10
    ++ le 4 w.batches ++ le 4 (min 0xFFFFFFFF (w.runMs / 1000)) ++ zeros 20)

/-- DRYER_READ (R253). -/
def runDryerRead (c : Cmd) (s : State) : State × Res := (s, readRecords c (fun k => dryerRecord s (keyIdx k)))

/-! ## Starts and changes (R252) -/

/-- The state taken from a save record. -/
def dryRestore (warm : Bool) (ms : Nat) (w : DryerSave) : DryerSave :=
  if warm || w.st = 0 || w.st = 11 || w.st = 12 then w else { w with st := 11, prev := w.st, entered := ms }

/-- Dryers at a start of the control die. -/
def startDryers (warm : Bool) (s : State) : State :=
  let one (t : Tbl Dryer) (i : Nat) : Tbl Dryer :=
    Tbl.wr Dryer.dflt t i
      { Dryer.dflt with fresh := true, w := dryRestore warm s.optime (Tbl.rd DryerSave.dflt s.dryers.save i) }
  { s with dryers := { s.dryers with d := (s.enabled 0x07).foldl one [], evalAt := s.aon.nowUs, saveAt := s.aon.nowUs } }

/-- A dryer at an activation: a newly enabled one is IDLE with its counters, a disabled one stands IDLE. -/
def dryActivate (old new : Bytes) (i : Nat) (s : State) : State :=
  let was := bit (fld old 0 1) 0
  let now := bit (fld new 0 1) 0
  let sv := Tbl.rd DryerSave.dflt s.dryers.save i
  let w := { (if now || s.dryer i = Dryer.dflt then sv else (s.dryer i).w) with st := 0, prev := 0, fault := 0, entered := s.optime }
  if was = now then s
  else
    let s1 := { s with dryers := { s.dryers with save := Tbl.wr DryerSave.dflt s.dryers.save i w } }
    s1.setDryer i (if now then { Dryer.dflt with w := w } else Dryer.dflt)

/-! ## Meanings -/

/-- DRYER_EVALUATION (R242). -/
def execDryerEvaluation (s : State) : Host.Outcome State Fault Refusal := .next (dryerEvaluation s)
/-- DRYER_SAVE_REFRESH (R245). -/
def execDryerSaveRefresh (s : State) : Host.Outcome State Fault Refusal := .next (dryerSaveRefresh s)

end Sys2Proof.Machine
end

