-- ==== Sys2Proof/Machine/Routes.lean ====
section
/-! DEFINITION. Conveyor elements and routes (chapter 11): claims, the sequencer, interlocks and their opcodes. -/
namespace Sys2Proof.Machine

/-! ## Descriptors (R255, R257) -/

/-- KIND of an element: 1 MOVER, 2 DIVERTER, 3 GATE. -/
def State.elemKind (s : State) (e : Nat) : Nat := s.db 0x09 e 0 1 2
/-- SHARE. -/
def State.elemShare (s : State) (e : Nat) : Bool := s.db 0x09 e 0 3 1 == 1
/-- OUTp of an element; 0 for none. -/
def State.elemOut (s : State) (e p : Nat) : Nat := s.df 0x09 e (16 + 4 * p) 4
/-- A time of an element's descriptor, µs. -/
def State.elemT (s : State) (e off : Nat) : Nat := s.df 0x09 e off 2 * 100000
/-- A DIO proof of an element is present. -/
def State.proofPresent (s : State) (e off : Nat) : Bool := s.df 0x09 e off 1 != 0xFF
/-- A DIO proof of an element is asserted. -/
def State.proof (s : State) (e off : Nat) : Bool := s.proofPresent e off && s.dioLand (s.df 0x09 e off 1)
/-- N of a route. -/
def State.routeN (s : State) (r : Nat) : Nat := s.df 0x08 r 1 1
/-- Element number at a position of ELEM. -/
def State.elemAt (s : State) (r j : Nat) : Nat := s.df 0x08 r (16 + 2 * j) 1
/-- Diverter position at a position of ELEM. -/
def State.posAt (s : State) (r j : Nat) : Nat := s.db 0x08 r (17 + 2 * j) 0 2
/-- Kind of the element at a position. -/
def State.kindAt (s : State) (r j : Nat) : Nat := s.elemKind (s.elemAt r j)
/-- Positions of a route in flow order. -/
def State.routePos (s : State) (r : Nat) : List Nat := List.range (s.routeN r)
/-- Position of an element in a route. -/
def State.posOf (s : State) (r e : Nat) : Option Nat := (s.routePos r).find? (fun j => s.elemAt r j == e)

/-- A route runs: not STOPPED and not FAULT. -/
def Route.runs (x : Route) : Bool := x.w.st != 0 && x.w.st != 7

/-- A route holds its reservations (R258, R259): owned or orphaned, or not yet stopped. -/
def State.reserves (s : State) (r : Nat) : Bool := (s.ownOf (dkey 0x08 r)).own != 0 || (s.route r).runs

/-- The running routes that name an element, with its position in each. -/
def State.users (s : State) (e : Nat) : List (Nat × Nat) :=
  ((s.enabled 0x08).filter (fun r => (s.route r).runs)).filterMap (fun r => (s.posOf r e).map (fun j => (r, j)))

/-- A route holds a reservation of the element, enabled or not (R258, R259). -/
def State.reserved (s : State) (e : Nat) : Bool := (List.range 64).any (fun r => s.reserves r && (s.posOf r e).isSome)

/-! ## Elements (R255, R264) -/

/-- Conditions of an element that must hold for a time, by cause (R264). -/
def elemConds (s : State) (e : Nat) (us : List (Nat × Nat)) (x : Elem) : List (Nat × Bool) :=
  let d := s.d 0x09 e
  let on := bit x.out 0
  let inState (l : List Nat) : Bool := us.any (fun u => l.contains (s.route u.1).w.st)
  [(3, on && s.elemKind e = 1 && x.proven && inPresent d 32 && !inAsserted s d 32),
   (4, inAsserted s d 40 && (on || inState [1, 2, 4, 6])), (5, inAsserted s d 48 && (on || inState [1, 2])),
   (6, on && s.elemKind e = 1 && s.proofPresent e 60 && !s.proof e 60),
   (8, s.elemKind e = 2 && x.proven && (match x.target with | some p => !s.proof e (56 + p) | none => false))]

/-- What the inputs prove of an element, and its timers (R255, R260, R261, R263). -/
def elemRead (e : Nat) (s : State) : State :=
  let x := s.elem e
  let d := s.d 0x09 e
  let now := s.aon.nowUs
  let us := s.users e
  if us.isEmpty && !s.reserved e then s.setElem e Elem.dflt else
    let move := s.elemT e 8
    let y : Elem := match s.elemKind e, x.target with
      | 1, _ =>
        let seen := if inPresent d 32 then inAsserted s d 32 else decide (x.onAt + s.elemT e 2 ≤ now)
        { x with proven := bit x.out 0 && (x.proven || seen) }
      | 2, some p => if (x.out ≠ 0 || us.isEmpty) && s.proof e (56 + p) then { x with out := 0, proven := true } else x
      | 3, some 1 =>
        { x with proven := x.proven || (if s.proofPresent e 57 then s.proof e 57 else decide (x.onAt + move ≤ now)) }
      | 3, some _ =>
        { x with proven := x.proven || (if s.proofPresent e 56 then s.proof e 56 else decide (x.offAt + move ≤ now)) }
      | _, _ => x
    s.setElem e { y with conds := (elemConds s e us y).foldl (condStep now) y.conds }

/-- The causes that hold on an element, in code order (R264). -/
def elemCauses (s : State) (e : Nat) : List Nat :=
  let x := s.elem e
  let d := s.d 0x09 e
  let now := s.aon.nowUs
  let on := bit x.out 0
  let move := s.elemT e 8
  let late := match s.elemKind e, x.target with
    | 2, some _ => x.out ≠ 0 && decide (x.onAt + move ≤ now)
    | 3, some 1 => s.proofPresent e 57 && !x.proven && decide (x.onAt + move ≤ now)
    | 3, some _ => s.proofPresent e 56 && !x.proven && decide (x.offAt + move ≤ now)
    | _, _ => false
  let outs := ((List.range 4).map (s.elemOut e)).filter (fun k => k != 0)
  let forced := (List.range 4).any (fun p => bit x.out p && s.overridden (s.elemOut e p) && (s.out (s.elemOut e p)).sel == 0)
  [(2, s.elemKind e = 1 && on && !x.proven && inPresent d 32 && decide (x.onAt + s.elemT e 2 ≤ now)),
   (3, condHeld x.conds now 3 (s.elemT e 6)), (4, condHeld x.conds now 4 (s.elemT e 10)),
   (5, condHeld x.conds now 5 (s.elemT e 12)), (6, condHeld x.conds now 6 500000), (7, late),
   (8, condHeld x.conds now 8 500000), (9, outs.any s.chanFaulted), (10, forced)].filterMap
    (fun c => if c.2 then some c.1 else none)

/-! ## One route's sequence (R260 to R266) -/

/-- The route enters a state; entries to RUNNING and FEED_HOLD are counted (R269). -/
def routeEnter (ms st : Nat) (x : Route) : Route :=
  if st = x.w.st then x else
    { x with
      w := { x.w with
        st := st, entered := ms, starts := if st = 3 then satInc 0xFFFFFFFF x.w.starts else x.w.starts,
        holds := if st = 4 then satInc 0xFFFFFFFF x.w.holds else x.w.holds,
        fault := if st = 0 then 0 else x.w.fault, pos := if st = 0 then 0xFF else x.w.pos },
      holdMs := if st = 4 then ms else x.holdMs }

/-- The element at a position is switched on by the route. -/
def routeOn (j : Nat) (x : Route) : Route :=
  { x with on := x.on ||| 2 ^ j, stopped := x.stopped - (x.stopped &&& 2 ^ j), stopAt := Tbl.wr 0 x.stopAt j 0 }

/-- The element at a position is switched off by the route; a gate is yet to close. -/
def routeOff (j : Nat) (x : Route) : Route := { x with on := x.on - (x.on &&& 2 ^ j) }

/-- The element at a position counts as stopped now (R263). -/
def routeStopped (now j : Nat) (x : Route) : Route :=
  { routeOff j x with stopped := x.stopped ||| 2 ^ j, stopAt := Tbl.wr 0 x.stopAt j (now + 1) }

/-- Every gate of the route closes. -/
def closeGates (s : State) (r : Nat) (x : Route) : Route :=
  (s.routePos r).foldl (fun y j => if s.kindAt r j = 3 then routeOff j y else y) x

/-- Every output of the route off. -/
def routeAllOff (x : Route) : Route := { x with on := 0, stopped := 0xFFFFFFFF, stopAt := [], runOut := false }

/-- ROUTE_START at its evaluation (R261 step 1). -/
def routeStart (s : State) (r : Nat) (x : Route) : Route :=
  let y := { routeAllOff x with faulted := 0, gapOn := false, w := { x.w with fault := 0, pos := 0xFF } }
  let send (y : Route) (j : Nat) : Route :=
    if s.kindAt r j = 2 && !s.proof (s.elemAt r j) (56 + s.posAt r j) then { y with on := y.on ||| 2 ^ j } else y
  routeEnter s.optime 1 ((s.routePos r).foldl send y)

/-- A normal stop begins (R263). -/
def routeStop (s : State) (r : Nat) (x : Route) : Route :=
  if [1, 2, 3, 4].contains x.w.st then
    let y := closeGates s r x
    let z := (s.routePos r).foldl (fun z j => if s.kindAt r j = 2 then routeOff j z else z) y
    routeEnter s.optime 5 z
  else x

/-- A committed item (R260, R261, R263). -/
def routeItem (s : State) (r : Nat) (x : Route) (it : Nat) : Route :=
  match it with
  | 0 => if x.w.st = 0 && (s.ownOf (dkey 0x08 r)).own ≠ 0 then routeStart s r x else x
  | 1 => routeStop s r x
  | 2 => if x.runs then routeEnter s.optime 0 (routeAllOff x) else x
  | _ => if x.w.st = 7 then routeEnter s.optime 0 x else x

/-- The route reacts to a fault at position `k` (R265): the first cause is kept. -/
def routeFault (s : State) (r : Nat) (x : Route) (f : Nat × Nat) : Route :=
  let k := f.1
  let now := s.aon.nowUs
  let w := if x.w.fault = 0 then { x.w with fault := f.2, pos := k } else x.w
  let cut (y : Route) (j : Nat) : Route :=
    if k < j then y
    else if s.kindAt r j = 1 then (if bit y.on j || (j = k && Tbl.rd 0 y.stopAt j = 0) then routeStopped now j y else y)
    else if s.kindAt r j = 2 then (if j = k then routeStopped now j y else routeOff j y)
    else if j = k && !bit y.on j && bit y.stopped j && Tbl.rd 0 y.stopAt j = 0 then routeStopped now j y else y
  let y := (s.routePos r).foldl cut (closeGates s r { x with w := w, faulted := x.faulted ||| 2 ^ k, runOut := false })
  routeEnter s.optime 6 ((s.routePos r).foldl (fun z j => if s.kindAt r j = 2 then routeOff j z else z) y)

/-- Positions the route watches (R264 to R266): all but those whose fault it has met, and an element it has stopped that
ran on for another route as the evaluation began. -/
def routeWatches (edge s : State) (r j : Nat) (x : Route) : Bool :=
  x.runs && !bit x.faulted j && (s.kindAt r j = 2 || !bit x.stopped j || x.w.st ≤ 2
    || !(edge.users (s.elemAt r j)).any (fun u => u.1 != r && bit (edge.route u.1).on u.2))

/-- The faults a route meets: position and cause, in flow order. -/
def routeFaults (edge s : State) (r : Nat) (x : Route) : List (Nat × Nat) :=
  (s.routePos r).flatMap (fun j => if routeWatches edge s r j x then (elemCauses s (s.elemAt r j)).map (fun c => (j, c)) else [])

/-- The order of starting (R261): movers, then gates, each from the last to the first. -/
def startOrder (s : State) (r : Nat) : List Nat :=
  let ps := (s.routePos r).reverse
  ps.filter (fun j => s.kindAt r j == 1) ++ ps.filter (fun j => s.kindAt r j == 3)

/-- The element at a position is on and proven for this route. -/
def provenAt (s : State) (r j : Nat) (x : Route) : Bool :=
  let e := s.elem (s.elemAt r j)
  match s.kindAt r j with
  | 1 => bit x.on j && e.proven
  | 2 => !bit x.on j && x.runs && e.proven && e.target == some (s.posAt r j)
  | _ => bit x.on j && e.proven && e.target == some 1

/-- One pass of starting (R261 steps 2 to 4). -/
def startStep (s : State) (r : Nat) (x : Route) : Route :=
  let order := startOrder s r
  let now := s.aon.nowUs
  let done := order.takeWhile (fun j => bit x.on j)
  let wait := match done.getLast? with | some j => !provenAt s r j x | none => false
  if wait then { x with gapOn := false, w := { x.w with step := (done.getLast?).getD 0xFF } }
  else match (order.drop done.length).head? with
    | none => routeEnter s.optime 3 { x with gapOn := false, runOut := true, w := { x.w with step := 0xFF } }
    | some j =>
      let go (y : Route) : Route := routeOn j { y with gapOn := false, w := { y.w with step := j } }
      if done.isEmpty then go x
      else
        let y := if x.gapOn then x else { x with gapOn := true, gapAt := now }
        if y.gapAt + s.df 0x08 r 2 2 * 100000 ≤ now then go y else { y with w := { y.w with step := j } }

/-- PLUG or ALIGN asserted on an element blocks a start (R264). -/
def startBlocked (s : State) (r : Nat) : Bool :=
  (s.routePos r).any (fun j => let d := s.d 0x09 (s.elemAt r j); inAsserted s d 40 || inAsserted s d 48)

/-- A gate the route has closed counts as stopped (R263, R265, R266). One whose fault the route has met is taken as stopped
by its time, so that what lies after it runs empty (R265). -/
def gateStopped (s : State) (r j : Nat) (x : Route) : Bool :=
  let e := s.elemAt r j
  let g := s.elem e
  let timed := decide (g.offAt + s.elemT e 8 ≤ s.aon.nowUs)
  if bit g.out 0 then (s.users e).any (fun u => u.1 != r && bit (s.route u.1).on u.2)
  else if s.proofPresent e 56 then s.proof e 56 || (bit x.faulted j && timed) else timed

/-- Position upstream of `j` for the stop order (R263, R265). -/
def upstream (s : State) (r j : Nat) (x : Route) : Option Nat :=
  (List.range j).reverse.find? (fun u =>
    Tbl.rd 0 x.stopAt u ≠ 0 || (s.kindAt r u != 2 && !bit x.stopped u))

/-- Closed gates are taken as stopped. -/
def trackGates (s : State) (r : Nat) (x : Route) : Route :=
  (s.routePos r).foldl (fun y j =>
    if s.kindAt r j = 3 && !bit y.on j && !bit y.stopped j && gateStopped s r j y then routeStopped s.aon.nowUs j y else y) x

/-- One pass of stopping in flow order (R263, R265): `last` is the state it leads to. -/
def stopStep (last : Nat) (s : State) (r : Nat) (x : Route) : Route :=
  let now := s.aon.nowUs
  let pass (y : Route) (j : Nat) : Route :=
    if s.kindAt r j ≠ 1 || !bit y.on j then y
    else match upstream s r j y with
      | none => routeStopped now j y
      | some u =>
        let t := Tbl.rd 0 y.stopAt u
        if t ≠ 0 && decide (t + s.elemT (s.elemAt r j) 4 ≤ now + 1) then routeStopped now j y else y
  let y := (s.routePos r).foldl pass (trackGates s r x)
  match (s.routePos r).find? (fun j => s.kindAt r j == 1 && bit y.on j) with
  | some j => { y with w := { y.w with step := j } }
  | none => routeEnter s.optime last { routeAllOff y with w := { y.w with step := 0xFF } }

/-- The sequence of a route after items and faults (R261 to R263). -/
def routeSequence (s : State) (r : Nat) (x : Route) : Route :=
  let now := s.aon.nowUs
  let hold := s.df 0x08 r 4 2 * 100000
  let fullFor := x.fullAt ≠ 0 && decide (x.fullAt + hold ≤ now + 1)
  let freeFor := x.notFullAt ≠ 0 && decide (x.notFullAt + hold ≤ now + 1)
  let start (y : Route) : Route :=
    if startBlocked s r then y else iter (fun z => if z.w.st = 2 then startStep s r z else z) 33 y
  match x.w.st with
  | 1 =>
    let y := (s.routePos r).foldl (fun y j =>
      let e := s.elem (s.elemAt r j)
      if s.kindAt r j = 2 && bit y.on j && e.proven && e.target == some (s.posAt r j) && s.proof (s.elemAt r j) (56 + s.posAt r j)
      then routeOff j y else y) x
    if (s.routePos r).any (fun j => s.kindAt r j = 2 && bit y.on j) || startBlocked s r then y
    else start (routeEnter s.optime 2 y)
  | 2 => start x
  | 3 =>
    if !fullFor then x
    else if s.db 0x08 r 0 2 1 = 1 then stopStep 0 s r (routeStop s r x)
    else routeEnter s.optime 4 { closeGates s r x with gapOn := true, gapAt := 0 }
  | 4 =>
    let max := s.df 0x08 r 6 2
    if max ≠ 0 && decide (x.holdMs + max * 60000 ≤ s.optime) then stopStep 0 s r (routeStop s r x)
    else
      let y := trackGates s r x
      if freeFor then iter (fun z => if z.w.st = 4 then startStep s r z else z) 33 y
      else if fullFor then { closeGates s r y with gapOn := true, gapAt := 0 }
      else y
  | 5 => stopStep 0 s r x
  | 6 => stopStep 7 s r x
  | _ => x

/-- A start rebuilds a route at its first evaluation (R268): outputs found on stay on, and HOLD_MAX counts afresh. -/
def routeRebuild (s : State) (r : Nat) (x : Route) : Route :=
  if !x.runs then { x with fresh := false } else
    let now := s.aon.nowUs
    let one (y : Route) (j : Nat) : Route :=
      let on := bit (s.elem (s.elemAt r j)).out 0
      let k := s.kindAt r j
      if k = 2 then (if x.w.st = 1 && !s.proof (s.elemAt r j) (56 + s.posAt r j) then { y with on := y.on ||| 2 ^ j } else y)
      else if on && (k = 1 || x.w.st = 2 || x.w.st = 3 || x.w.st = 4) then routeOn j y
      else if k = 3 && [4, 5, 6].contains x.w.st then { y with stopped := y.stopped - (y.stopped &&& 2 ^ j) }
      else if x.w.st = 5 || x.w.st = 6 then routeStopped now j y
      else y
    let y := (s.routePos r).foldl one { routeAllOff x with fresh := false, holdMs := s.optime }
    { y with runOut := x.w.st = 3 || x.w.st = 4 }

/-- Bits of the positions that satisfy a test. -/
def maskOf (ps : List Nat) (p : Nat → Bool) : Nat := ps.foldl (fun a j => if p j then a + 2 ^ j else a) 0

/-- One evaluation of a route and the faults it records (R260, R264, R265, R267); `edge` is the state as the sequencer's
pass began. -/
def routeEvaluate (edge s : State) (r dt : Nat) (x0 : Route) : Route × List (Nat × Nat) :=
  let d := s.d 0x08 r
  let now := s.aon.nowUs
  let full := inAsserted s d 80
  let x1 : Route := { x0 with
    w := { x0.w with runMs := if x0.w.st = 3 || x0.w.st = 4 then x0.w.runMs + dt else x0.w.runMs },
    fullAt := if full then (if x0.fullAt = 0 then now + 1 else x0.fullAt) else 0,
    notFullAt := if full then 0 else (if x0.notFullAt = 0 then now + 1 else x0.notFullAt) }
  let x2 := x1.items.foldl (routeItem s r) x1
  let freed := (s.ownOf (dkey 0x08 r)).own = 0 || (s.host.silence && bit (fld d 0 1) 1)
  let x3 := if freed then routeStop s r x2 else x2
  let estop := inAsserted s d 88 && x3.runs
  let fs := if estop then [] else routeFaults edge s r x3
  let x4 := if estop then
      routeEnter s.optime 7 { routeAllOff x3 with w := if x3.w.fault = 0 then { x3.w with fault := 1, pos := 0xFF } else x3.w }
    else fs.foldl (routeFault s r) x3
  let x5 := routeSequence s r x4
  ({ x5 with items := [], runOut := x5.w.st = 3 || x5.w.st = 4,
             proven := maskOf (s.routePos r) (fun j => provenAt s r j x5), evalMs := s.optime },
    (if estop then [(0xFF, 1)] else []) ++ fs)

/-- The save record of a route is written (R260, R362). -/
def routeSave (r : Nat) (s : State) : State :=
  { s with routes := { s.routes with save := Tbl.wr RouteSave.dflt s.routes.save r (s.route r).w } }

/-- One route at an evaluation of the sequencer; its save record, which holds the counters, follows it (R260, R269). -/
def routeOne (edge : State) (dt : Nat) (r : Nat) (s : State) : State :=
  let x := s.route r
  let y := if x.fresh then routeRebuild s r x else x
  let e := routeEvaluate edge s r (if x.fresh then 0 else dt) y
  routeSave r (forAll e.2 (fun f st =>
    ttOccur 0 0x08C1 (dkey 0x08 r)
      ([BitVec.ofNat 8 f.2, BitVec.ofNat 8 f.1] ++ le 2 (if f.1 = 0xFF then 0xFFFF else st.elemAt r f.1)) st) (s.setRoute r e.1))

/-- The outputs of an element from the routes that use it (R255, R266); one that is only reserved drives nothing and keeps
what is proven of it (R260). -/
def elemDrive (e : Nat) (s : State) : State :=
  let us := s.users e
  let x := s.elem e
  let now := s.aon.nowUs
  let want := us.filter (fun u => bit (s.route u.1).on u.2)
  match us with
  | [] =>
    if !s.reserved e then s.setElem e Elem.dflt
    else if x.out = 0 then s
    else if s.elemKind e = 2 then s.setElem e { x with out := 0 }
    else s.setElem e { x with out := 0, offAt := now, proven := false, target := x.target.map (fun _ => 0) }
  | u :: _ =>
    match s.elemKind e with
    | 1 =>
      if !want.isEmpty then (if bit x.out 0 then s else s.setElem e { x with out := 1, onAt := now, proven := false, conds := Tbl.wr 0 x.conds 6 (now + 1) })
      else if bit x.out 0 then s.setElem e { x with out := 0, offAt := now, proven := false } else s
    | 2 =>
      match want with
      | w :: _ =>
        let p := s.posAt w.1 w.2
        if x.target = some p && (x.out ≠ 0 || (x.proven && s.proof e (56 + p))) then s
        else s.setElem e { x with target := some p, out := 2 ^ p, onAt := now, proven := false }
      | [] =>
        let p := s.posAt u.1 u.2
        if x.target = some p then (if x.out = 0 then s else s.setElem e { x with out := 0 })
        else s.setElem e { x with target := some p, out := 0, proven := s.proof e (56 + p) }
    | _ =>
      if !want.isEmpty then
        (if x.target = some 1 && bit x.out 0 then s
         else s.setElem e { x with out := 1, target := some 1, onAt := if bit x.out 0 then x.onAt else now, proven := false })
      else if bit x.out 0 then s.setElem e { x with out := 0, target := some 0, offAt := now, proven := false } else s

/-- ROUTE_EVALUATION (R260): at every 40th tick edge. -/
def routeEvaluation (s : State) : State :=
  if !s.up || !s.rdy 4 || s.aon.nowUs / 10000 = s.routes.evalAt / 10000 then s else
    let dt := (s.aon.nowUs - s.routes.evalAt) / 1000
    let es := s.enabled 0x09
    let s1 := forAll es elemRead s
    let s2 := forAll (s1.enabled 0x08) (routeOne s1 dt) s1
    let s3 := forAll es elemDrive s2
    { s3 with routes := { s3.routes with evalAt := s.aon.nowUs } }.setRdy 15

/-! ## Opcodes -/

/-- The element that blocks a claim and the route that holds it, enabled or not (R258, R259). -/
def claimBlock (s : State) (r : Nat) : Option (Nat × Nat) :=
  let others := (List.range 64).filter (fun q => q != r && s.reserves q)
  (s.routePos r).findSome? (fun j =>
    let e := s.elemAt r j
    (others.find? (fun q => match s.posOf q e with
      | none => false
      | some i => !(s.elemShare e && (s.elemKind e != 2 || s.posAt q i == s.posAt r j)))).map (fun q => (e, q)))

/-- ROUTE_CLAIM (R258, R259). An Observer owns nothing (R87): a claim whose session has been lowered since it was admitted
fails with CONFLICT (log 62). -/
def runRouteClaim (c : Cmd) (s : State) : State × Res :=
  let k := fld c.payload 0 4
  let r := keyIdx k
  let o := s.ownOf k
  let reply (e q : Nat) : Bytes := le 2 e ++ le 2 q ++ zeros 4
  let none_ := reply 0xFFFF 0xFFFF
  let g := itemGate c k true s
  if g ≠ 0 then (s, Res.of g none_)
  else if fld c.payload 4 1 = 1 then
    if o.own ≠ 0 then (touchObj k c.jseq s, Res.ok none_)
    else if !s.en 0x08 r || decide (s.roleOf c.sess c.role < 2) then (s, Res.of 0x0403 none_)
    else match claimBlock s r with
      | some b => (s, Res.of 0x0403 (reply b.1 b.2))
      | none => (passObj c.jseq c.sess (s.roleOf c.sess c.role) k s, Res.ok none_)
  else if o.own = 0 || (s.route r).runs then (s, Res.of 0x0403 none_)
  else (releaseObj c.jseq k s, Res.ok none_)

/-- Ownership of a start or a stop (R261, R263). -/
def routeGate (c : Cmd) (s : State) : Nat :=
  let k := fld c.payload 0 4
  let g := itemGate c k true s
  if g ≠ 0 then g else if (s.ownOf k).own = 0 || !s.en 0x08 (keyIdx k) then 0x0403 else 0

/-- Commit an item. -/
def routeCommit (c : Cmd) (it : Nat) (s : State) : State × Res :=
  let k := fld c.payload 0 4
  let x := s.route (keyIdx k)
  (commitItem k c.jseq c.sess c.role (s.setRoute (keyIdx k) { x with items := x.items ++ [it] }), Res.ok [])

/-- An output channel of an element of the route reports a fault. -/
def routeOutFault (s : State) (r : Nat) : Bool :=
  (s.routePos r).any (fun j =>
    (((List.range 4).map (s.elemOut (s.elemAt r j))).filter (fun k => k != 0)).any s.chanFaulted)

/-- A fault condition still holds on an element of the route (R263, R264); a diverter that has met MOVE or POSITION holds
it until its position is proven. -/
def routeHolds (s : State) (r : Nat) : Bool :=
  let x := s.route r
  (s.routePos r).any (fun j =>
    let e := s.elemAt r j
    let met := bit x.faulted j || (x.w.pos = j && (x.w.fault = 7 || x.w.fault = 8))
    !(elemCauses s e).isEmpty || (s.kindAt r j = 2 && met && !s.proof e (56 + s.posAt r j)))

/-- ROUTE_START (R261). -/
def runRouteStart (c : Cmd) (s : State) : State × Res :=
  let r := keyIdx (fld c.payload 0 4)
  let g := routeGate c s
  if g ≠ 0 then (s, Res.of g [])
  else if (s.route r).w.st ≠ 0 then (s, Res.conflict)
  else if inAsserted s (s.d 0x08 r) 88 || routeOutFault s r then (s, Res.of 0x0600 [])
  else routeCommit c 0 s

/-- ROUTE_STOP (R263). -/
def runRouteStop (c : Cmd) (s : State) : State × Res :=
  let r := keyIdx (fld c.payload 0 4)
  let st := (s.route r).w.st
  let g := routeGate c s
  let ok := match fld c.payload 4 1 with
    | 0 => st ≤ 5
    | 1 => [1, 2, 3, 4, 5, 6].contains st
    | _ => st = 7 && !inAsserted s (s.d 0x08 r) 88 && !routeHolds s r
  if g ≠ 0 then (s, Res.of g []) else if !ok then (s, Res.conflict) else routeCommit c (fld c.payload 4 1 + 1) s

/-- A route's 64-byte record (R269); STARTS, RUN_S and HOLDS of a disabled route are those of its save record. -/
def routeRecord (s : State) (r : Nat) : Bytes :=
  let x0 := s.route r
  let sv := Tbl.rd RouteSave.dflt s.routes.save r
  let x := if s.en 0x08 r then x0 else
    { x0 with w := { x0.w with starts := sv.starts, runMs := sv.runMs, holds := sv.holds } }
  le 4 (dkey 0x08 r) ++ [BitVec.ofNat 8 x.w.st, BitVec.ofNat 8 x.w.fault, BitVec.ofNat 8 x.w.pos, BitVec.ofNat 8 x.w.step]
    ++ le 4 x.on ++ le 4 x.proven ++ le 4 ((x.evalMs - x.w.entered) / 1000) ++ le 4 x.w.starts
    ++ le 4 (min 0xFFFFFFFF (x.w.runMs / 1000)) ++ le 4 x.w.holds ++ le 6 x.w.entered ++ zeros 2 ++ zeros 24

/-- ROUTE_READ (R269). -/
def runRouteRead (c : Cmd) (s : State) : State × Res := (s, readRecords c (fun k => routeRecord s (keyIdx k)))

/-! ## Starts and changes (R268) -/

/-- The state taken from a save record. -/
def routeRestore (warm : Bool) (ms : Nat) (w : RouteSave) : RouteSave :=
  if warm || w.st = 0 || w.st = 7 then w else { w with st := 0, fault := 0, pos := 0xFF, step := 0xFF, entered := ms }

/-- An element at a start: its outputs as the keepers hold them. -/
def elemRestore (s : State) (e : Nat) : Elem :=
  let out := maskOf (List.range 4) (fun p => s.elemOut e p != 0 && (s.out (s.elemOut e p)).row5 != 0)
  let now := s.aon.nowUs
  match s.elemKind e with
  | 3 => { Elem.dflt with out := out, onAt := now, offAt := now, target := some (out % 2) }
  | 2 => { Elem.dflt with out := out, onAt := now, target := (List.range 4).find? (fun p => bit out p) }
  | _ => { Elem.dflt with out := out, onAt := now }

/-- Routes and elements at a start of the control die. -/
def startRoutes (warm : Bool) (s : State) : State :=
  let one (t : Tbl Route) (r : Nat) : Tbl Route :=
    let k := s.df 0x08 r 96 4
    Tbl.wr Route.dflt t r { Route.dflt with
      fresh := true, stopped := 0xFFFFFFFF, runOut := k != 0 && (s.out k).row5 != 0,
      w := routeRestore warm s.optime (Tbl.rd RouteSave.dflt s.routes.save r) }
  let elem (t : Tbl Elem) (e : Nat) : Tbl Elem := Tbl.wr Elem.dflt t e (elemRestore s e)
  { s with routes := { s.routes with r := (s.enabled 0x08).foldl one [], e := (s.enabled 0x09).foldl elem [],
                                     evalAt := s.aon.nowUs } }

/-- A route at an activation: a newly enabled one is STOPPED with its counters; a disabled one drives nothing. -/
def routeActivate (old new : Bytes) (r : Nat) (s : State) : State :=
  let was := bit (fld old 0 1) 0
  let now := bit (fld new 0 1) 0
  let sv := if now || s.route r = Route.dflt then Tbl.rd RouteSave.dflt s.routes.save r else (s.route r).w
  let w := { sv with st := 0, fault := 0, pos := 0xFF, step := 0xFF, entered := s.optime }
  if was = now then s
  else
    let s1 := { s with routes := { s.routes with save := Tbl.wr RouteSave.dflt s.routes.save r w } }
    s1.setRoute r (if now then { Route.dflt with stopped := 0xFFFFFFFF, w := w } else Route.dflt)

/-- An element at an activation: a disabled one drives nothing. -/
def elemActivate (new : Bytes) (e : Nat) (s : State) : State := if bit (fld new 0 1) 0 then s else s.setElem e Elem.dflt

/-! ## Meanings -/

/-- ROUTE_EVALUATION (R260). -/
def execRouteEvaluation (s : State) : Host.Outcome State Fault Refusal := .next (routeEvaluation s)

end Sys2Proof.Machine
end

