-- ==== Sys2Proof/Machine/Telltale.lean ====
section
/-! DEFINITION. The Telltale (chapter 16): records, the writer, flood limits, cursors and their opcodes. -/
namespace Sys2Proof.Machine

/-- The limited codes (R349, R352). -/
def ttLimited : List Nat := ttCodes.filter (fun c => !ttExempt c)

/-- A record's 32 bytes (R343, R344). -/
def TRec.bytes (rnum : Nat) (r : TRec) : Bytes :=
  let b := le 6 r.optime ++ le 4 r.powercycle ++ le 2 r.code ++ le 4 r.source ++ le 2 r.repeat_ ++ fit 12 r.data
  let w := b ++ le 2 (crc16 b)
  if r.damaged then damageWord 1 rnum w else w

/-- The record RNUM. -/
def State.trec (s : State) (n : Nat) : TRec := Tbl.rd TRec.dflt s.tt.ring n

/-- A cursor (R353). -/
def State.cursor (s : State) (c : Nat) : Cursor := Tbl.rd Cursor.dflt s.tt.cursors c
/-- Write a cursor. -/
def State.setCursor (s : State) (c : Nat) (v : Cursor) : State :=
  { s with tt := { s.tt with cursors := Tbl.wr Cursor.dflt s.tt.cursors c v } }

/-- Notice 0x8B02 of a record, to the sessions that selected its family (R356). -/
def ttNotice (rnum : Nat) (s : State) : State :=
  let r := s.trec rnum
  forAll slots (fun k st =>
    if bit (st.ses k).fams (r.code / 256) then notifyOne k 4 0x8B02 (le 8 rnum ++ r.bytes rnum) st else st) s

/-- Pins whose first record would be overwritten are dropped and their cursors marked lost (R355). -/
def dropPins (gone : Nat) (s : State) : State :=
  forAll [0, 1, 2, 3, 4, 5, 6, 7] (fun c st =>
    let x := st.cursor c
    match x.pin with
    | some p => if p.1 ≤ gone then st.setCursor c { x with pin := none, lost := true } else st
    | none => st) s

/-- One record is written as the newest (R342). -/
def ttWriteNew (r : TRec) (s : State) : State :=
  let n := s.tt.next
  let s1 := dropPins (n - 65536) s
  let low := max s1.tt.oldest (n + 1 - 65536)
  ttNotice n { s1 with tt := { s1.tt with
    ring := Tbl.dropBelow low (Tbl.wr TRec.dflt s1.tt.ring n r), next := n + 1, oldest := low } }

/-- The record of an occurrence; in LX-20 mode it may raise REPEAT of the newest instead (R351). -/
def ttWriteOcc (o : TOcc) (s : State) : State :=
  let n := s.newest
  let r := s.trec n
  if s.tt.lx20 && decide (s.tt.oldest ≤ n) && decide (1 ≤ n) && r.code = o.code && r.source = o.source then
    ttNotice n { s with tt := { s.tt with
      ring := Tbl.wr TRec.dflt s.tt.ring n { r with repeat_ := satInc 65535 r.repeat_ } } }
  else
    ttWriteNew { optime := o.optime, powercycle := o.powercycle, code := o.code, source := o.source, repeat_ := 1,
                 data := o.data, damaged := false } s

/-- The OVERFLOW record (R348). -/
def ttOverflow (s : State) : State :=
  let n := s.newest
  let t := if s.tt.oldest ≤ n && 1 ≤ n then (s.trec n).optime else s.tt.lostAt
  let data := le 4 s.tt.lost ++ le 2 s.tt.lostCode ++ le 6 s.tt.lostAt
  ttWriteNew { optime := t, powercycle := s.aon.powercycle, code := 0x0B81, source := 0, repeat_ := 1, data := data,
               damaged := false } { s with tt := { s.tt with lost := 0 } }

/-- DATA of a SUMMARY (R350). -/
def summaryData (code : Nat) (b : Bucket) : Bytes := le 2 code ++ le 4 b.supp ++ le 6 b.firstAt

/-- A summary enters the FIFO, or waits for room with its token held (R350). -/
def ttSummary (gained code : Nat) (s : State) : State :=
  let b := s.ttBkt code
  if s.tt.fifo.length < 64 then
    ttEnter gained 0x0B01 b.source (summaryData code b) (s.setBkt code { b with supp := 0, heldAt := none })
  else s.setBkt code { b with heldAt := some (b.heldAt.getD gained) }

/-- Summaries that waited enter as the FIFO has room (R350). -/
def ttHeld (s : State) : State :=
  forAll ttLimited (fun c st => match (st.ttBkt c).heldAt with
    | some t => if st.tt.fifo.length < 64 then ttSummary t c st else st
    | none => st) s

/-- The writer takes its next entry: an OVERFLOW record first (R347, R348). -/
def ttWriteStep (s : State) : State :=
  if s.tt.lost ≠ 0 then ttOverflow s
  else match s.tt.fifo with
    | [] => s
    | o :: t => ttHeld (ttWriteOcc o { s with tt := { s.tt with fifo := t } })

/-- Everything that waits is written; 32 held summaries, 64 entries and an OVERFLOW record at most. -/
def ttDrain (s : State) : State := iter ttWriteStep 128 s

/-- TT_RECORD_WRITE (R347). -/
def ttRecordWrite (s : State) : State := if s.up then ttWriteStep s else s

/-- TT_TOKEN_REFILL (R349, R350): a bucket below BURST gains a token, used for a summary while SUPP is above 0. -/
def ttRefill (code : Nat) (s : State) : State :=
  let b := s.ttBkt code
  let t := b.refillAt + (s.ttLim code).refillMs * 1000
  if !s.up || s.tt.lx20 || !ttLimited.contains code || b.spent ≤ b2n b.heldAt.isSome || !s.due t then s
  else
    let b1 := { b with refillAt := t }
    if b.supp ≠ 0 && b.heldAt.isNone then ttSummary (t / 1000) code (s.setBkt code b1)
    else s.setBkt code { b1 with spent := b.spent - 1 }

/-! ## Resets (R342, R347, R348) -/

/-- Entries waiting in the FIFO at the notice of a warm reset are lost. -/
def ttDropFifo (s : State) : State :=
  let s1 := forAll s.tt.fifo (fun o st => ttLose o.code st) s
  { s1 with tt := { s1.tt with fifo := [] } }

/-- Insert by detection time, after equal times. -/
def insertOcc (o : TOcc) : List TOcc → List TOcc
  | [] => [o]
  | p :: t => if o.optime < p.optime then o :: p :: t else p :: insertOcc o t

/-- The held occurrences of the three dies are taken before any other: in order of time, then of die (R347). -/
def ttMerge (s : State) : State :=
  let all := ([1, 2, 3].flatMap (fun d => Tbl.rd [] s.tt.stores d)).foldl (fun l o => insertOcc o l) []
  forAll all (fun o st => ttDrain (ttLimit o.optime o.code o.source o.data st)) { s with tt := { s.tt with stores := [] } }

/-- The ring, the counters and the buckets at a cold reset or power loss; mode and limits stay (R342, R349, R352). -/
def ttColdReset (s : State) : State :=
  { s with tt := { s.tt with next := 1, oldest := 1, ring := [], fifo := [], lost := 0, lostCode := 0, lostAt := 0, stores := [],
                             buckets := [], cursors := [], offset := none, stamp := 0 } }

/-- Cursors end with their session (R353). -/
def dropCursors (sess : Nat) (s : State) : State :=
  { s with tt := { s.tt with cursors := s.tt.cursors.filter (fun e => e.2.sess != sess) } }

/-! ## Opcodes -/

/-- TT_OPEN: OPEN, CLOSE and NOTIFY (R353). -/
def runTtOpen (c : Cmd) (s : State) : State × Res :=
  let p := c.payload
  let cs := [0, 1, 2, 3, 4, 5, 6, 7]
  match fld p 0 1 with
  | 1 =>
    let mine := (cs.filter (fun i => (s.cursor i).sess == c.sess)).length
    let from_ := fld p 8 8
    match cs.find? (fun i => (s.cursor i).sess == 0) with
    | none => (s, Res.of 0x0302 [])
    | some i =>
      if (s.ses c.slot).quota.cursor ≤ mine then (s, Res.of 0x0302 []) else
        let pos := if from_ = 0 then s.tt.oldest else if from_ = 0xFFFFFFFFFFFFFFFF then s.tt.next else from_
        (s.setCursor i { sess := c.sess, pos := pos, pin := none, lost := false },
          Res.ok ([BitVec.ofNat 8 i] ++ zeros 7 ++ le 8 s.tt.oldest ++ le 8 s.newest))
  | 2 =>
    let i := fld p 1 1
    if (s.cursor i).sess ≠ c.sess then (s, Res.conflict) else (s.setCursor i Cursor.dflt, Res.ok [])
  | _ => (s.setSes c.slot { s.ses c.slot with fams := fld p 2 2 }, Res.ok [])

/-- TT_READ (R354). -/
def runTtRead (c : Cmd) (s : State) : State × Res :=
  let i := fld c.payload 0 1
  let x := s.cursor i
  if x.sess ≠ c.sess then (s, Res.conflict)
  else if x.lost then (s.setCursor i Cursor.dflt, Res.of 0x0602 [])
  else
    let first := max x.pos s.tt.oldest
    let n := min (fld c.payload 2 2) (s.tt.next - first)
    let growing := s.tt.lx20 && decide (0 < n) && first + n == s.tt.next
    let flags := b2n (decide (x.pos < first)) + 2 * b2n growing
    let recs := (List.range n).flatMap (fun j => (s.trec (first + j)).bytes (first + j))
    (s.setCursor i { x with pos := first + n },
      Res.ok (le 8 first ++ le 2 n ++ [BitVec.ofNat 8 flags] ++ zeros 5 ++ le 8 s.tt.oldest ++ le 8 s.newest ++ recs))

/-- TT_PIN (R355). -/
def runTtPin (c : Cmd) (s : State) : State × Res :=
  let i := fld c.payload 0 1
  let x := s.cursor i
  if x.sess ≠ c.sess then (s, Res.conflict)
  else if x.lost then (s.setCursor i Cursor.dflt, Res.of 0x0602 [])
  else if fld c.payload 1 1 = 1 then
    let start := max x.pos s.tt.oldest
    (s.setCursor i { x with pin := some (start, fld c.payload 2 2) }, Res.ok (le 8 start ++ zeros 8))
  else (s.setCursor i { x with pin := none }, Res.ok (zeros 16))

/-- TT_CLEAR (R357): what waits is written first, so that the CLEARED record is the next. -/
def runTtClear (c : Cmd) (s : State) : State × Res :=
  let s1 := ttDrain s
  let n := s1.tt.next
  let cleared := n - s1.tt.oldest
  let s2 := dropPins 0xFFFFFFFFFFFFFFFFFF s1
  let s3 := { s2 with tt := { s2.tt with oldest := n, ring := [] } }
  let s4 := ttDrain (ttOccur 0 0x0B04 0 (le 8 c.sess ++ le 4 cleared) s3)
  (s4, Res.ok (le 8 n))

/-- New limits of a code: tokens are clipped to BURST (R352). -/
def ttSetLimit (burst refill code : Nat) (s : State) : State :=
  let b := s.ttBkt code
  let tokens := min burst ((s.ttLim code).burst - b.spent)
  let s1 := { s with tt := { s.tt with limits := Tbl.wr (Limits.dflt code) s.tt.limits code { burst := burst, refillMs := refill } } }
  s1.setBkt code { b with spent := burst - tokens, refillAt := if b.spent = 0 then s.aon.nowUs else b.refillAt }

/-- The mode changes (R351). -/
def ttSetMode (lx : Bool) (s : State) : State :=
  if lx = s.tt.lx20 then s
  else if lx then
    let s1 := forAll ttLimited (fun c st => if (st.ttBkt c).supp = 0 then st else ttSummary st.optime c st) (ttDrain s)
    { s1 with tt := { s1.tt with lx20 := true } }
  else { s with tt := { s.tt with lx20 := false, buckets := [] } }

/-- TT_LIMITS (R352). -/
def runTtLimits (c : Cmd) (s : State) : State × Res :=
  let p := c.payload
  let code := fld p 4 2
  let set := fld p 0 1 = 1
  let mode := fld p 1 1
  let burst := fld p 6 1
  let codes := if code = 0xFFFF then ttLimited else [code]
  let s1 := if set && mode ≠ 0xFF then ttSetMode (mode == 1) s else s
  let s2 := if set && burst ≠ 0 then forAll codes (ttSetLimit burst (fld p 8 4)) s1 else s1
  let b := s2.ttBkt code
  let l := s2.ttLim code
  let per := if ttLimited.contains code then
      le 4 b.supp ++ [BitVec.ofNat 8 l.burst] ++ zeros 3 ++ le 4 l.refillMs else zeros 12
  let tokens := if ttLimited.contains code then l.burst - b.spent + b2n b.heldAt.isSome else 0
  (s2, Res.ok ([BitVec.ofNat 8 (b2n s2.tt.lx20), BitVec.ofNat 8 tokens] ++ zeros 2 ++ per))

/-- TIME_MARK (R358, R359): OFFSET is held at its limits (R10). -/
def runTimeMark (c : Cmd) (s : State) : State × Res :=
  let off : Int := clampI (-2 ^ 63) (2 ^ 63 - 1) (((fld c.payload 0 8 * 1000 + fld c.payload 8 2 : Nat) : Int) - s.optime)
  let old := s.tt.offset
  let s1 := { s with tt := { s.tt with offset := some off } }
  let change : Int := match old with | some o => clampI (-2147483648) 2147483647 (divRound (off - o) 1000) | none => 0
  let writes := match old with | some o => decide (off < o) || decide (2000 < off - o) | none => true
  let s2 := if writes then ttOccur 0 0x0B03 0 (leInt 8 off ++ leInt 4 change) s1 else s1
  (s2, Res.ok (leInt 8 off ++ (match old with | some o => leInt 8 o | none => le 8 0x8000000000000000)))

/-! ## Meanings -/

/-- TT_OCCURRENCE (R347): an occurrence of a code of R346 is detected by a die. -/
def execTtOccurrence (o : OccIn) (s : State) : Host.Outcome State Fault Refusal :=
  .next (if ttCodes.contains o.code && o.code != 0x0B01 && o.code != 0x0B81 && decide (o.die < 4) then ttOccur o.die o.code o.source (fit 12 o.data) s else s)
/-- TT_RECORD_WRITE (R347). -/
def execTtRecordWrite (s : State) : Host.Outcome State Fault Refusal := .next (ttRecordWrite s)
/-- TT_TOKEN_REFILL (R349). -/
def execTtTokenRefill (code : Nat) (s : State) : Host.Outcome State Fault Refusal := .next (ttRefill code s)

end Sys2Proof.Machine
end

