-- ==== Sys2Proof/Machine/Validate.lean ====
section
/-! DEFINITION. Validation of a whole rig (R137): ranges and reserved fields of every descriptor, and the rules
between descriptors that the subject chapters give. -/
namespace Sys2Proof.Machine

/-- One error of a validation (R132). -/
structure VErr where
  reason : Nat
  key : Nat
  off : Nat
  /-- The second descriptor involved, or 0. -/
  other : Nat
deriving DecidableEq, Repr

/-! ## Field ranges -/

/-- The range of one field: byte offset, lowest bit, bits, signed, least and greatest value. -/
structure FieldRule where
  off : Nat
  lo : Nat
  len : Nat
  sgn : Bool
  least : Int
  most : Int
deriving DecidableEq, Repr

/-- An unsigned field of `n` bytes. -/
def fu (off n : Nat) (least most : Int) : FieldRule := { off := off, lo := 0, len := 8 * n, sgn := false, least := least, most := most }
/-- A signed field of `n` bytes. -/
def fi (off n : Nat) (least most : Int) : FieldRule := { off := off, lo := 0, len := 8 * n, sgn := true, least := least, most := most }
/-- A bit field of one byte. -/
def fb (off lo len : Nat) (least most : Int) : FieldRule := { off := off, lo := lo, len := len, sgn := false, least := least, most := most }
/-- Reserved bytes (R8). -/
def rz (off n : Nat) : FieldRule := fu off n 0 0
/-- Reserved bits of one byte. -/
def rb (off lo len : Nat) : FieldRule := fb off lo len 0 0

/-- The value of a ruled field. -/
def FieldRule.value (f : FieldRule) (d : Bytes) : Int :=
  let v := bits (fld d f.off ((f.lo + f.len + 7) / 8)) f.lo f.len
  if f.sgn then signed f.len v else v

/-- Front-end channels of both planes (R276). -/
def afeRules : List FieldRule :=
  [rb 0 6 2, rb 1 4 4, rb 3 1 7, fu 6 2 0 1000, fu 8 1 0 4, fu 9 1 0 8, fu 10 1 0 3, fu 11 1 1 255, fu 24 2 50 50000,
   fu 32 2 1 1000, rz 34 30]

/-- The reserved bits of the input entries at the offsets (R198). -/
def inRules (offs : List Nat) : List FieldRule := offs.flatMap (fun o => [rb (o + 5) 2 6, rz (o + 6) 2])

/-- The ranges of each descriptor's fields (R124, R125, R164, R169, R170, R197, R211, R224, R239, R255, R257, R270, R276,
R284, R286, R288, R294, R306, R327). -/
def fieldRules (dt i : Nat) : List FieldRule :=
  match dt with
  | 0x01 => [rb 0 1 7, rz 1 1, fu 2 2 60 180, fu 6 1 1 20, rz 7 1, fu 8 2 600 1500, fu 10 2 1 1024, rz 12 52]
  | 0x02 => [rb 8 5 3, rz 9 1, fu 10 2 0 60000, fu 14 2 0 10000]
  | 0x03 => [fb 0 1 2 0 2, rb 0 5 3, fb 1 0 4 1 15, rb 1 4 4, fi 4 2 (-500) 500, fu 6 2 0 1000, fu 8 2 1 10000, fu 14 2 1 1440,
             rz 20 12]
  | 0x04 => [fb 0 3 2 0 2, rb 0 5 3, fb 1 0 2 0 2, rb 1 5 3, fu 2 1 0 32, fu 3 1 0 8, fb 6 0 4 1 15, rb 6 4 4, fi 114 2 0 32767,
             fi 116 2 0 1000, fu 118 2 1 600, fu 120 2 0 1440, fu 122 2 0 1440, fu 126 2 1 60000, fu 184 2 1 1440,
             fu 190 2 1 1440, rz 194 2, rb 220 7 1, rz 221 35] ++ inRules [80, 88, 96, 104]
  | 0x05 => [rb 0 4 4, fb 1 0 3 0 4, rb 1 3 5, rb 2 2 6, rb 3 2 6, fu 4 4 1 4294967295, fu 13 1 1 8, rz 14 2,
             fu 20 4 1 2000000000, fi 58 2 0 32767, fi 60 2 0 32767, fu 84 2 1 65535, rz 86 2, rb 140 4 4, rz 141 3, rz 154 2,
             rz 166 2, rb 168 3 5, fu 169 1 1 255, fu 170 1 0 127, rz 171 1, fi 178 2 1 32767, fu 180 2 1 65535,
             fi 182 2 0 32767, rz 186 2, fu 192 4 1 2000000000, fu 200 4 1 2000000000, rz 204 52] ++ inRules [24, 32, 40, 48]
  | 0x06 => [rb 0 2 6, fu 1 1 1 255, fi 2 2 0 32767, rz 36 28] ++ (List.range 16).map (fun j => fu (4 + 2 * j) 2 0 4095)
  | 0x07 => [fb 0 3 2 0 2, rb 0 5 3, rb 1 3 5, fu 2 1 0 6, fu 3 1 0 2, rz 92 4, fi 128 2 0 32767, fu 130 2 1 600, fu 132 2 1 600,
             fu 136 2 1 1440, fu 138 2 1 1440, fu 146 2 1 1440, fu 150 2 0 3600, fu 152 2 1 1440, fu 156 2 1 1440,
             fu 160 2 1 1440, fu 164 2 1 3600, fu 166 2 1 1440, fu 168 2 1 1440, fu 170 2 1 3600, fu 172 2 1 3600,
             fi 174 2 0 32767, fi 176 2 0 32767, rz 178 846]
            ++ inRules [8, 16, 24, 32, 40, 48, 56, 64, 72]
  | 0x08 => [rb 0 3 5, fu 1 1 1 32, fu 2 2 0 600, fu 4 2 1 600, rz 8 8, rz 100 156] ++ inRules [80, 88]
            ++ (List.range 32).map (fun j => rb (17 + 2 * j) 2 6)
  | 0x09 => [rb 0 4 4, rz 1 1, fu 2 2 1 6000, fu 4 2 0 36000, fu 6 2 1 600, fu 8 2 1 6000, fu 10 2 1 600, fu 12 2 1 600, rz 14 2,
             rz 61 3] ++ inRules [32, 40, 48]
  | 0x0A => [rb 0 7 1, fb 0 2 2 0 2, fb 1 0 3 0 3, rb 1 6 2, fu 2 2 100 30000, fu 8 1 1 8, fu 9 1 0 10, fu 10 2 0 2047,
             fu 12 2 0 2047, fu 14 2 0 10000, fu 16 2 500 60000, fu 18 2 1 30000, fu 20 2 1 30000, fu 22 2 100 60000, fu 24 2 1 600,
             fu 26 2 0 2047, rz 44 4, fu 52 1 0 8, rz 53 1, rz 104 24] ++ (List.range 8).map (fun j => fu (88 + 2 * j) 2 0 2047)
  | 0x0B => [rb 0 6 2, fb 1 0 3 0 4, fb 1 3 2 0 2, rb 1 5 3, rb 2 2 6, rz 3 1, fi 8 2 (-4000) 8500, fi 10 2 6000 15000,
             fu 12 2 10 1000, fu 16 2 6000 32000, fu 18 2 100 1000, fu 20 1 10 90, rz 21 43]
  | 0x0C => [rb 0 6 2, fb 1 0 3 0 4, fb 1 3 2 0 2, rb 1 7 1, fu 2 2 1 2000, fu 8 2 1 100, rz 10 22]
  | 0x0D => [rb 0 5 3, rz 1 3, rz 10 22]
  | 0x0E => [rb 0 4 4, rz 1 31]
  | 0x0F => afeRules ++ [fu 26 2 0 0]
  | 0x10 => afeRules ++ [rb 1 3 1, fu 26 2 20 5000]
  | 0x11 => [fb 0 2 2 0 2, rb 0 4 4, fu 1 1 1 255, rz 2 2, rz 16 16]
  | 0x12 => [rb 0 2 6, fu 1 1 0 127, fu 2 1 1 32, rz 3 1, rz 10 6]
  | 0x20 => [fu 4 2 1 3600, fu 6 2 10 1440, fu 12 4 0 86400, fu 16 2 10 60000, fu 18 2 100 10000, rz 20 492]
  | 0x21 => [rb 0 1 7, rz 1 7] ++
            (if i < 3 then
              (if i = 2 then [rb 14 0 2] else [fb 14 0 2 0 2, rb 14 2 1, rb 15 0 5]) ++ [rb 14 3 5, rb 15 5 3, rz 28 36]
             else if i < 5 then [fu 8 1 1 127, rb 9 5 3, rb 10 1 7, rz 11 1, fu 20 2 600 900, fu 22 2 600 900, rz 24 40]
             else if i < 7 then [fu 8 1 1 247, rb 9 2 6, rz 10 2, rz 16 48]
             else [rz 8 56])
  | _ => []

/-! ## The rig under validation -/

/-- The rig that would result, the rig now, and what runs (R137). -/
structure VEnv where
  t : Tbl Bytes
  s : State
  /-- Keys the transaction names. -/
  named : List Nat

/-- A descriptor of the rig under validation. -/
def VEnv.d (v : VEnv) (dt i : Nat) : Bytes := descOf v.t dt i
/-- An unsigned field of it. -/
def VEnv.f (v : VEnv) (dt i off n : Nat) : Nat := fld (v.d dt i) off n
/-- Bits of one byte of it. -/
def VEnv.b (v : VEnv) (dt i off lo n : Nat) : Nat := bits (v.f dt i off 1) lo n
/-- A descriptor exists and is enabled; a curve slot is not empty. -/
def VEnv.on (v : VEnv) (dt i : Nat) : Bool :=
  descExists dt i && (if dt = 0x02 then v.b 0x02 i 8 0 1 == 1 else if dt = 0x22 then v.f 0x22 i 0 1 != 0 else v.b dt i 0 0 1 == 1)
/-- An object reference names an enabled object. -/
def VEnv.ron (v : VEnv) (r : Nat) : Bool := refOk r && v.on (keyType r) (keyIdx r)
/-- Enabled descriptors of a type. -/
def VEnv.all (v : VEnv) (dt : Nat) : List Nat := (listedIdx v.t dt).filter (v.on dt)

/-- An error when a test fails. -/
def vIf (bad : Bool) (reason key off : Nat) (other : Nat := 0) : List VErr :=
  if bad then [{ reason := reason, key := key, off := off, other := other }] else []

/-- RANGE errors of one descriptor; a disabled one may keep its reset values. -/
def vRange (v : VEnv) (k : Nat) : List VErr :=
  let d := v.d (keyType k) (keyIdx k)
  let r := descReset (keyType k) (keyIdx k)
  let on := v.on (keyType k) (keyIdx k)
  (fieldRules (keyType k) (keyIdx k)).flatMap (fun f =>
    let x := f.value d
    vIf ((x < f.least || f.most < x) && (on || x ≠ f.value r)) 0x0010 k f.off)

/-- QTY values of an input source; none for a type that is no source (R198). -/
def qtyMax (ty : Nat) : Option Nat :=
  match ty with
  | 0x02 => some 2 | 0x03 => some 6
  | 0x05 => some 0 | 0x06 => some 0 | 0x0A => some 0 | 0x0B => some 0 | 0x0C => some 0 | 0x0F => some 0 | 0x10 => some 0
  | 0x11 => some 0 | _ => none

/-- QTY of an input entry is one that its source gives (R198). -/
def vQty (k : Nat) (d : Bytes) (off : Nat) : List VErr :=
  vIf (fld d off 4 ≠ 0 && (match qtyMax (keyType (fld d off 4)) with | some m => decide (m < fld d (off + 4) 1) | none => false))
    0x0010 k (off + 4)

/-- The source of an input entry (R198). -/
def vInput (v : VEnv) (k : Nat) (d : Bytes) (off : Nat) : List VErr :=
  let src := fld d off 4
  if src = 0 then [] else if (qtyMax (keyType src)).isNone then vIf true 0x0011 k off else vIf (!v.ron src) 0x0011 k off src

/-- Repeated members of a list, with their place. -/
def repeats (l : List Nat) : List Nat := (List.range l.length).filter (fun j => (l.take j).contains (l.getD j 0))

/-! ## Sources (R25, R206, R211, R224, R240, R256, R294, R306, R327) -/

/-- The outputs a loop names (R197, R205). -/
def loopOuts (d : Bytes) : List Nat :=
  let r := fld d 120 4
  match bits (fld d 2 1) 0 2 with
  | 1 => [r].filter (fun k => k != 0)
  | 2 => [r, fld d 124 4].filter (fun k => k != 0)
  | 3 => if r = 0 then [] else (List.range (fld d 13 1)).map (fun j => r + j)
  | _ => []

/-- The outputs an object names. -/
def VEnv.names (v : VEnv) (o : Nat) : List Nat :=
  let d := v.d (keyType o) (keyIdx o)
  match keyType o with
  | 0x04 => (List.range (mastFans d)).map (fun j => dkey 0x0A (fld d (8 + j) 1))
  | 0x05 => loopOuts d
  | 0x07 => dryOutputs d
  | 0x08 => [fld d 96 4].filter (fun k => k != 0)
  | 0x09 => ((List.range 4).map (fun p => fld d (16 + 4 * p) 4)).filter (fun k => k != 0)
  | _ => []

/-- SRC_KIND and the object type it takes. -/
def srcType (dt kind : Nat) : Nat :=
  match dt, kind with
  | _, 1 => 0x05
  | 0x0A, 2 => 0x04
  | 0x0A, 3 => 0x07
  | 0x0B, 2 => 0x07
  | 0x0B, 3 => 0x09
  | 0x0B, 4 => 0x08
  | 0x0C, 2 => 0x07
  | 0x0C, 3 => 0x09
  | 0x0C, 4 => 0x08
  | _, _ => 0

/-- SRC_KIND of an output. -/
def VEnv.kind (v : VEnv) (k : Nat) : Nat :=
  if keyType k = 0x0D then v.b 0x0D (keyIdx k) 0 3 1 else v.b (keyType k) (keyIdx k) 1 0 3

/-- An output's source names it back (R294, R327). -/
def vSource (v : VEnv) (k : Nat) : List VErr :=
  let r := v.f (keyType k) (keyIdx k) 4 4
  let kind := v.kind k
  if kind = 0 then vIf (r ≠ 0) 0x0012 k 4
  else if srcType (keyType k) kind = 0 || keyType r ≠ srcType (keyType k) kind then vIf true 0x0012 k 4
  else if !v.ron r then vIf true 0x0011 k 4 r
  else vIf (!(v.names r).contains k) 0x0012 k 4 r

/-- A named output exists, is enabled, is of a type allowed, and names the object as its source. -/
def vOut (v : VEnv) (k : Nat) (types : List Nat) (off r : Nat) : List VErr :=
  if r = 0 then [] else
    if !types.contains (keyType r) then vIf true 0x0012 k off r
    else if !v.ron r then vIf true 0x0011 k off r
    else vIf (srcType (keyType r) (v.kind r) ≠ keyType k || v.f (keyType r) (keyIdx r) 4 4 ≠ k || (keyType r = 0x0C && v.b 0x0C (keyIdx r) 0 1 1 = 0)) 0x0012 k off r

/-! ## Rules by descriptor -/

/-- Points (R169). -/
def vPoints (v : VEnv) : List VErr :=
  let ps := v.all 0x02
  let rec go (ids heights : List (Nat × Nat)) : List Nat → List VErr
    | [] => []
    | p :: t =>
      let k := dkey 0x02 p
      let id := v.f 0x02 p 0 8 * 128 + p / 1024
      let h := (v.f 0x02 p 10 2 * 16 + v.b 0x02 p 8 1 4) * 128 + p / 1024
      let other (l : List (Nat × Nat)) (x : Nat) : Option Nat := (l.find? (fun e => e.1 == x)).map (fun e => dkey 0x02 e.2)
      vIf (v.f 0x02 p 0 8 = 0) 0x0010 k 0
        ++ (match other ids id with | some o => vIf true 0x0010 k 0 o | none => [])
        ++ (match other heights h with | some o => vIf true 0x0010 k 10 o | none => [])
        ++ go ((id, p) :: ids) ((h, p) :: heights) t
  go [] [] ps

/-- A curve slot number is 0 to 511, or 0xFFFF for none. -/
def vSlot (k off cv : Nat) : List VErr := vIf (512 ≤ cv && cv ≠ 0xFFFF) 0x0010 k off

/-- The fields of a cable, enabled or not (R170). -/
def vCableFields (v : VEnv) (c : Nat) : List VErr :=
  let cv := v.f 0x03 c 2 2
  vSlot (dkey 0x03 c) 2 cv
    ++ vIf (cv = 0xFFFF && (v.b 0x03 c 0 1 2 = 1 || v.b 0x03 c 0 4 1 = 1)) 0x0014 (dkey 0x03 c) 2

/-- An enabled cable is bound to a grain curve (R137). -/
def vCable (v : VEnv) (c : Nat) : List VErr :=
  let cv := v.f 0x03 c 2 2
  vIf (decide (cv < 512) && v.f 0x22 cv 0 1 ≠ 2) 0x0014 (dkey 0x03 c) 2 (dkey 0x22 cv)

/-- The fields of a Mast, enabled or not (R224). -/
def vMastFields (v : VEnv) (m : Nat) : List VErr :=
  let k := dkey 0x04 m
  let d := v.d 0x04 m
  vSlot k 4 (fld d 4 2) ++ vIf (fld d 3 1 ≠ 0 && (fld d 7 1 = 0 || decide (fld d 3 1 < fld d 7 1))) 0x0010 k 7
    ++ vIf (decide (sfld d 182 2 ≤ sfld d 180 2)) 0x0010 k 182 ++ [80, 88, 96, 104].flatMap (vQty k d)

/-- An enabled Mast (R224). -/
def vMast (v : VEnv) (m : Nat) : List VErr :=
  let k := dkey 0x04 m
  let d := v.d 0x04 m
  let cv := fld d 4 2
  let fans := (List.range (mastFans d)).map (fun j => fld d (8 + j) 1)
  let cables := mastCables d
  let others := (v.all 0x04).filter (fun q => decide (q < m))
  let dl := fld d 112 2
  vIf (cv = 0xFFFF || (decide (cv < 512) && v.f 0x22 cv 0 1 ≠ 2)) 0x0014 k 4
    ++ vIf (fld d 80 4 = 0 && fld d 88 4 = 0) 0x0010 k 80 ++ vIf (fld d 96 4 = 0 && fld d 104 4 = 0) 0x0010 k 96
    ++ [80, 88, 96, 104].flatMap (vInput v k d)
    ++ vIf (dl ≠ 0xFFFF && (!v.on 0x05 dl || v.b 0x05 dl 2 0 2 ≠ 0)) 0x0011 k 112 (if dl < 4096 then dkey 0x05 dl else 0)
    ++ cables.flatMap (fun c => vIf (!v.on 0x03 c) 0x0011 k 16 (if c < 2048 then dkey 0x03 c else 0)
      ++ (match others.find? (fun q => (mastCables (v.d 0x04 q)).contains c) with
        | some q => vIf true 0x0013 k 16 (dkey 0x04 q) | none => []))
    ++ vIf (!(repeats cables).isEmpty) 0x0013 k 16 ++ vIf (!(repeats fans).isEmpty) 0x0013 k 8
    ++ fans.flatMap (fun f => vOut v k [0x0A] 8 (dkey 0x0A f)
      ++ (match others.find? (fun q => (v.names (dkey 0x04 q)).contains (dkey 0x0A f)) with
        | some q => vIf true 0x0013 k 8 (dkey 0x04 q) | none => []))

/-- A notch fails the stability test (R209). -/
def notchUnstable (d : Bytes) (off : Nat) : Bool :=
  let a1 := sfld d (off + 6) 2
  let a2 := sfld d (off + 8) 2
  !(decide (a2.natAbs < 16384) && decide ((a1.natAbs : Int) < 16384 + a2))

/-- The fields of a loop, enabled or not (R197, R209). -/
def vLoopFields (v : VEnv) (l : Nat) : List VErr :=
  let k := dkey 0x05 l
  let d := v.d 0x05 l
  let law := bits (fld d 0 1) 1 2
  let lo := sfld d 62 2
  let hi := sfld d 64 2
  let on := (List.range (fld d 13 1)).map (fun j => sfld d (88 + 2 * j) 2)
  let rising := (List.range (on.length - 1)).all (fun j => decide (on.getD j 0 < on.getD (j + 1) 0))
  let ctl := fld d 140 1
  let notch (j : Nat) : List VErr :=
    vIf (bits ctl (2 * j) 2 = 3 && (law = 1 || law = 3)) 0x0010 k 140
      ++ vIf (bit ctl (2 * j) && notchUnstable d (144 + 12 * j)) 0x0010 k (144 + 12 * j)
  vIf (fld d 4 4 ≤ fld d 8 4) 0x0010 k 8 ++ vIf (law = 2 && decide (sfld d 58 2 / 2 < sfld d 60 2)) 0x0010 k 60
    ++ vIf (bits (fld d 2 1) 0 2 ≠ 0 && decide (lo < 0)) 0x0010 k 62 ++ vIf (decide (hi ≤ lo)) 0x0010 k 64
    ++ vIf (decide (sfld d 66 2 < lo) || decide (hi < sfld d 66 2)) 0x0010 k 66 ++ vIf (decide (sfld d 70 2 < sfld d 68 2)) 0x0010 k 70
    ++ vIf (law = 3 && !rising) 0x0010 k 88 ++ vIf (fld d 128 4 ≠ 0 && fld d 132 4 = 0) 0x0010 k 132
    ++ vIf (fld d 128 4 ≠ 0 && fld d 136 4 = 0) 0x0010 k 136 ++ notch 0 ++ notch 1
    ++ vIf (bit (fld d 168 1) 0 && bits (fld d 1 1) 0 3 ≠ 0) 0x0010 k 168
    ++ vIf (decide (sfld d 184 2 < 0) || decide (sfld d 182 2 < sfld d 184 2)) 0x0010 k 184
    ++ [24, 32, 40, 48].flatMap (vQty k d)

/-- An enabled loop (R197, R205). -/
def vLoop (v : VEnv) (l : Nat) : List VErr :=
  let k := dkey 0x05 l
  let d := v.d 0x05 l
  let kind := bits (fld d 2 1) 0 2
  let r := fld d 120 4
  let r2 := fld d 124 4
  let types := if kind = 1 then [0x0A, 0x0B, 0x0C, 0x0D] else [0x0B, 0x0C]
  vIf (bits (fld d 0 1) 1 2 = 0) 0x0010 k 0 ++ [24, 32, 40, 48].flatMap (vInput v k d)
    ++ vIf (kind = 0 && (r ≠ 0 || r2 ≠ 0)) 0x0012 k 120 ++ vIf ((kind = 1 || kind = 3) && r2 ≠ 0) 0x0012 k 124
    ++ vIf (kind = 2 && (r = 0 || r2 = 0)) 0x0012 k 120 ++ vIf (kind = 3 && r = 0) 0x0012 k 120
    ++ (if kind = 3 && r ≠ 0 && descCount (keyType r) < keyIdx r + fld d 13 1 then vIf true 0x0011 k 120 r
        else if kind = 0 then []
        else if kind = 2 then vOut v k types 120 r ++ vOut v k [0x0C] 124 r2
        else (loopOuts d).flatMap (vOut v k types 120))

/-- A group has at most 16 loops (R137). -/
def vGroupFields (v : VEnv) (g : Nat) : List VErr := vIf (16 < v.f 0x06 g 1 1) 0x0013 (dkey 0x06 g) 1

/-- Members of a group (R211). -/
def groupMembers (d : Bytes) : List Nat := (List.range (min 16 (fld d 1 1))).map (fun j => fld d (4 + 2 * j) 2)

/-- An enabled competition group (R211). -/
def vGroup (v : VEnv) (g : Nat) : List VErr :=
  let k := dkey 0x06 g
  let d := v.d 0x06 g
  let ms := groupMembers d
  let others := (v.all 0x06).filter (fun q => decide (q < g))
  vIf (!(repeats ms).isEmpty) 0x0013 k 4
    ++ (List.range ms.length).flatMap (fun j =>
      let m := ms.getD j 0
      let off := 4 + 2 * j
      let lk := if m < 4096 then dkey 0x05 m else 0
      vIf (4096 ≤ m || !v.on 0x05 m) 0x0011 k off lk
        ++ (match others.find? (fun q => (groupMembers (v.d 0x06 q)).contains m) with | some q => vIf true 0x0013 k off (dkey 0x06 q) | none => [])
        ++ vIf (m < 4096 && v.on 0x05 m && (v.b 0x05 m 2 0 2 ≠ 1 || decide ((j = 0) = (v.f 0x05 m 120 4 = 0)))) 0x0012 k off lk)

/-- The fields of a dryer, enabled or not (R239). -/
def vDryerFields (v : VEnv) (i : Nat) : List VErr :=
  let k := dkey 0x07 i
  let d := v.d 0x07 i
  let group (off : Nat) : List VErr := vIf (512 ≤ fld d off 2 && fld d off 2 ≠ 0xFFFF) 0x0010 k off
  group 4 ++ group 6 ++ vIf (fld d 148 2 < fld d 146 2) 0x0010 k 148 ++ vIf (fld d 162 2 < fld d 160 2) 0x0010 k 162
    ++ [8, 16, 24, 32, 40, 48, 56, 64, 72].flatMap (vQty k d)

/-- An enabled dryer (R239). -/
def vDryer (v : VEnv) (i : Nat) : List VErr :=
  let k := dkey 0x07 i
  let d := v.d 0x07 i
  let outs := dryOutputs d
  let hg := fld d 4 2
  let mg := fld d 6 2
  let others := (v.all 0x07).filter (fun q => decide (q < i))
  let group (off g : Nat) (types : List Nat) : List VErr :=
    if g = 0xFFFF then [] else
      vIf (g < 512 && !v.on 0x06 g) 0x0011 k off (dkey 0x06 g)
        ++ vIf (g < 512 && v.on 0x06 g && !types.contains (keyType (v.f 0x05 (v.f 0x06 g 4 2) 120 4))) 0x0012 k off (dkey 0x06 g)
        ++ (match others.find? (fun q => v.f 0x07 q 4 2 = g || v.f 0x07 q 6 2 = g) with
          | some q => vIf true 0x0013 k off (dkey 0x07 q) | none => [])
  group 4 hg [0x0B, 0x0C, 0x0D] ++ group 6 mg [0x0A, 0x0D] ++ vIf (hg = mg && hg ≠ 0xFFFF) 0x0013 k 6
    ++ vIf (!(repeats outs).isEmpty) 0x0013 k 80
    ++ [8, 16, 24, 32, 40, 48, 56, 64, 72].flatMap (vInput v k d)
    ++ [80, 84, 88].flatMap (fun o => vOut v k [0x0B, 0x0C] o (fld d o 4))
    ++ ((List.range (fld d 2 1)).map (fun j => 96 + 4 * j) ++ (List.range (fld d 3 1)).map (fun j => 120 + 4 * j)).flatMap
      (fun o => vIf (fld d o 4 = 0) 0x0011 k o ++ vOut v k [0x0A, 0x0B, 0x0C] o (fld d o 4))

/-- The fields of a conveyor element, enabled or not (R255). -/
def vElemFields (v : VEnv) (e : Nat) : List VErr :=
  let k := dkey 0x09 e
  let d := v.d 0x09 e
  [56, 57, 58, 59, 60].flatMap (fun o => vIf (96 ≤ fld d o 1 && fld d o 1 ≠ 0xFF) 0x0010 k o) ++ [32, 40, 48].flatMap (vQty k d)

/-- An enabled conveyor element (R255, R256). -/
def vElem (v : VEnv) (e : Nat) : List VErr :=
  let k := dkey 0x09 e
  let d := v.d 0x09 e
  let proof (off : Nat) : List VErr :=
    let p := fld d off 1
    if p = 0xFF then [] else
      vIf (p < 96 && (!v.on 0x0C p || v.b 0x0C p 0 1 1 = 1)) 0x0011 k off (dkey 0x0C p)
  vIf (bits (fld d 0 1) 1 2 = 0) 0x0010 k 0 ++ [32, 40, 48].flatMap (vInput v k d) ++ [56, 57, 58, 59, 60].flatMap proof
    ++ vIf (!(repeats (v.names k)).isEmpty) 0x0012 k 16
    ++ [16, 20, 24, 28].flatMap (fun o => vOut v k [0x0B, 0x0C] o (fld d o 4))

/-- A route (R257). -/
def vRoute (v : VEnv) (r : Nat) : List VErr :=
  let k := dkey 0x08 r
  let d := v.d 0x08 r
  let es := (List.range (fld d 1 1)).map (fun j => fld d (16 + 2 * j) 1)
  vIf (!(repeats es).isEmpty) 0x0013 k 16
    ++ (List.range es.length).flatMap (fun j =>
      let e := es.getD j 0
      let p := bits (fld d (17 + 2 * j) 1) 0 2
      vIf (!v.on 0x09 e) 0x0011 k (16 + 2 * j) (dkey 0x09 e)
        ++ vIf (v.b 0x09 e 0 1 2 = 2 && (v.f 0x09 e (16 + 4 * p) 4 = 0 || v.f 0x09 e (56 + p) 1 = 0xFF)) 0x0011 k (16 + 2 * j)
          (dkey 0x09 e))
    ++ vIf (!es.any (fun e => v.b 0x09 e 0 1 2 == 1)) 0x0010 k 16
    ++ [80, 88].flatMap (vInput v k d) ++ vOut v k [0x0B, 0x0C] 96 (fld d 96 4)

/-- The fields of a fan channel, enabled or not (R327, R328). -/
def vFanFields (v : VEnv) (i : Nat) : List VErr :=
  let k := dkey 0x0A i
  let d := v.d 0x0A i
  let used := ((List.range 4).map (fun n => (fld d (28 + 4 * n) 2, fld d (30 + 4 * n) 2))).filter (fun b => b.1 != 0 || b.2 != 0)
  let order := (List.range (used.length - 1)).all (fun n => decide ((used.getD n (0, 0)).2 < (used.getD (n + 1) (0, 0)).1))
  let cls := bits (fld d 0 1) 2 2
  let safe := bits (fld d 1 1) 3 2
  let n := fld d 52 1
  let ts := (List.range n).map (fun j => sfld d (56 + 4 * j) 4)
  let rising := (List.range (n - 1)).all (fun j => decide (ts.getD j 0 < ts.getD (j + 1) 0))
  let src := fld d 48 4
  vIf (fld d 16 2 < fld d 14 2) 0x0010 k 16 ++ vIf (fld d 18 2 < fld d 20 2) 0x0010 k 20
    ++ vIf (used.any (fun b => !(decide (0 < b.1) && decide (b.1 < b.2) && decide (b.2 < 2047))) || !order) 0x0010 k 28
    ++ vIf (cls = 1 && (src = 0 || n < 2)) 0x0010 k 48 ++ vIf (!rising) 0x0010 k 56 ++ vIf (safe = 3 && cls ≠ 1) 0x0010 k 1
    ++ vIf (cls = 2 && (safe ≠ 2 || fld d 10 2 ≠ 2047 || !bit (fld d 1 1) 5)) 0x0010 k 0

/-- An enabled fan channel (R328). -/
def vFan (v : VEnv) (i : Nat) : List VErr :=
  let k := dkey 0x0A i
  let src := v.f 0x0A i 48 4
  vIf (src ≠ 0 && !(afeRef src && v.ron src)) 0x0011 k 48 src ++ vSource v k

/-- The fields of a load channel, enabled or not (R306). -/
def vLoadFields (v : VEnv) (i : Nat) : List VErr :=
  let k := dkey 0x0B i
  let d := v.d 0x0B i
  vIf (decide (sfld d 10 2 < sfld d 8 2 + 1000)) 0x0010 k 10
    ++ vIf (60000 < fld d 14 2 && fld d 14 2 ≠ 0xFFFF) 0x0010 k 14

/-- The fields of a DIO channel, enabled or not: an output has no input fields, and an input has no source (R294). -/
def vDioFields (v : VEnv) (i : Nat) : List VErr :=
  let k := dkey 0x0C i
  let d := v.d 0x0C i
  if bit (fld d 0 1) 1 then
    vIf (bits (fld d 0 1) 2 2 ≠ 0 || bit (fld d 0 1) 4) 0x0010 k 0 ++ vIf (fld d 2 2 ≠ 60) 0x0010 k 2
  else vIf (bits (fld d 1 1) 0 3 ≠ 0 || fld d 4 4 ≠ 0) 0x0012 k 1

/-- An enabled DIO channel (R294). -/
def vDio (v : VEnv) (i : Nat) : List VErr :=
  if v.b 0x0C i 0 1 1 = 1 then vSource v (dkey 0x0C i) else vIf (v.b 0x0C i 0 2 2 = 0) 0x0010 (dkey 0x0C i) 0

/-- The MEAS codes a sensor form takes (R283). -/
def formMeas (form : Nat) : List Nat :=
  if form = 1 || form = 7 then [2] else if 2 ≤ form && form ≤ 6 then [0] else if form = 8 then [1] else if form = 9 then [3]
  else if form = 10 then [0, 3] else if form = 11 then [0, 1, 2, 3] else []

/-- The fields of a front-end channel, enabled or not (R272 to R276). -/
def vAfeFields (v : VEnv) (k : Nat) : List VErr :=
  let d := v.d (keyType k) (keyIdx k)
  let exc := fld d 2 1
  let level := fld d 4 2
  let hz := fld d 6 2
  [12, 13, 14, 15, 16, 17].flatMap (fun o => vIf (64 ≤ fld d o 1 && fld d o 1 ≠ 0xFF) 0x0010 k o)
    ++ vIf (exc ≠ 0xFF && 8 ≤ exc) 0x0010 k 2
    ++ vIf (exc ≠ 0xFF && (if bit (fld d 3 1) 0 then 2000 < level else (level < 100 || 5000 < level))) 0x0010 k 4
    ++ vIf (fld d 9 1 = 8 && afeMeas d ≠ 0) 0x0010 k 9
    ++ vIf (bit (fld d 0 1) 5 && hz ≠ 0 && 1000000 < (fld d 24 2 + rateWindow (fld d 8 1)) * 2 * hz) 0x0010 k 6
    ++ vSlot k 18 (fld d 18 2)

/-- An enabled front-end channel (R270, R276). -/
def vAfe (v : VEnv) (k : Nat) : List VErr :=
  let d := v.d (keyType k) (keyIdx k)
  let direct := keyType k = 0x0F
  let meas := afeMeas d
  let exc := fld d 2 1
  let volt := exc ≠ 0xFF && !bit (fld d 3 1) 0
  let has (off : Nat) : Bool := fld d off 1 != 0xFF
  let pin (off : Nat) : List VErr :=
    let p := fld d off 1
    if p = 0xFF then [] else
      vIf (p < 64 && (!v.on 0x0E p || v.b 0x0E p 0 1 1 ≠ b2n (!direct))) 0x0011 k off (dkey 0x0E p)
  let needs := match meas with
    | 0 => has 12
    | 1 => volt && has 14 && has 15
    | 2 => volt && has 16 && has 17
    | _ => has 12 && v.b 0x0E (fld d 12 1) 0 2 1 == 1 && !has 13
  let cv := fld d 18 2
  let cj := fld d 20 4
  let both := (v.all 0x0F).map (dkey 0x0F) ++ (v.all 0x10).map (dkey 0x10)
  let other (p : Nat → Bytes → Bool) : Option Nat := both.find? (fun q => q != k && p q (v.d (keyType q) (keyIdx q)))
  [12, 13, 14, 15, 16, 17].flatMap pin ++ vIf (!needs) 0x0010 k 12
    ++ vIf (512 ≤ cv || v.f 0x22 cv 0 1 ≠ 1 || !(formMeas (v.f 0x22 cv 1 1)).contains meas) 0x0014 k 18
      (if cv < 512 then dkey 0x22 cv else 0)
    ++ vIf (cj ≠ 0 && !(afeRef cj && v.ron cj)) 0x0011 k 20 cj
    ++ (match other (fun q e => direct && keyType q == 0x0F && afeConv e == afeConv d && bit (fld e 1 1) 3 == bit (fld d 1 1) 3) with
      | some q => vIf true 0x0017 k 1 q | none => [])
    ++ (match other (fun q e => keyType q != keyType k && afeConv e == afeConv d) with | some q => vIf true 0x0013 k 1 q | none => [])
    ++ (match other (fun q e => exc != 0xFF && fld e 2 1 == exc && (keyType q != keyType k || afeConv e != afeConv d)) with
      | some q => vIf true 0x0013 k 2 q | none => [])

/-- A threshold switch (R284). -/
def vSwitch (v : VEnv) (n : Nat) : List VErr :=
  let r := v.f 0x11 n 4 4
  vIf (!(afeRef r && v.ron r)) 0x0011 (dkey 0x11 n) 4 r

/-- An interlock link (R286). -/
def vLink (v : VEnv) (n : Nat) : List VErr :=
  let k := dkey 0x12 n
  let d := v.d 0x12 n
  let r := fld d 4 4
  let ty := keyType r
  let lo := keyIdx r
  let hi := lo + fld d 2 1 - 1
  let most := if ty = 0x0A then 2047 else if ty = 0x0D then 65535 else 1
  vIf (!v.on 0x11 (fld d 1 1)) 0x0011 k 1 (dkey 0x11 (fld d 1 1))
    ++ vIf (!(0x0A ≤ ty && ty ≤ 0x0D) || descCount ty ≤ hi || most < fld d 8 2 || (ty = 0x0C && lo ≤ 47 && 48 ≤ hi)
        || (ty = 0x0B && lo ≤ 23 && 24 ≤ hi)
        || (ty = 0x0C && (List.range (fld d 2 1)).any (fun j => v.b 0x0C (lo + j) 0 1 1 == 0))) 0x0012 k 4 r

/-- A curve slot (R175, R282). -/
def vCurve (v : VEnv) (n : Nat) : List VErr :=
  let k := dkey 0x22 n
  let d := v.d 0x22 n
  let form := fld d 1 1
  let finite (offs : List Nat) : Bool := offs.all (fun o => (f32 (fld d o 4)).isSome)
  match fld d 0 1 with
  | 0 => []
  | 1 =>
    let pts := fld d 28 1
    let xs := (List.range pts).map (fun j => (f32 (fld d (32 + 8 * j) 4)).getD 0)
    let rising := (List.range (pts - 1)).all (fun j => decide (xs.getD j 0 < xs.getD (j + 1) 0))
    let ok := (List.range pts).all (fun j => (f32 (fld d (32 + 8 * j) 4)).isSome)
    vIf (form = 0 || 11 < form) 0x0010 k 1
      ++ vIf (form = 11 && (pts < 2 || 48 < pts || !ok || !rising)) 0x0010 k 28
      ++ vIf (!allZero (cut d 29 3) || !allZero (cut d 416 96)) 0x0010 k 29
  | 2 =>
    vIf (form = 0 || 4 < form) 0x0010 k 1 ++ vIf (!finite [4, 8, 12]) 0x0010 k 4 ++ vIf (decide (sfld d 18 2 ≤ sfld d 16 2)) 0x0010 k 18
      ++ vIf (fld d 20 2 < 100) 0x0010 k 20 ++ vIf (9900 < fld d 22 2 || fld d 22 2 ≤ fld d 20 2) 0x0010 k 22
      ++ vIf (!allZero (cut d 24 488)) 0x0010 k 24
  | _ => vIf true 0x0010 k 0

/-- The system descriptor (R124). -/
def vSys (v : VEnv) : List VErr :=
  let k := dkey 0x20 0
  let d := v.d 0x20 0
  let p := fld d 0 4
  vIf (1 ≤ p && p ≤ 511) 0x0015 k 0 ++ vIf (3600000 < p) 0x0010 k 0
    ++ vIf (fld d 8 4 < fld d 4 2 || 86400 < fld d 8 4) 0x0010 k 8

/-- A mask's one bits run contiguously from the most significant bit. -/
def maskOk (m : Nat) : Bool := (List.range 33).any (fun n => m == 4294967296 - 2 ^ n)

/-- A host port (R125). -/
def vHostPort (v : VEnv) (p : Nat) : List VErr :=
  let k := dkey 0x21 p
  let d := v.d 0x21 p
  let ip (q : Nat) : Nat := beNat (cut (v.d 0x21 q) 16 4)
  let mask (q : Nat) : Nat := beNat (cut (v.d 0x21 q) 20 4)
  let gw := beNat (cut d 24 4)
  let net (a m : Nat) : Nat := a &&& m
  if p < 3 then
    if !v.on 0x21 p then [] else
      vIf (ip p = 0) 0x0010 k 16 ++ vIf (!maskOk (mask p)) 0x0010 k 20 ++ vIf (gw ≠ 0 && net gw (mask p) ≠ net (ip p) (mask p)) 0x0010 k 24
        ++ (match (List.range p).find? (fun q => v.on 0x21 q && (net (ip p) (mask q) == net (ip q) (mask q)
            || net (ip p) (mask p) == net (ip q) (mask p))) with
          | some q => vIf true 0x0010 k 16 (dkey 0x21 q) | none => [])
  else if p < 5 then
    vIf (! [125000, 250000, 500000, 1000000].contains (fld d 12 4)) 0x0010 k 12
      ++ vIf (! [1000000, 2000000, 4000000, 5000000].contains (fld d 16 4)) 0x0010 k 16
  else if p < 7 then
    vIf (! [115200, 230400, 460800, 921600, 1000000, 2000000, 4000000].contains (fld d 12 4)) 0x0010 k 12
  else []

/-- A signer key is empty or a point of the curve (R127). -/
def vSigner (v : VEnv) (n : Nat) : List VErr :=
  let d := v.d 0x23 n
  vIf (!allZero d && !onCurve (beNat (cut d 0 32)) (beNat (cut d 32 32))) 0x0019 (dkey 0x23 n) 0

/-- Rules on the fields of one listed descriptor, which hold whether it is enabled or not. -/
def vFields (v : VEnv) (k : Nat) : List VErr :=
  let i := keyIdx k
  match keyType k with
  | 0x03 => vCableFields v i | 0x04 => vMastFields v i | 0x05 => vLoopFields v i | 0x06 => vGroupFields v i
  | 0x07 => vDryerFields v i | 0x08 => [80, 88].flatMap (vQty k (v.d 0x08 i)) | 0x09 => vElemFields v i
  | 0x0A => vFanFields v i | 0x0B => vLoadFields v i | 0x0C => vDioFields v i
  | 0x0F => vAfeFields v k | 0x10 => vAfeFields v k
  | _ => []

/-- Rules of one listed descriptor, those that bind it to others where it is enabled. -/
def vRules (v : VEnv) (k : Nat) : List VErr :=
  let i := keyIdx k
  match keyType k with
  | 0x20 => vSys v
  | 0x21 => vHostPort v i
  | 0x22 => vCurve v i
  | 0x23 => vSigner v i
  | dt =>
    if !v.on dt i then [] else match dt with
      | 0x03 => vCable v i | 0x04 => vMast v i | 0x05 => vLoop v i | 0x06 => vGroup v i | 0x07 => vDryer v i
      | 0x08 => vRoute v i | 0x09 => vElem v i | 0x0A => vFan v i | 0x0B => vSource v k | 0x0C => vDio v i
      | 0x0D => vSource v k | 0x0F => vAfe v k | 0x10 => vAfe v k | 0x11 => vSwitch v i | 0x12 => vLink v i
      | _ => []

/-! ## Limits of the whole rig, and what runs -/

/-- CAPACITY: the full-on class (R328), the DIO budget (R295) and the power cap (R375). -/
def vCapacity (v : VEnv) : List VErr :=
  let full := (v.all 0x0A).filter (fun i => v.b 0x0A i 0 2 2 == 2)
  let charge (i : Nat) : Nat := if v.b 0x0C i 0 1 1 = 1 then 40 else if v.b 0x0C i 0 2 2 = 2 then 210 else 75
  vIf (32 < full.length) 0x0017 (dkey 0x0A 0) 0 ++ vIf (4000 < ((v.all 0x0C).map charge).sum) 0x0017 (dkey 0x0C 0) 0
    ++ vIf (v.s.overCap v.t) 0x0017 (dkey 0x20 0) 0

/-- RUNNING: fields that may change only while a Mast, dryer or route stands (R224, R239, R257). -/
def vRunning (v : VEnv) : List VErr :=
  let same (dt i off n : Nat) : Bool := cut (v.d dt i) off n == cut (v.s.d dt i) off n
  let mast (m : Nat) : List VErr :=
    let run := (v.s.mast m).st = 2 || (v.s.mast m).st = 3
    let ok := same 0x04 m 2 2 && same 0x04 m 8 72 && v.b 0x04 m 0 2 1 == v.s.db 0x04 m 0 2 1
    vIf (run && !ok) 0x001B (dkey 0x04 m) 0
  let dryer (i : Nat) : List VErr :=
    let st := (v.s.dryer i).w.st
    vIf (st ≠ 0 && st ≠ 12 && !(same 0x07 i 2 90 && same 0x07 i 96 32)) 0x001B (dkey 0x07 i) 0
  let elem (e : Nat) : Bool := v.b 0x09 e 0 1 2 == v.s.db 0x09 e 0 1 2 && same 0x09 e 16 45
  let route (r : Nat) : List VErr :=
    let es := (v.s.routePos r).map (v.s.elemAt r)
    vIf ((v.s.route r).runs && !(same 0x08 r 1 1 && same 0x08 r 16 64 && es.all elem)) 0x001B (dkey 0x08 r) 0
  (v.s.enabled 0x04).flatMap mast ++ (v.s.enabled 0x07).flatMap dryer ++ (v.s.enabled 0x08).flatMap route

/-- PORT_BUSY: the transaction names a Halyard port on which PORT_ENUMERATE runs. -/
def vBusy (v : VEnv) : List VErr :=
  v.named.flatMap (fun k => vIf (keyType k = 0x01 && ((v.s.hp (keyIdx k)).run.isSome || (v.s.hp (keyIdx k)).asked.isSome)) 0x001A k 0)

/-- The errors of the descriptors themselves, in order of DTYPE and INDEX. COMPUTE never fails: 16 samples of the longest
kind fit the window (R202). -/
def vStatic (v : VEnv) : List VErr :=
  (v.t.map (fun e => e.1)).flatMap (fun k => vRange v k ++ vFields v k ++ vRules v k) ++ vPoints v ++ vCapacity v

/-- Validation of the rig that would result (R137). -/
def validate (v : VEnv) : List VErr := vStatic v ++ vRunning v ++ vBusy v

/-- An error record (R132): OTHER is 0 where a field names no descriptor. -/
def VErr.bytes (e : VErr) : Bytes :=
  le 2 e.reason ++ [BitVec.ofNat 8 (keyType e.key), 0#8] ++ le 4 (keyIdx e.key) ++ le 2 e.off ++ zeros 2
    ++ le 4 (if descExists (keyType e.other) (keyIdx e.other) then e.other else 0)

end Sys2Proof.Machine
end

