-- ==== Sys2Proof/Machine/Power.lean ====
section
/-! DEFINITION. Clock domains (R31, R32, R369), supplies and crystals (R362, R363, R368), OPTIME's saving (R365) and
POWER_PLAN (R373 to R375). -/
namespace Sys2Proof.Machine

/-! ## Clock domains -/

/-- A domain, in the order of R369. -/
def State.domain (s : State) (d : Nat) : Domain := Tbl.rd Domain.dflt s.pwr.domains d

/-- Write a domain. -/
def State.setDomain (s : State) (d : Nat) (v : Domain) : State :=
  { s with pwr := { s.pwr with domains := Tbl.wr Domain.dflt s.pwr.domains d v } }

/-- An enabled loop lies in the half of SVA (domain 7) or SVB (8). -/
def State.halfUsed (s : State) (d : Nat) : Bool := (s.enabled 0x05).any (fun l => decide (l / 16 < 128) == (d == 7))

/-- A slot of the half is due at the next tick edge, or an injection or capture is active there (R31). -/
def State.halfDue (s : State) (d : Nat) : Bool :=
  (s.enabled 0x05).any (fun l => decide (l / 16 < 128) == (d == 7)
    && ((s.loop l).inj.isSome || (match (s.loop l).due with | some t => decide (t ≤ s.shv.tick) | none => false)))

/-- What shows that the Bosun has worked: journal, refresh, Telltale, sessions heard, and handshakes (R31). -/
def State.bsnMarks (s : State) : List Nat :=
  [s.jrnl.head, s.start.refreshAt, s.tt.next, s.sess.length, (s.sess.map (fun e => e.2.heardAt)).sum, s.auth.ctxs.length]

/-- What shows that the memory link has carried a transfer: journal, closed commands, rig, spill, scrubbing, OPTIME (R31). -/
def State.nvmMarks (s : State) : List Nat :=
  [s.jrnl.head, s.host.queue.length + s.host.running.length, s.rig.version, s.rig.delta.length,
    (s.trend.streams.map (fun e => e.2.spilledTo)).sum, s.aon.scrubPos, s.aon.optimeSavedAt]

/-- Work is pending for a domain (R31). -/
def State.domainWanted (s : State) (d : Nat) : Bool :=
  match d with
  | 0 => true
  | 1 => !s.host.queue.isEmpty || !s.host.running.isEmpty || s.bsnMarks != s.pwr.bsnSeen
  | 4 => s.scan.active || !s.scan.intake.isEmpty || !s.scan.regs.isEmpty || !s.scan.jobs.isEmpty
  | 5 => s.hal.any (fun e => decide (e.1 < 64) && (e.2.taking || e.2.run.isSome))
  | 6 => s.hal.any (fun e => decide (64 ≤ e.1) && (e.2.taking || e.2.run.isSome))
  | 7 => s.halfDue 7
  | 8 => s.halfDue 8
  | 12 => !s.host.running.isEmpty || s.nvmMarks != s.pwr.nvmSeen
  | 13 => !s.tt.fifo.isEmpty || s.scan.snap.isSome || s.shv.caps.any (fun e => e.2.st == 1)
      || s.trend.streams.any (fun e => e.2.spill && decide (e.2.spilledTo + 4096 ≤ e.2.written))
  | 2 => [0, 1, 2].any (fun p => s.portEn p && (s.port p).up)
  | 3 => [3, 4, 5, 6, 7].any (fun p => s.portEn p)
  | 9 => !(s.enabled 0x0F).isEmpty || !(s.enabled 0x10).isEmpty || !(s.enabled 0x11).isEmpty
  | 10 => !(s.enabled 0x0B).isEmpty || !(s.enabled 0x0C).isEmpty
  | 11 => !(s.enabled 0x0A).isEmpty
  | _ => false

/-- A domain hoists; a hoist of AFE begins its calibration (R272). -/
def hoist (d : Nat) (s : State) : State :=
  let v := s.domain d
  if v.hoisted then s else
    let s1 := s.setDomain d { v with
      hoisted := true, pll := true, hoists := (v.hoists + 1) % 4294967296,
      locks := if v.pll then v.locks else (v.locks + 1) % 4294967296, at_ := s.aon.nowUs }
    if d = 9 then { s1 with start := { s1.start with afeCalibrating := true } } else s1

/-- A domain furls. -/
def furl (d : Nat) (s : State) : State :=
  let v := s.domain d
  if v.hoisted then s.setDomain d { v with hoisted := false, at_ := s.aon.nowUs } else s

/-- The 50 MHz that the module drives on RMII_REFCLK: while the port is enabled and the land is an output, whether NET is
hoisted or not and through a warm reset (R43, R394). -/
def State.refclkOut (s : State) : Bool :=
  s.pwr.phase != .cold && s.portEn 2 && !s.pwr.vioLow && s.pdb 2 14 2 1 == 1

/-- SVA and SVB keep their PLL while an enabled loop lies in their half (R32), and start it when a commit stages the first
enabled loop of a half. -/
def State.halfKept (s : State) (d : Nat) : Bool :=
  s.halfUsed d || (match s.rig.txn with
    | some t => t.waiting && (enabledIn (s.staged t) 0x05).any (fun l => decide (l / 16 < 128) == (d == 7))
    | none => false)

/-- The PLLs of SVA and SVB that must run do (R32). -/
def sheavePlls (s : State) : State :=
  forAll [7, 8] (fun d st => if st.halfKept d then st.setDomain d { st.domain d with pll := true } else st) s

/-- DOMAIN_HOIST (R31): work is pending for the domain, or, for the Bosun and the memory link, a timer or transfer comes up.
AON is always hoisted. -/
def domainHoist (d : Nat) (s : State) : State :=
  if s.pwr.phase == .cold || d = 0 || 13 < d || !(s.domainWanted d || d = 1 || d = 12) then s else
    let s1 := hoist d s
    s1.setDomain d { s1.domain d with workAt := s.aon.nowUs }

/-- No work is pending for a domain, for BSN since 1 ms and for NVM since 100 µs (R31). -/
def State.domainDone (s : State) (d : Nat) : Bool :=
  !s.domainWanted d && (match d with
    | 1 => s.due ((s.domain 1).workAt + 1000)
    | 12 => s.due ((s.domain 12).workAt + 100)
    | _ => true)

/-- The 25 MHz reference runs while any domain but AON is hoisted or a loop is configured, and for an RMII port that drives
RMII_REFCLK (R32, R43). -/
def State.refRuns (s : State) : Bool :=
  s.pwr.phase != .cold
    && ((List.range 14).any (fun d => d != 0 && (s.domain d).hoisted) || !(s.enabled 0x05).isEmpty || s.refclkOut)

/-- DOMAIN_FURL (R31). -/
def domainFurl (d : Nat) (s : State) : State :=
  if d = 0 || 13 < d || !s.domainDone d then s else furl d s

/-- PLL_STOP (R32): 10 ms after a furl. -/
def pllStop (d : Nat) (s : State) : State :=
  let v := s.domain d
  if v.hoisted || !v.pll || ((d = 7 || d = 8) && s.halfKept d) || !s.due (v.at_ + 10000) then s
  else s.setDomain d { v with pll := false }

/-- At a tick edge the domains hoist that have work (R22 step 1, R31). -/
def domainEdge (s : State) : State :=
  if s.pwr.phase == .cold then s else
    let s1 := forAll ((List.range 14).filter (fun d => d != 0 && s.domainWanted d)) domainHoist s
    { s1 with pwr := { s1.pwr with bsnSeen := s.bsnMarks, nvmSeen := s.nvmMarks } }

/-- SVA and SVB furl in the slack of a tick unless a slot of theirs is due at the next edge (R22 step 6): they were hoisted for
220 µs of it. -/
def sheaveSlack (s : State) : State :=
  forAll [7, 8] (fun d st =>
    if (st.domain d).hoisted && !st.domainWanted d then
      let s1 := furl d st
      let v := s1.domain d
      s1.setDomain d { v with hoistedUs := v.hoistedUs + 220 }
    else st) s

/-- Time passes for every hoisted domain. -/
def domainTime (us : Nat) (s : State) : State :=
  { s with pwr := { s.pwr with domains := s.pwr.domains.map (fun e =>
      (e.1, if e.2.hoisted then { e.2 with hoistedUs := e.2.hoistedUs + us } else e.2)) } }

/-! ## POWER_PLAN -/

/-- A domain's 16-byte record (R374). -/
def domainRecord (s : State) (d : Nat) : Bytes :=
  let v := s.domain d
  let since := s.aon.nowUs - s.pwr.statsFrom * 1000
  let ms := if d = 0 then s.optime - s.pwr.statsFrom else v.hoistedUs / 1000
  le 4 (if d = 0 then 0 else v.hoists) ++ le 4 (min 0xFFFFFFFF ms) ++ le 4 v.locks
    ++ le 2 (Config.avgMw d (if d = 0 then since else v.hoistedUs) since).toNat ++ zeros 2

/-- CLOCKS (R374). -/
def State.clocks (s : State) : Nat := b2n s.pwr.xt25Fail + 2 * b2n s.pwr.xt32Fail + 4 * b2n s.pwr.vioLow

/-- The reply data of POWER_PLAN (R374). -/
def planData (s : State) : Bytes :=
  le 2 s.pwr.vsup ++ le 2 s.pwr.vio ++ [BitVec.ofNat 8 (b2n s.pwr.sag), BitVec.ofNat 8 s.clocks] ++ zeros 2
    ++ le 4 s.pwr.sags ++ le 2 s.pwr.capMw ++ le 2 (min 0xFFFF (estMw s.rig.live))
    ++ (List.range 8).flatMap (fun g => le 2 (Tbl.rd 0 s.pwr.vhal g))
    ++ (List.range 4).flatMap (fun g => le 2 (Tbl.rd 0 s.pwr.vdio g))
    ++ (List.range 4).flatMap (fun g => le 2 (Tbl.rd 0 s.pwr.vbb g))
    ++ le 6 s.pwr.statsFrom ++ zeros 2 ++ (List.range 14).flatMap (domainRecord s)

/-- The domain counters at 0 from now on (R373). -/
def clearStats (s : State) : State :=
  forAll (List.range 14) (fun d st => st.setDomain d { st.domain d with hoists := 0, hoistedUs := 0, locks := 0 })
    { s with pwr := { s.pwr with statsFrom := s.optime } }

/-- POWER_PLAN: ACTION 1 GET, 2 CLEAR, 3 SET (R373, R375). -/
def runPowerPlan (c : Cmd) (s : State) : State × Res :=
  match fld c.payload 0 1 with
  | 2 =>
    let s1 := clearStats s
    (s1, Res.ok (planData s1))
  | 3 =>
    let s1 := { s with pwr := { s.pwr with capMw := fld c.payload 2 2 } }
    if s1.overCap s.rig.live then (s, Res.conflict) else (s1, Res.ok (planData s1))
  | _ => (s, Res.ok (planData s))

/-! ## Supplies and crystals -/

/-- VSUP_SAG (R362). -/
def vsupSag (cV : Nat) (s : State) : State :=
  let s1 := { s with pwr := { s.pwr with vsup := cV } }
  if s.pwr.phase == .cold || s.pwr.sag || 850 ≤ cV then s1
  else { s1 with pwr := { s1.pwr with sag := true, sagAt := s.aon.nowUs, sags := satInc 0xFFFFFFFF s.pwr.sags } }

/-- VSUP_SAG_END (R362). -/
def vsupSagEnd (cV : Nat) (s : State) : State :=
  { s with pwr := { s.pwr with vsup := cV, sag := s.pwr.sag && decide (cV < 900) } }

/-- VIO_LOW (R363): the lands that follow VIO take their disabled states, and every die takes LOCKOUT as active. -/
def vioLow (cV : Nat) (s : State) : State :=
  let s1 := { s with pwr := { s.pwr with vio := cV } }
  if 270 ≤ cV || s.pwr.vioLow then s1 else lockoutSense 7 { s1 with pwr := { s1.pwr with vioLow := true } }

/-- VIO_RECOVERY (R363). -/
def vioRecovery (cV : Nat) (s : State) : State :=
  let s1 := { s with pwr := { s.pwr with vio := cV } }
  if cV < 290 || !s.pwr.vioLow then s1 else lockoutSense s.io.lockLand { s1 with pwr := { s1.pwr with vioLow := false } }

/-- A crystal fails or is taken back into use (R368). -/
def setCrystal (xt25 failed : Bool) (s : State) : State :=
  if xt25 then { s with pwr := { s.pwr with xt25Fail := failed } } else { s with pwr := { s.pwr with xt32Fail := failed } }

/-- OPTIME is written to the memory die. -/
def saveOptime (atFail : Bool) (s : State) : State :=
  { s with aon := { s.aon with savedOptime := s.optime, savedAtFail := atFail, optimeSavedAt := s.aon.nowUs } }

/-- OPTIME_SAVE (R365): every 60 s. -/
def optimeSave (s : State) : State :=
  if s.up && s.due (s.aon.optimeSavedAt + 60000000) then saveOptime false s else s

/-! ## Meanings -/

/-- DOMAIN_HOIST (R31). -/
def execDomainHoist (domain : Nat) (s : State) : Host.Outcome State Fault Refusal := .next (domainHoist domain s)
/-- DOMAIN_FURL (R31). -/
def execDomainFurl (domain : Nat) (s : State) : Host.Outcome State Fault Refusal := .next (domainFurl domain s)
/-- PLL_STOP (R32). -/
def execPllStop (domain : Nat) (s : State) : Host.Outcome State Fault Refusal := .next (pllStop domain s)
/-- VSUP_SAG (R362). -/
def execVsupSag (cV : Nat) (s : State) : Host.Outcome State Fault Refusal := .next (vsupSag cV s)
/-- VSUP_SAG_END (R362). -/
def execVsupSagEnd (cV : Nat) (s : State) : Host.Outcome State Fault Refusal := .next (vsupSagEnd cV s)
/-- VIO_LOW (R363). -/
def execVioLow (cV : Nat) (s : State) : Host.Outcome State Fault Refusal := .next (vioLow cV s)
/-- VIO_RECOVERY (R363). -/
def execVioRecovery (cV : Nat) (s : State) : Host.Outcome State Fault Refusal := .next (vioRecovery cV s)
/-- XT25_FAIL (R368). -/
def execXt25Fail (s : State) : Host.Outcome State Fault Refusal := .next (setCrystal true true s)
/-- XT32_FAIL (R368). -/
def execXt32Fail (s : State) : Host.Outcome State Fault Refusal := .next (setCrystal false true s)
/-- CRYSTAL_RECOVERY (R368). -/
def execCrystalRecovery (xt25 : Bool) (s : State) : Host.Outcome State Fault Refusal := .next (setCrystal xt25 false s)
/-- OPTIME_SAVE (R365). -/
def execOptimeSave (s : State) : Host.Outcome State Fault Refusal := .next (optimeSave s)

end Sys2Proof.Machine
end

