-- ==== Sys2Proof/Machine/Rig.lean ====
section
/-! DEFINITION. The rig (chapter 05): images and their signatures, transactions, the common boundary, saving, selecting
and loading. -/
namespace Sys2Proof.Machine

/-! ## Images (R121, R122, R126) -/

/-- `n` bytes of a memory from address `a`, in one pass. -/
def memBytes : Nat → Nat → Memory → Bytes
  | 0, _, _ => []
  | n + 1, a, [] => 0#8 :: memBytes n (a + 1) []
  | n + 1, a, (k, v) :: t => if a < k then 0#8 :: memBytes n (a + 1) ((k, v) :: t) else v :: memBytes n (a + 1) t

/-- A memory that holds these bytes from address 0 and nothing else. -/
def memOf : Nat → Bytes → Memory
  | _, [] => []
  | a, b :: bs => if b = 0#8 then memOf (a + 1) bs else (a, b) :: memOf (a + 1) bs

/-- A bank: 0 A, 1 B. -/
def State.rigBank (s : State) (b : Nat) : Bank := if b = 0 then s.rig.bankA else s.rig.bankB

/-- Write a bank. -/
def State.setRigBank (s : State) (b : Nat) (v : Bank) : State :=
  if b = 0 then { s with rig := { s.rig with bankA := v } } else { s with rig := { s.rig with bankB := v } }

/-- The public half of the module key (R127). -/
def moduleKeyPub : Nat × Nat := affine (pointMul Config.moduleKey.toNat p256Gx p256Gy)

/-- The key a SIGNER code names; none for an empty slot (R126, R127). -/
def State.signerKey (s : State) (n : Nat) : Option (Nat × Nat) :=
  if n = 0 then some moduleKeyPub
  else
    let d := s.d 0x23 n
    if n < 3 && !allZero d then some (beNat (d.take 32), beNat (d.drop 32)) else none

/-- BODY_LEN of the image in a bank, as its header reads. -/
def Bank.bodyLen (b : Bank) : Nat := fld (memBytes 64 0 b.mem) 16 4

/-- The header is right (R121); `len` is the LENGTH an UPLOAD gave. -/
def headerOk (hd : Bytes) (len : Option Nat) : Bool :=
  let body := fld hd 16 4
  let dev := fld hd 24 8
  fld hd 0 4 == 0x4752584C && fld hd 4 2 == 1 && fld hd 7 1 == 0 && body % 8 == 0 && decide (body ≤ 4194176)
    && (dev == 0 || dev == Config.deviceId.toNat) && fld hd 46 2 == 0 && allZero (cut hd 48 16)
    && (match len with | none => true | some n => n == body + 128)

/-- The descriptors of a record: `run` of them, `dlen` bytes each. -/
def recordDescs (dlen : Nat) : Nat → Nat → Bytes → List (Nat × Bytes)
  | 0, _, _ => []
  | n + 1, k, bs => (k, bs.take dlen) :: recordDescs dlen n (k + 1) (bs.drop dlen)

/-- The records of a body: their number and descriptors, or none when one breaks R122 or R123. `next` is the least key
the next record may begin at. -/
def parseRecords : Nat → Nat → Bytes → Option (Nat × List (Nat × Bytes))
  | 0, _, bs => if bs = [] then some (0, []) else none
  | n + 1, next, bs =>
    if bs = [] then some (0, []) else
      let dt := fld bs 0 1
      let dlen := fld bs 2 2
      let i := bits (fld bs 4 4) 0 17
      let run := bits (fld bs 4 4) 17 11
      let ok := fld bs 1 1 == 0 && bits (fld bs 4 4) 28 4 == 0 && descLen dt != 0 && dlen == descLen dt
        && decide (1 ≤ run) && decide (run ≤ 1024) && descExists dt i && descExists dt (i + run - 1)
        && (dt != 0x02 || (i % 1024 == 0 && run == 1024)) && decide (next ≤ dkey dt i)
        && decide (8 + run * dlen ≤ bs.length)
      if !ok then none else
        match parseRecords n (dkey dt (i + run)) (bs.drop (8 + run * dlen)) with
        | none => none
        | some (m, l) => some (m + 1, recordDescs dlen run (dkey dt i) (bs.drop 8) ++ l)

/-- The descriptors of a list that are not at their reset values; site keys are never taken from an image (R127). -/
def imageTable (l : List (Nat × Bytes)) : Tbl Bytes :=
  l.filter (fun e => keyType e.1 != 0x23 && e.2 != descReset (keyType e.1) (keyIdx e.1))

/-- An error about the image as a whole. -/
def imgErr (reason : Nat) : VErr := { reason := reason, key := 0, off := 0, other := 0 }

/-- The signature of the image in a bank holds (R126); a word in error breaks it (R421). -/
def sigOk (s : State) (b : Bank) : Bool :=
  let n := 64 + b.bodyLen
  let bs := memBytes (n + 64) 0 b.mem
  match s.signerKey (fld bs 6 1) with
  | none => false
  | some (x, y) => !b.bad && ecdsaVerify x y (sha256 (bs.take n)) (beNat (cut bs n 32)) (beNat (cut bs (n + 32) 32))

/-- Header, records and signature of the image in a bank (R132, R141): the rig it describes, with the signers in force,
or the first error. -/
def readImage (s : State) (b : Bank) (len : Option Nat) : VErr ⊕ Tbl Bytes :=
  let hd := memBytes 64 0 b.mem
  if !headerOk hd len then .inl (imgErr 0x0002)
  else
    match parseRecords (b.bodyLen / 8 + 1) 0 ((memBytes (64 + b.bodyLen) 0 b.mem).drop 64) with
    | none => .inl (imgErr 0x0003)
    | some (n, l) =>
      if n ≠ fld hd 20 4 then .inl (imgErr 0x0002)
      else if !sigOk s b then .inl (imgErr 0x0001)
      else .inr (imageTable l ++ s.signers)

/-! ## Fields and delta records (R120) -/

/-- A staged field is of a signer. -/
def Staged.signer (f : Staged) : Bool := keyType f.key == 0x23

/-- The descriptor keys a list of fields names. -/
def stagedKeys (l : List Staged) : List Nat := (l.map (·.key)).eraseDups

/-- The keys at which two rigs differ. -/
def changedKeys (old new : Tbl Bytes) : List Nat :=
  ((old ++ new).map (fun e => e.1)).eraseDups.filter (fun k =>
    descOf old (keyType k) (keyIdx k) != descOf new (keyType k) (keyIdx k))

/-! ## The common boundary (R133, R138) -/

/-- A cycle start is to come (R133). -/
def State.scanRuns (s : State) : Bool := s.period != 0 || s.scan.extra

/-- An output at an activation: `old` is the state before it. A committed host value becomes zero (R25), and the channel
of an output that ends turns off, a load keeping its wire model (R138). What a die counts since its start goes on, and a
latched fault stays until FAULT_CLEAR (R298, R303, R319, R341). -/
def outActivate (old : State) (k : Nat) (s : State) : State :=
  let i := keyIdx k
  let zero := s.outOn k && s.srcKind k = 0 && (!old.outOn k || old.srcKind k ≠ 0)
  let s1 := if zero then { s with io := { s.io with host := Tbl.wr 0 s.io.host k 0 } } else s
  let was := old.en (keyType k) i
  let now := s.en (keyType k) i
  if was && now && !(keyType k = 0x0C && old.db 0x0C i 0 1 1 ≠ s.db 0x0C i 0 1 1) then s1
  else match keyType k with
    | 0x0A =>
      let c := s.fan i
      s1.setFan i { FanCh.dflt with
        runUs := c.runUs, starts := c.starts, fault := c.fault, tries := c.tries,
        st := if c.fault = 1 && s.fanClass i ≠ 2 then 5 else 0 }
    | 0x0B =>
      let c := { (s.load i).turnOff s.aon.nowUs with sq := [] }
      s1.setLoad i (if now then c.coldWire (s.ld i) else c)
    | 0x0C =>
      let c := (s.dio i).turnOff s.aon.nowUs
      (endTests i s1).setDio i { c with first := true, test := none, high := c.high && decide (4 ≤ c.fault) }
    | _ => s1.setAo i { AoCh.dflt with short := (s.ao i).short }

/-- RANGE of a front-end channel's descriptor (R272). -/
def startRange (d : Bytes) : Nat := fld d 9 1

/-- A front-end channel at an activation (R138, R281): its first result after a change is SETTLING, and the pass of its
converter begins anew, as does a scan that had stopped (R278). -/
def afeActivate (old new : Bytes) (r : Nat) (s : State) : State :=
  let was := bit (fld old 0 1) 0
  let now := bit (fld new 0 1) 0
  let c := s.afe r
  let s1 :=
    if !now then s.setAfe r { AfeCh.dflt with results := c.results }
    else if !was then s.setAfe r { AfeCh.dflt with range := startRange new, results := c.results }
    else if old = new then s
    else s.setAfe r { c with
      range := startRange new, settle := true, arCount := 0, restarts := 0, second := false, toLowest := false }
  let again (d : Bytes) (st : State) : State :=
    if keyType r = 0x10 && bit (fld d 0 1) 0 && (old ≠ new || (st.conv (afeConv d)).stuck) then st.setConv (afeConv d) Conv.dflt
    else st
  again new (again old s1)

/-- A threshold switch at an activation (R285): one that is newly enabled, takes another source or is disabled is deasserted;
CHANGES and SINCE go on (R292). -/
def switchActivate (old new : Bytes) (n : Nat) (s : State) : State :=
  let was := bit (fld old 0 1) 0
  let now := bit (fld new 0 1) 0
  if was && now && cut old 4 4 = cut new 4 4 then s
  else
    let s1 := setSwitch n false s
    s1.setSw n { s1.sw n with count := 0, failAs := false }

/-- A Halyard port at an activation: its switch follows ENABLE (R147). -/
def halActivate (old new : Bytes) (p : Nat) (s : State) : State :=
  let was := bit (fld old 0 1) 0
  let now := bit (fld new 0 1) 0
  if was = now then s else if now then switchOn p s else switchOff p .off s

/-- A cable whose descriptor changes: its front restarts and its front log is not kept (R185, R194). -/
def cableActivate (c : Nat) (s : State) : State :=
  restartFront c { s with trend := { s.trend with logs := Tbl.wr [] s.trend.logs c [] } }

/-- A point at an activation: a change of ENABLE sets the entry's reset values; a change of ENABLE, BRANCH or HEIGHT
restarts the front of its cable, before and after (R185). -/
def pointActivate (old new : Bytes) (p : Nat) (s : State) : State :=
  let s1 := if bit (fld old 8 1) 0 = bit (fld new 8 1) 0 then s else s.setPoint p PointE.dflt
  let cable (d : Bytes) : Nat := p / 1024 * 16 + bits (fld d 8 1) 1 4
  if cut old 8 1 = cut new 8 1 && cut old 10 2 = cut new 10 2 then s1
  else restartFront (cable new) (restartFront (cable old) s1)

/-- A host port takes its changed settings (R138): its link restarts, which loses what was partly received, being sent and
queued (R38), and a port that is disabled loses what it queued (R36). -/
def portRestart (p : Nat) (s : State) : State :=
  let s1 := if p < 5 || !s.portEn p then dropQueued p s else s
  if p < 3 then
    let s2 := s1.setPort p { s1.port p with up := false }
    { s2 with net := { s2.net with frags := s2.net.frags.filter (fun x => x.iface != p) } }
  else if p < 5 then
    { s1 with net := { s1.net with can := s1.net.can.filter (fun x => x.port != p),
                                   busOff := s1.net.busOff.filter (· != p) } }
  else if s1.portEn p then s1 else s1.setPort p { s1.port p with window := false, empty := false }

/-- A host port at an activation: its settings stand until the commit's reply has been sent (R138). -/
def portActivate (old new : Bytes) (p : Nat) (s : State) : State :=
  if old = new || (Tbl.rd none s.net.held p).isSome then s
  else { s with net := { s.net with held := Tbl.wr none s.net.held p (some old) } }

/-- The reply of the commit still waits to be sent, or is being sent. -/
def State.commitReplyWaits (s : State) : Bool :=
  s.net.ports.any (fun e => !e.2.sending.isEmpty
    || e.2.outQ.any (fun o => !o.notice && fld o.bytes 6 2 == 0x0303 && fld o.bytes 32 8 == s.net.heldBy))

/-- The host ports take what the commit changes once its reply has been sent (R138). -/
def portsIfDue (s : State) : State :=
  if s.net.held.isEmpty || s.commitReplyWaits then s
  else forAll (s.net.held.map (fun e => e.1)) portRestart { s with net := { s.net with held := [] } }

/-- The timeouts of the last rig applied reach the dies (R379). -/
def setTimeouts (s : State) : State :=
  forAll [1, 2, 3] (fun d st =>
    st.setDie d { st.die d with safeTimeout := st.safeTimeout, keepWindow := st.keepWindow }) s

/-- One descriptor at an activation; `old` is the state before it, `s` has the new rig (R133, R138). -/
def activateKey (old : State) (k : Nat) (s : State) : State :=
  let i := keyIdx k
  let a := old.d (keyType k) i
  let b := s.d (keyType k) i
  match keyType k with
  | 0x01 => halActivate a b i s
  | 0x02 => pointActivate a b i s
  | 0x03 => if a = b then s else cableActivate i s
  | 0x04 => mastActivate a b i s
  | 0x05 => loopActivate a b i s
  | 0x06 => if bit (fld a 0 1) 0 = bit (fld b 0 1) 0 then s else s.setGrp i Grp.dflt
  | 0x07 => dryActivate a b i s
  | 0x08 => routeActivate a b i s
  | 0x09 => elemActivate b i s
  | 0x0A => outActivate old k s
  | 0x0B => outActivate old k s
  | 0x0C => outActivate old k s
  | 0x0D => outActivate old k s
  | 0x0F => afeActivate a b k s
  | 0x10 => afeActivate a b k s
  | 0x11 => switchActivate a b i s
  | 0x20 => setTimeouts (periodChanged (fld a 0 4) s)
  | 0x21 => portActivate a b i s
  | _ => s

/-- The new rig takes effect in every block it names (R133). -/
def switchRig (keys : List Nat) (new : Tbl Bytes) (s : State) : State :=
  let s1 := forAll keys keepForCycle s
  forcesNow (sheavePlls (forAll keys (activateKey s) { s1 with rig := { s1.rig with live := new } }))

/-- Keys an activation names: the staged descriptors, or for a LOAD every change. -/
def State.actKeys (s : State) (t : Txn) : List Nat :=
  if t.mode = 2 then changedKeys s.rig.live (s.staged t) else stagedKeys t.staged

/-- Activation: every block switches, RIG_VERSION rises, and with it the VERSION of each object whose descriptor changes,
and the transaction closes (R133, R425). In a LOAD every enabled loop samples. -/
def activate (s : State) : State :=
  match s.rig.txn with
  | none => s
  | some t =>
    let new := s.staged t
    let keys := s.actKeys t
    let loops := if t.mode = 2 then ((enabledIn new 0x05).map (dkey 0x05)).filter (fun k => !keys.contains k) else []
    let changed := changedKeys s.rig.live new
    let v := (s.rig.version + 1) % 4294967296
    let s1 := switchRig (keys ++ loops) new { s with
      rig := { s.rig with version := v, txn := none }, net := { s.net with heldBy := t.commit } }
    ttOccur 0 0x0341 0 (le 4 v ++ le 8 t.commit)
      (portsIfDue (forAll (keys.filter changed.contains) (fun k st => touchObj k t.commit st) s1))

/-- The lead of T_act after DONE, µs (R133). -/
def Txn.lead (t : Txn) : Nat := if t.mode = 2 then 100000 else 1000

/-- The transaction waits and its lead has passed at the edge now. -/
def State.leadPast (s : State) : Bool :=
  match s.rig.txn with
  | some t => t.waiting && decide (t.doneAt + t.lead ≤ s.aon.nowUs)
  | none => false

/-- T_act is a scan-cycle start (R133). -/
def State.scanBound (s : State) : Bool :=
  match s.rig.txn with
  | some t => t.scan && s.scanRuns
  | none => false

/-- RIG_ACTIVATION at a tick edge (R133). -/
def rigActivation (s : State) : State := if s.up && s.leadPast && !s.scanBound then activate s else s

/-- The activation that a scan-cycle start brings (R133). -/
def scanActivation (s : State) : State := if s.leadPast && s.scanBound then activate s else s

/-! ## Transactions (R128 to R132) -/

/-- The open transaction closes without a commit: an UPLOAD leaves its bank EMPTY (R131). -/
def closeTxn (s : State) : State :=
  match s.rig.txn with
  | none => s
  | some t =>
    let s1 := { s with rig := { s.rig with txn := none } }
    if t.mode = 1 then s1.setRigBank t.bank Bank.empty else s1

/-- The transaction of a session that ends closes, unless its commit is durable (R128). -/
def endTxn (sess : Nat) (s : State) : State :=
  match s.rig.txn with
  | some t => if t.sess = sess && !t.waiting then closeTxn s else s
  | none => s

/-- A rig opcode of the holding session restarts the 600 s (R128). -/
def txnHeard (sess : Nat) (s : State) : State :=
  match s.rig.txn with
  | some t => if t.sess = sess then { s with rig := { s.rig with txn := some { t with at_ := s.aon.nowUs } } } else s
  | none => s

/-- A deferred command with this opcode is at work. -/
def State.working (s : State) (op : Nat) : Bool := s.host.running.any (fun c => c.op == op)

/-- RIG_TXN_TIMEOUT (R128). -/
def txnTimeout (s : State) : State :=
  match s.rig.txn with
  | some t => if s.up && !t.waiting && !s.working 0x0303 && s.due (t.at_ + 600000000) then closeTxn s else s
  | none => s

/-- RIG_BEGIN (R128). -/
def runRigBegin (c : Cmd) (s : State) : State × Res :=
  let mode := fld c.payload 0 1
  let bank := fld c.payload 1 1
  let bad := s.rig.txn.isSome || (mode = 1 && s.rig.base = bank) || (mode = 2 && (s.rigBank bank).st ≠ 2)
  if bad then (s, Res.conflict)
  else
    let t : Txn := { slot := c.slot, sess := c.sess, mode := mode, bank := bank, length := fld c.payload 4 4,
                     staged := [], commitSet := [], at_ := s.aon.nowUs, waiting := false, commit := 0, doneAt := 0,
                     scan := false, image := [] }
    let s1 := { s with rig := { s.rig with txn := some t } }
    (if mode = 1 then s1.setRigBank bank { Bank.empty with st := 1 } else s1, Res.ok [])

/-- Key of the descriptor an item names (R129): module-wide descriptors by DINDEX. -/
def itemKey (it : Bytes) (off : Nat) : Nat :=
  let dt := fld it (off + 4) 1
  if 0x20 ≤ dt then dkey dt (fld it (off + 8) 4) else dkey dt (keyIdx (fld it off 4))

/-- Two fields name the same bytes. -/
def Staged.same (f x : Staged) : Bool := x.key == f.key && x.off == f.off && x.bytes.length == f.bytes.length

/-- A field is staged after those before it, so that it stands over them: an item for the same bytes takes the place of an
earlier one (R130). -/
def stage (f : Staged) (l : List Staged) : List Staged := l.filter (fun x => !f.same x) ++ [f]

/-- One RIG_PUT item (R129, R130). -/
def putItem (c : Cmd) (i : Nat) (s : State) : State × Nat :=
  let it := cut c.payload (4 + 32 * i) 32
  let dt := fld it 4 1
  let bytes := cut it 16 (fld it 5 1)
  match s.rig.txn with
  | none => (s, 0x0403)
  | some t =>
    if t.sess ≠ c.sess || t.waiting then (s, 0x0403)
    else if t.mode = 1 && dt = 0 then
      let b := s.rigBank t.bank
      let a := fld it 8 4
      if t.length < a + bytes.length then (s, 0x0403)
      else (s.setRigBank t.bank { b with mem := Memory.write b.mem a bytes }, 0)
    else if t.mode = 0 && dt ≠ 0 then
      let k := itemKey it 0
      let f : Staged := { key := k, off := fld it 6 2, bytes := bytes, item := i }
      if 4096 ≤ t.staged.length then (s, 0x0403)
      else
        let s1 := { s with rig := { s.rig with txn := some { t with staged := stage f t.staged } } }
        (touchObj k c.jseq s1, 0)
    else (s, 0x0403)

/-- RIG_PUT (R129). -/
def runRigPut (c : Cmd) (s : State) : State × Res :=
  let r := runItems (fld c.payload 0 2) (putItem c) s
  (r.1, Res.multi r.2 [])

/-- RIG_ABORT (R131). -/
def runRigAbort (c : Cmd) (s : State) : State × Res :=
  match s.rig.txn with
  | none => (s, Res.conflict)
  | some t => if t.waiting || (t.sess ≠ c.sess && c.role < 4) then (s, Res.conflict) else (closeTxn s, Res.ok [])

/-- Reply data of a commit (R132). -/
def commitData (version boundary held : Nat) (errs : List VErr) : Bytes :=
  let es := errs.take 64
  le 4 version ++ [BitVec.ofNat 8 boundary, BitVec.ofNat 8 es.length] ++ le 2 held ++ zeros 8 ++ es.flatMap VErr.bytes

/-- A commit that fails writes nothing and leaves the transaction open (R132). -/
def commitFail (errs : List VErr) (s : State) : State × Res := (s, Res.of 0x0403 (commitData 0 0 0 errs))

/-- RIG_COMMIT begins its work (R132). -/
def runRigCommit (c : Cmd) (s : State) : State × Res :=
  match s.rig.txn with
  | none => commitFail [] s
  | some t =>
    if t.sess ≠ c.sess || t.waiting || s.working 0x0303 then commitFail [] s
    else ({ s with rig := { s.rig with txn := some { t with commitSet := t.staged } } }, Res.later)

/-- The transaction is DONE and waits for its boundary (R133, R134). The Bosun stages the values, which starts the PLL of a
half that they give its first enabled loop (R32). -/
def commitWait (c : Cmd) (t : Txn) (held : Nat) (s : State) : State × Res :=
  let s1 := { s with rig := { s.rig with txn := some { t with waiting := true, commit := c.jseq, doneAt := s.aon.nowUs } } }
  (sheavePlls s1, Res.ok (commitData ((s.rig.version + 1) % 4294967296) (if t.scan && s.scanRuns then 2 else 1) held []))

/-- A commit of FIELDS (R132): one delta record per staged field; signers go to the keys region. DESIGN CHOICE (log 56): the
command has no items, and its records carry the place of their field among the staged fields that are no signer's. -/
def commitFields (c : Cmd) (t : Txn) (s : State) : State × Res :=
  let fs := t.commitSet
  let keys := stagedKeys fs
  let recs := fs.filter (fun f => !f.signer)
  let errs := validate { t := putStaged s.rig.live fs, s := s, named := keys }
    ++ vIf (4096 < s.rig.delta.length + recs.length) 0x0018 (dkey 0x20 0) 0
  if !errs.isEmpty then commitFail errs s
  else
    let rows := (List.range recs.length).filterMap (fun j => recs[j]?.map (fun f =>
      ({ jseq := c.jseq, item := j, key := f.key, off := f.off, bytes := f.bytes } : Delta)))
    let s1 := { s with rig := { s.rig with
      delta := rows.foldl (fun l r => insertDelta r l) s.rig.delta
      live := putStaged s.rig.live (fs.filter Staged.signer) } }
    let scan := keys.any (fun k => keyType k == 0x01 || keyType k == 0x02 || keyType k == 0x03 || keyType k == 0x22)
    commitWait c { t with staged := fs, commitSet := [], scan := scan } fs.length s1

/-- A commit of an UPLOAD (R132): the bank becomes VALID and nothing becomes live. -/
def commitUpload (t : Txn) (s : State) : State × Res :=
  let b := s.rigBank t.bank
  match readImage s b (some t.length) with
  | .inl e => commitFail [e] s
  | .inr img =>
    let errs := vStatic { t := img, s := s, named := [] }
    if !errs.isEmpty then commitFail errs s
    else ({ s with rig := { s.rig with txn := none } }.setRigBank t.bank { b with st := 2 }, Res.ok (commitData 0 0 0 []))

/-- A commit of a LOAD (R132): the bank becomes base and next and the delta log is cleared. -/
def commitLoad (c : Cmd) (t : Txn) (s : State) : State × Res :=
  let b := s.rigBank t.bank
  if b.st ≠ 2 then commitFail [] s
  else match readImage s b none with
    | .inl e => commitFail [e] s
    | .inr img =>
      let errs := validate { t := img, s := s, named := (List.range 128).map (dkey 0x01) }
      if !errs.isEmpty then commitFail errs s
      else
        let s1 := { s with rig := { s.rig with
          base := t.bank, next := t.bank, delta := s.rig.delta.filter (fun r => decide (c.jseq < r.jseq)) } }
        commitWait c { t with image := imageTable img, scan := true } 0 s1

/-- The background work of a commit ends (R132). -/
def rigCommitEnd (c : Cmd) (s : State) : State × Res :=
  match s.rig.txn with
  | none => commitFail [] s
  | some t =>
    if t.sess ≠ c.sess || t.waiting then commitFail [] s
    else match t.mode with
      | 0 => commitFields c t s
      | 1 => commitUpload t s
      | _ => commitLoad c t s

/-! ## Saving and selecting (R139, R140, R143) -/

/-- A record of an image (R122). -/
def recordBytes (dt i run : Nat) (data : Bytes) : Bytes :=
  [BitVec.ofNat 8 dt, 0#8] ++ le 2 (descLen dt) ++ le 4 (i + run * 131072) ++ data

/-- The number of records of a rig and its body: points by whole ports, every other descriptor by itself (log 33). -/
def rigBody (t : Tbl Bytes) : Nat × Bytes :=
  let one (e : Nat × Bytes) : Bytes := recordBytes (keyType e.1) (keyIdx e.1) 1 e.2
  let ports := ((listedIdx t 0x02).map (· / 1024)).eraseDups
  let port (p : Nat) : Bytes :=
    recordBytes 0x02 (1024 * p) 1024 ((List.range 1024).flatMap (fun a => descOf t 0x02 (1024 * p + a)))
  let low := t.filter (fun e => keyType e.1 == 0x01)
  let high := t.filter (fun e => decide (0x03 ≤ keyType e.1) && keyType e.1 != 0x23)
  (low.length + ports.length + high.length, low.flatMap one ++ ports.flatMap port ++ high.flatMap one)

/-- The image of the live rig, signed with the module key (R121, R126, R139). BUILD, whether DEVICE_ID names this module,
and the nonce of the signature are free values. -/
def saveImage (c : Cmd) (s : State) : Bytes × State :=
  let f := s.draw
  let k := f.2.draw
  let rb := rigBody s.rig.live
  let dev := if bit f.1 32 then Config.deviceId.toNat else 0
  let hd := le 4 0x4752584C ++ le 2 1 ++ zeros 2 ++ le 4 f.1 ++ le 4 s.rig.version ++ le 4 rb.2.length ++ le 4 rb.1
    ++ le 8 dev ++ le 8 c.jseq ++ le 6 s.optime ++ zeros 18
  let body := hd ++ rb.2
  let sg := ecdsaSign Config.moduleKey.toNat (k.1 % (p256N - 1) + 1) (sha256 body)
  (body ++ be 32 sg.1 ++ be 32 sg.2, k.2)

/-- The bank RIG_SAVE writes: the idle one (R128, R143). -/
def State.idleBank (s : State) : Nat :=
  if s.rig.base = 0 then 1 else if s.rig.base = 1 then 0
  else if s.rig.bankA.st = 2 && s.rig.bankB.st ≠ 2 then 1 else 0

/-- RIG_SAVE begins (R139): until it ends the idle bank is INVALID. -/
def runRigSave (c : Cmd) (s : State) : State × Res :=
  if s.rig.txn.isSome then (s, Res.conflict)
  else
    let im := saveImage c s
    let s1 := im.2.setRigBank s.idleBank { st := 3, mem := memOf 0 im.1, bad := false }
    ({ s1 with rig := { s1.rig with imaged := s.rig.delta } }, Res.later)

/-- RIG_SAVE ends (R139): the bank read back becomes base and next, and the log is cleared of the records that the image
holds. DESIGN CHOICE (log 57): records written while it worked are in no image, and stay. -/
def rigSaveEnd (_ : Cmd) (s : State) : State × Res :=
  let i := s.idleBank
  let b := s.rigBank i
  if !sigOk s b then (s, Res.of 0x0600 [])
  else
    let s1 := s.setRigBank i { b with st := 2 }
    let s2 := { s1 with rig := { s1.rig with
      base := i, next := i, delta := s.rig.delta.filter (fun r => !s.rig.imaged.contains r), imaged := [] } }
    (s2, Res.ok (BitVec.ofNat 8 i :: zeros 3))

/-- RIG_BANK_SELECT (R140). -/
def runBankSelect (c : Cmd) (s : State) : State × Res :=
  let b := fld c.payload 0 1
  if (s.rigBank b).st ≠ 2 then (s, Res.conflict) else ({ s with rig := { s.rig with next := b } }, Res.ok [])

/-! ## Reading (R144) -/

/-- BANK_A or BANK_B of RIG_GET. -/
def bankInfo (b : Bank) : Bytes :=
  if b.st = 2 || b.st = 3 then
    let hd := memBytes 64 0 b.mem
    [BitVec.ofNat 8 b.st] ++ cut hd 6 1 ++ zeros 2 ++ cut hd 12 4 ++ cut hd 8 4 ++ le 4 (128 + b.bodyLen) ++ cut hd 32 8
  else BitVec.ofNat 8 b.st :: zeros 23

/-- WHAT 0 of RIG_GET. -/
def rigStatus (s : State) : Bytes :=
  let t := match s.rig.txn with
    | none => zeros 12
    | some t => [if t.waiting then 2#8 else 1#8, BitVec.ofNat 8 t.mode] ++ le 8 t.sess ++ le 2 t.staged.length
  le 4 s.rig.version ++ [BitVec.ofNat 8 s.rig.base, BitVec.ofNat 8 s.rig.next] ++ t ++ le 2 s.rig.delta.length ++ zeros 4
    ++ bankInfo s.rig.bankA ++ bankInfo s.rig.bankB ++ be 32 moduleKeyPub.1 ++ be 32 moduleKeyPub.2

/-- RIG_GET (R144). -/
def runRigGet (c : Cmd) (s : State) : State × Res :=
  let n := fld c.payload 2 2
  let k := itemKey c.payload 4
  let off := fld c.payload 16 2
  match fld c.payload 0 1 with
  | 0 => (s, Res.ok (rigStatus s))
  | 1 => (s, Res.ok (cut (descOf s.rig.live (keyType k) (keyIdx k)) off n))
  | 2 => (s, match s.rig.txn with
      | some t =>
        if t.sess = c.sess then
          let new := if t.waiting then s.staged t else putStaged s.rig.live t.staged
          Res.ok (cut (descOf new (keyType k) (keyIdx k)) off n)
        else Res.conflict
      | none => Res.conflict)
  | _ => (s, Res.ok (memBytes n 0 (((s.rigBank (fld c.payload 1 1)).mem.filter (fun e =>
      decide (fld c.payload 12 4 ≤ e.1))).map (fun e => (e.1 - fld c.payload 12 4, e.2)))))

/-! ## Loading at a start (R135, R141 to R143) -/

/-- What a reset leaves of the transaction (R128, R135): a change that is DONE waits for the start. -/
def rigReset (s : State) : State :=
  match s.rig.txn with
  | none => s
  | some t =>
    if t.waiting then
      let changed := changedKeys s.rig.live (s.staged t)
      { s with rig := { s.rig with txn := none, pendingDone := some (t.commit, (s.actKeys t).filter changed.contains) } }
    else closeTxn s

/-- The rig of a bank with delta records on top, when its signature and validation pass (R141). -/
def tryBank (s : State) (b : Nat) (ds : List Delta) : VErr ⊕ Tbl Bytes :=
  match readImage s (s.rigBank b) none with
  | .inl e => .inl e
  | .inr img =>
    let t := putDeltas img ds
    match vStatic { t := t, s := s, named := [] } with
    | [] => .inr t
    | e :: _ => .inl e

/-- The rig a start brings, with BASE, NEXT and the log that go with it, and the record of a fallback (R141, R143); and whether
a change that was DONE is lost, by a fallback or with the log of a base that is not loaded (R140). -/
def loadRig (s : State) : State × Bool :=
  let put (t : Tbl Bytes) (b : Nat) (ds : List Delta) (st : State) : State :=
    { st with rig := { st.rig with live := t, base := b, next := b, delta := ds } }
  let b := s.rig.next
  if b = 0xFF then (put (putDeltas bareRig s.rig.delta ++ s.signers) 0xFF s.rig.delta s, false)
  else
    let ds := if b = s.rig.base then s.rig.delta else []
    match tryBank s b ds with
    | .inr t => (put t b ds s, decide (b ≠ s.rig.base))
    | .inl e =>
      let mark (i : Nat) (st : State) : State := st.setRigBank i { st.rigBank i with st := 3 }
      let note (dest : Nat) (st : State) : State :=
        ttOccur 0 0x03C1 0 ([BitVec.ofNat 8 b, BitVec.ofNat 8 dest] ++ le 2 e.reason) st
      let o := 1 - b
      let s1 := mark b s
      if (s.rigBank o).st ≠ 2 then (note 0xFF (put (bareRig ++ s.signers) 0xFF [] s1), true)
      else match tryBank s o [] with
        | .inr t => (note o (put t o [] s1), true)
        | .inl _ => (note 0xFF (put (bareRig ++ s.signers) 0xFF [] (mark o s1)), true)

/-- A change found DONE and not activated becomes live with the rig (R135, R142). DESIGN CHOICE (log 58): one that is lost
with its base, because RIG_BANK_SELECT has named the other bank, never becomes live and raises no version. -/
def rigResume (fell : Bool) (s : State) : State :=
  match s.rig.pendingDone with
  | none => s
  | some (j, keys) =>
    let s1 := { s with rig := { s.rig with pendingDone := none } }
    if fell then s1 else
      forAll keys (fun k st => touchObj k j st)
        { s1 with rig := { s1.rig with version := (s.rig.version + 1) % 4294967296 } }

end Sys2Proof.Machine
end

