-- ==== Sys2Proof/Machine/Resets.lean ====
section
/-! DEFINITION. Resets (R376 to R378, R385, R387 to R390), power failure (R362), errors of the Hold (R21), the refresh of
the dies (R30, R389) and the scrubber (R421). -/
namespace Sys2Proof.Machine

/-! ## What every reset of the control die ends -/

/-- A running or asked enumeration is gone, and the results of the last one (R158); the line and its switch stay as they are
(R161, R163). -/
def dropEnum (h : HalPort) : HalPort := { h with asked := none, run := none, sum := EnumSum.zero, recs := [] }

/-- The scan engine forgets everything but the schedule that runs on the ports (R163). -/
def scanReset (x : Scan) : Scan :=
  { Scan.reset with portCycle := x.portCycle, active := x.active, startUs := x.startUs, marks := x.marks, regs := x.regs }

/-- Sessions, contexts, queues, reassemblies, the mailbox, the open firmware update, the rig transaction, trend streams,
captures and the scan end with the control die (R92, R101, R112, R128, R377, R394). -/
def controlReset (s : State) : State :=
  let s1 := rigReset s
  { s1 with
    sess := [], auth := { s1.auth with ctxs := [] },
    host := { s1.host with queue := [], running := [] },
    net := { s1.net with
      ports := Tbl.wr PortSt.dflt (Tbl.mapv PortSt.dflt (fun q => { PortSt.dflt with up := q.up })
        (s1.net.ports.filter (fun e => e.1 < 2))) 2 { PortSt.dflt with up := false },
      frags := [], can := [], busOff := [], icmp := [], held := [], heldBy := 0 },
    spi := Spi.reset, fw := { s1.fw with upd := none }, tt := { s1.tt with cursors := [], offset := none },
    scan := scanReset s.scan, hal := Tbl.mapv HalPort.dflt dropEnum s1.hal,
    trend := { s1.trend with streams := [] },
    shv := { s1.shv with caps := [] },
    start := { s1.start with ready := 0, ports := 0, resetReq := none } }

/-! ## Cold reset (R377, R390) -/

/-- A die in reset: nothing configured; it goes on sensing LOCKOUT when powered. -/
def Die.cold (d : Die) : Die := { Die.dflt with sense := d.sense, senseAt := d.senseAt }

/-- Every output is off and every die restarts; `kind` is the kind of the start that follows, 0 after a loss of power
(R376). -/
def coldReset (kind : Nat) (s : State) : State :=
  let s1 := ttColdReset (controlReset s)
  let io : Fld := { Fld.reset with
    dies := [1, 2, 3].foldl (fun t d => Tbl.wr Die.dflt t d (s1.die d).cold) [], lockLand := s1.io.lockLand,
    lockRec := s1.io.lockRec, host := s1.io.host }
  { s1 with
    io := io, net := Net.reset, hal := [], scan := Scan.reset, points := [], fronts := [], cableOvr := [],
    pwr := { s1.pwr with phase := .cold, pgood := false, sag := false, coldKind := kind,
                         domains := [(0, { Domain.dflt with hoisted := true })] },
    start := { s1.start with warmRun := 0, warmResets := 0, afeCalibrating := false },
    shv := { Shv.reset with ints := s1.shv.ints },
    masts := { s1.masts with m := [], led := [] },
    dryers := { s1.dryers with d := [] }, routes := { s1.routes with r := [], e := [] } }

/-- POWER_FAIL (R362): VSUP stands below 5.5 V, or a SAG has lasted 500 ms. Step 4 saves the ledger, the save records and OPTIME; the cold reset follows. While the control die
is restarting nothing is saved. -/
def powerFail (cV : Nat) (s : State) : State :=
  let s0 := { s with pwr := { s.pwr with vsup := cV } }
  if 550 ≤ cV && !(s.pwr.sag && s.due (s.pwr.sagAt + 500000)) then s0 else
    match s.pwr.phase with
    | .cold => { s0 with pwr := { s0.pwr with coldKind := 0 } }
    | .warm => coldReset 0 s0
    | .run =>
      let s1 := saveOptime true (forAll (s0.enabled 0x08) routeSave (forAll (s0.enabled 0x07) drySave (saveLedger s0)))
      coldReset 0 { s1 with pwr := { s1.pwr with saveDone := true } }

/-- NRST_ASSERT (R378). -/
def nrstAssert (s : State) : State :=
  let s1 := { s with pwr := { s.pwr with nrstLow := true } }
  if s.pwr.phase == .cold then s1 else coldReset 3 s1

/-! ## Warm reset (R385, R388) -/

/-- The reset notice reaches a die (R385 step 1, R387, R388): its KEEP_WINDOW counts from the first notice of the run; a
die in logic silence stays in its safe states. -/
def notice (d : Nat) (s : State) : State :=
  let x := s.die d
  if !x.conf || x.keeping || x.keepOver then s
  else if x.silent then s.setDie d { x with silent := false, keepOver := true }
  else s.setDie d { x with keeping := true, keepAt := s.aon.nowUs }

/-- A warm reset begins: the control die restarts while the dies hold their keepers, and the domain counters start anew
(R374); the third of a run becomes a cold reset (R388). -/
def warmReset (kind : Nat) (s : State) : State :=
  match s.pwr.phase with
  | .cold => s
  | _ =>
    let n := s.start.warmRun + 1
    if n = 3 then coldReset 5 s
    else
      let s1 := clearStats (ttDropFifo (controlReset s))
      let s2 := { s1 with
        pwr := { s1.pwr with phase := .warm }
        start := { s1.start with kind := kind, startOptime := s.optime, warmRun := n,
                                 warmResets := (s1.start.warmResets + 1) % 4294967296 } }
      forAll [1, 2, 3] (fun d st => applyDie d (notice d st)) s2

/-- A reset that a command asked for (R391): once its reply is handed over, or 100 ms after DONE. -/
def takeReset (s : State) : State :=
  match s.start.resetReq with
  | none => s
  | some r => if r.kind = 4 then coldReset 4 s else warmReset r.kind s

/-- The reset waits for a reply that is still queued (R391). -/
def State.replyWaits (s : State) (r : ResetReq) : Bool :=
  (s.port r.port).outQ.any (fun o => !o.notice) || !(s.port r.port).sending.isEmpty

/-- Whether the reset a command asked for begins now. -/
def resetIfDue (s : State) : State :=
  match s.start.resetReq with
  | none => s
  | some r => if !s.replyWaits r || s.due (r.at_ + 100000) then takeReset s else s

/-- LOCKSTEP_MISMATCH (R17). -/
def lockstepMismatch (s : State) : State := warmReset 0x13 s

/-- BOSUN_WATCHDOG (R379): no refresh for twice SAFE_TIMEOUT. -/
def bosunWatchdog (s : State) : State :=
  if s.up && s.due (s.start.refreshAt + 2 * s.safeTimeout * 1000) then warmReset 0x15 s else s

/-! ## The refresh and logic silence (R30, R379, R389) -/

/-- BOSUN_REFRESH: every SAFE_TIMEOUT / 4 (R30) every die that runs is refreshed, and leaves logic silence at its next latch
(R389). -/
def bosunRefresh (s : State) : State :=
  if !s.up || !s.rdy 4 || !s.due (s.start.refreshAt + s.safeTimeout * 250) then s else
    let s1 := { s with start := { s.start with refreshAt := s.aon.nowUs } }
    forAll [1, 2, 3] (fun d st => st.setDie d { st.die d with refreshAt := st.aon.nowUs, silent := false }) s1

/-- LOGIC_SILENCE (R389): a die without refresh for its SAFE_TIMEOUT, outside a hold, applies its safe states. -/
def logicSilence (d : Nat) (s : State) : State :=
  let x := s.die d
  if s.up && x.conf && !x.frozen && s.due (x.refreshAt + x.safeTimeout * 1000) then
    applyDie d (s.setDie d { x with silent := true })
  else s

/-- KEEP_WINDOW_EXPIRY (R387): the die applies its safe states. -/
def keepExpiry (d : Nat) (s : State) : State :=
  let x := s.die d
  if x.keeping && s.due (x.keepAt + x.keepWindow * 1000) then
    applyDie d (s.setDie d { x with keeping := false, keepOver := true })
  else s

/-! ## Errors of the Hold (R21) -/

/-- Region of an address in the order of R18: 0 point table to 6 free, 7 Sheave SRAM (R346). -/
def holdRegion (a : Nat) : Nat :=
  if a < 0x200000 then 0 else if a < 0xC00000 then 1 else if a < 0xE00000 then 2 else if a < 0x1000000 then 3
  else if a < 0x1100000 then 4 else if a < 0x1200000 then 5 else if a < 4294967296 then 6 else 7

/-- Address and region as the records give them (R346). -/
def eccData (a : Nat) : Bytes := [BitVec.ofNat 8 (holdRegion a)] ++ zeros 3 ++ le 4 (a % 4294967296)

/-- The Telltale record in ring position `p` is left damaged (R342, R344). -/
def damageRecord (p : Nat) (s : State) : State :=
  match (s.tt.ring.map (fun e => e.1)).find? (fun n => (n + 65535) % 65536 == p) with
  | none => s
  | some n => { s with tt := { s.tt with ring := Tbl.wr TRec.dflt s.tt.ring n { s.trec n with damaged := true } } }

/-- The reaction to a double-bit error by region (R21, R195). The command that meets one in the host queues is refused
where it executes. -/
def doubleError (a : Nat) (s : State) : State :=
  match holdRegion a with
  | 0 => s.setPoint (a / 16) { s.point (a / 16) with qual := 4 }
  | 1 => trendDamage (a - 0x200000) s
  | 2 => damageRecord ((a - 0xC00000) / 32) s
  | 3 => capDamage (a - 0xE00000) s
  | 4 => if 0x10F0000 ≤ a then restartFront ((a - 0x10F0000) / 32) s else s
  | 5 => warmReset 0x14 s
  | 7 => slotEcc (a % 4194304 / 1024) s
  | _ => s

/-- One error met by a read (R21): recorded, and corrected or reacted to. -/
def holdError (e : HoldEcc) (s : State) : State :=
  let src := if holdRegion e.addr = 7 then dkey 0x05 (e.addr % 4194304 / 1024) else 0
  if !s.up then s
  else if !e.double then ttOccur 0 0x0D41 src (eccData e.addr) s
  else if holdRegion e.addr = 7 then doubleError e.addr s
  else doubleError e.addr (ttOccur 0 0x0DC1 0 (eccData e.addr) s)

/-- Errors in order. -/
def holdErrors (l : List HoldEcc) (s : State) : State := forAll l holdError s

/-- A double-bit error in the host queues, other than the front table, hits the command (R21). -/
def eccHits (l : List HoldEcc) : Bool := l.any (fun e => e.double && holdRegion e.addr == 4 && decide (e.addr < 0x10F0000))

/-! ## The scrubber (R421) -/

/-- Interval between blocks: 10.5 s in the catch-up pass, 3,852 s after it. -/
def State.scrubWait (s : State) : Nat := if s.aon.scrubLeft = 0 then 3852000000 else 10500000

/-- A word left with a double-bit error: 0 a journal entry, 1 a rig bank, 2 a firmware slot. -/
def scrubBad (code : Nat) (s : State) : State :=
  let k := code % 2 ^ 64
  match code / 2 ^ 64 with
  | 0 => { s with jrnl := { s.jrnl with bad := (k :: s.jrnl.bad).eraseDups } }
  | 1 => s.setRigBank k { s.rigBank k with bad := true }
  | 2 => if k = 0 then { s with fw := { s.fw with slot0 := { s.fw.slot0 with bad := true } } }
    else { s with fw := { s.fw with slot1 := { s.fw.slot1 with bad := true } } }
  | _ => s

/-- SCRUB_BLOCK: the next 4 KiB block; `bad` names what of the model's stores the words left in error belong to. -/
def scrubBlock (bad : List Nat) (s : State) : State :=
  if !s.up || !s.due (s.aon.scrubAt + s.scrubWait) then s else
    forAll bad scrubBad { s with aon := { s.aon with
      scrubPos := (s.aon.scrubPos + 1) % 8192, scrubLeft := s.aon.scrubLeft - 1, scrubAt := s.aon.nowUs } }

/-! ## Meanings -/

/-- POWER_FAIL (R362). -/
def execPowerFail (cV : Nat) (s : State) : Host.Outcome State Fault Refusal := .next (powerFail cV s)
/-- NRST_ASSERT (R378). -/
def execNrstAssert (s : State) : Host.Outcome State Fault Refusal := .next (nrstAssert s)
/-- LOCKSTEP_MISMATCH (R17). -/
def execLockstepMismatch (s : State) : Host.Outcome State Fault Refusal := .next (lockstepMismatch s)
/-- BOSUN_WATCHDOG (R379). -/
def execBosunWatchdog (s : State) : Host.Outcome State Fault Refusal := .next (bosunWatchdog s)
/-- BOSUN_REFRESH (R30). -/
def execBosunRefresh (s : State) : Host.Outcome State Fault Refusal := .next (bosunRefresh s)
/-- LOGIC_SILENCE (R389). -/
def execLogicSilence (die : Nat) (s : State) : Host.Outcome State Fault Refusal := .next (logicSilence die s)
/-- KEEP_WINDOW_EXPIRY (R387). -/
def execKeepWindowExpiry (die : Nat) (s : State) : Host.Outcome State Fault Refusal := .next (keepExpiry die s)
/-- SCRUB_BLOCK (R421). -/
def execScrubBlock (bad : List Nat) (s : State) : Host.Outcome State Fault Refusal := .next (scrubBlock bad s)

end Sys2Proof.Machine
end

