-- ==== Sys2Proof/Machine/ScanRows.lean ====
section
/-! DEFINITION. The scan cycle as it runs: its start (R188), marks and slots (R155, R156), the scan engine's steps (R172,
R181, R193), the line events of the Halyard ports (R147, R162), the exchanges of an enumeration (R159), and the boundary of
a rig transaction (R133). -/
namespace Sys2Proof.Machine

/-! ## The cycle -/

/-- The front settings that each cable takes from its Mast (R226). -/
def wantedOvr (s : State) : Tbl Nat :=
  (s.enabled 0x04).foldl (fun t m => (mastCables (s.md m)).foldl (fun u c => Tbl.wr 0 u c (mastCableOvr s m)) t) []

/-- A cable takes the front settings that a Mast gives it; where they change its FRONT_MODE or TARGET, its front restarts
(R185, R226). -/
def takeOvr (s : State) : State :=
  let s1 := { s with cableOvr := wantedOvr s }
  let cs := ((s.cableOvr ++ s1.cableOvr).map (fun e => e.1)).eraseDups.filter (fun c =>
    s.frontMode c != s1.frontMode c || s.frontTarget c != s1.frontTarget c)
  forAll cs restartFront s1

/-- A cycle may start at the tick edge now: the engine runs, no schedule is in progress, its time has come, and the port
die is not in logic silence (R163, R188). -/
def State.startDue (s : State) : Bool :=
  s.up && !s.scan.active && !(s.die 1).silent
    && (match s.nextStart with | some t => decide (t ≤ s.aon.nowUs) | none => false)

/-- SCAN_CYCLE_START (R155, R188): a rig change that waits for it activates first (R133). -/
def cycleStart (s : State) : State :=
  if !s.startDue then s else
    let s1 := takeOvr (scanActivation s)
    let n := (s.scan.cycle + 1) % 4294967296
    let x := s1.scan
    let s2 := { s1 with scan := { x with
      cycle := n, portCycle := n, active := true, startUs := s.aon.nowUs, startMs := s.optime, extra := false, begun := false,
      old := [], marks := 0,
      thr := [], shed := 0, noticed := 0, frontsDone := false, mastDone := false } }
    (forAll (s2.enabled 0x01) startPort s2).setRdy 10

/-- The slot mark of phase k goes out on every port taking part (R155). -/
def slotMark (k : Nat) (s : State) : State :=
  if !(s.halRuns && s.scan.active && k < 4 && s.scan.marks ≤ k && s.due (s.scan.startUs + markUs k)) then s else
    let ps := (s.hal.filter (fun e => e.2.taking && (e.2.line == .ok || e.2.line == .open_))).map (fun e => e.1)
    emit (ps.map (fun p => Frame.mark p k)) { s with scan := { s.scan with marks := k + 1 } }

/-- Groups of the cycle before, if they still wait to be taken when the fronts of this one are complete, are lost: their
window has closed (R193). -/
def lateSnapshot (s : State) : State :=
  match s.scan.snap with
  | some (cyc, _) => if cyc ≠ s.scan.cycle && (frontsIfDone s).scan.frontsDone then trendSnapshot true s else s
  | none => s

/-- What the end of a cycle's last record brings: the notices still due and the end of the fronts (R180, R185). -/
def cycleTail (s : State) : State :=
  let late := s.scan.cycle ≠ 0 && !s.scan.active && s.scan.intake.isEmpty && s.scan.regs.isEmpty && s.scan.noticed < 4
  frontsIfDone (lateSnapshot (if late then phaseNotices 3 s else s))

/-- The schedule ends on a port; HALYARD is set when every port that can be is ready (R155, R381). -/
def scheduleEndRow (p dmA : Nat) (s : State) : State :=
  let s1 := scheduleEnd p dmA s
  if !s1.up || s1.scan.cycle = 0 || s1.scan.active || !s.scan.active then s1
  else cycleTail (if s1.halReady then s1.setRdy 11 else s1)

/-! ## The engine -/

/-- POINT_RECORD (R172): the oldest record, after the errors its reads met (R21). While the job queue is full, stage 6 and
with it the record waits (R190). -/
def pointRecord (ecc : List HoldEcc) (s : State) : State :=
  let s1 := drainRegs (holdErrors ecc s)
  if !s1.up || 256 ≤ s1.scan.jobs.length then s1 else
    match s1.scan.intake with
    | [] => s1
    | r :: t => cycleTail (noticesIfDue (drainRegs (takeRecord r { s1 with scan := { s1.scan with intake := t } })))

/-- FRONT_JOB (R181): the oldest job, after the errors its reads met. -/
def frontJobRow (ecc : List HoldEcc) (s : State) : State :=
  let s1 := holdErrors ecc s
  if !s1.up then s1 else
    match s1.scan.jobs with
    | [] => s1
    | c :: t => cycleTail (frontJob c { s1 with scan := { s1.scan with jobs := t } })

/-! ## Meanings -/

/-- SCAN_CYCLE_START (R188). -/
def execScanCycleStart (s : State) : Host.Outcome State Fault Refusal := .next (cycleStart s)
/-- PHASE_SLOT_MARK (R155). -/
def execPhaseSlotMark (phase : Nat) (s : State) : Host.Outcome State Fault Refusal := .next (slotMark phase s)
/-- HALYARD_SLOT_END (R156). -/
def execHalyardSlotEnd (port phase slot : Nat) (rx : SlotRx) (s : State) : Host.Outcome State Fault Refusal :=
  .next (noticesIfDue (slotEnd port phase slot rx s))
/-- SCHEDULE_END (R155). -/
def execScheduleEnd (port dmA : Nat) (s : State) : Host.Outcome State Fault Refusal := .next (scheduleEndRow port dmA s)
/-- POINT_RECORD (R172). -/
def execPointRecord (ecc : List HoldEcc) (s : State) : Host.Outcome State Fault Refusal := .next (pointRecord ecc s)
/-- FRONT_JOB (R181). -/
def execFrontJob (ecc : List HoldEcc) (s : State) : Host.Outcome State Fault Refusal := .next (frontJobRow ecc s)
/-- TREND_SNAPSHOT (R193). -/
def execTrendSnapshot (late : Bool) (s : State) : Host.Outcome State Fault Refusal := .next (trendSnapshot late s)
/-- TREND_SPILL (R191). -/
def execTrendSpill (stream : Nat) (s : State) : Host.Outcome State Fault Refusal := .next (trendSpill stream s)
/-- SWITCH_ON_PROBE (R147). -/
def execSwitchOnProbe (port : Nat) (shorted : Bool) (s : State) : Host.Outcome State Fault Refusal := .next (probeEnd port shorted s)
/-- POWERING_END (R147). -/
def execPoweringEnd (port : Nat) (s : State) : Host.Outcome State Fault Refusal := .next (poweringEnd port s)
/-- LINE_SHORT (R162). -/
def execLineShort (port : Nat) (s : State) : Host.Outcome State Fault Refusal := .next (lineShort port s)
/-- SHORT_RETRY (R162). -/
def execShortRetry (port : Nat) (s : State) : Host.Outcome State Fault Refusal := .next (shortRetry port s)
/-- LINE_FOREIGN (R162). -/
def execLineForeign (port : Nat) (s : State) : Host.Outcome State Fault Refusal := .next (lineForeign port s)
/-- LOW_SUPPLY (R162). -/
def execLowSupply (grp cV : Nat) (s : State) : Host.Outcome State Fault Refusal := .next (lowSupply grp cV s)
/-- LOW_SUPPLY_RECOVERY (R162). -/
def execLowSupplyRecovery (grp cV : Nat) (s : State) : Host.Outcome State Fault Refusal := .next (lowSupplyEnd grp cV s)
/-- LOW_LINE (R162). -/
def execLowLine (port cV : Nat) (s : State) : Host.Outcome State Fault Refusal := .next (lowLine port cV s)
/-- LOW_LINE_CLEAR (R162). -/
def execLowLineClear (port cV : Nat) (s : State) : Host.Outcome State Fault Refusal := .next (lowLineEnd port cV s)
/-- ENUMERATE_RUN_START (R159). -/
def execEnumerateRunStart (port : Nat) (s : State) : Host.Outcome State Fault Refusal := .next (enumStart port s)
/-- ENUMERATE_EXCHANGE (R159). -/
def execEnumerateExchange (port : Nat) (rx : EnumRx) (s : State) : Host.Outcome State Fault Refusal := .next (enumExchange port rx s)
/-- RIG_ACTIVATION (R133). -/
def execRigActivation (s : State) : Host.Outcome State Fault Refusal := .next (rigActivation s)
/-- RIG_TXN_TIMEOUT (R128). -/
def execRigTxnTimeout (s : State) : Host.Outcome State Fault Refusal := .next (txnTimeout s)

end Sys2Proof.Machine
end

