-- ==== Sys2Proof/Machine/Sessions.lean ====
section
/-! DEFINITION. Sessions (R62 to R67, R90 to R94, R98), keys (R88, R89), quotas (R103 to R107), the reads of the journal and
of the state (R82, R114 to R117, R383, R392), RESET (R391) and firmware updates (R84 to R86). -/
namespace Sys2Proof.Machine

/-! ## Heard and silent (R90, R91, R94) -/

/-- Host silence ends (R94). -/
def silenceEnds (s : State) : State :=
  if s.host.silence then ttOccur 0 0x0141 0 [0#8] { s with host := { s.host with silence := false } } else s

/-- A packet of a session is heard: its return path is where it came from; Operator and above end host silence and reload
the full-on watchdog (R37, R91, R339). -/
def heard (k port addr : Nat) (s : State) : State :=
  let x := s.ses k
  let s1 := s.setSes k { x with heardAt := s.aon.nowUs, silent := false, port := port, addr := addr }
  if 2 ≤ x.role then wdReload (silenceEnds { s1 with host := { s1.host with opHeard := s.aon.nowUs } }) else s1

/-- HOST_SILENCE (R94). -/
def hostSilence (s : State) : State :=
  if s.up && s.rdy 2 && !s.host.silence && s.due (s.host.opHeard + s.hostTimeout * 1000000) then
    ttOccur 0 0x0141 0 [1#8] { s with host := { s.host with silence := true } }
  else s

/-- SESSION_SILENT (R90). -/
def sessionSilent (k : Nat) (s : State) : State :=
  let x := s.ses k
  if x.live && s.due (x.heardAt + s.hostTimeout * 1000000) then s.setSes k { x with silent := true } else s

/-! ## Replies (R67, R70 to R72) -/

/-- The reply to a command. -/
def replyTo (c : Cmd) (r : Res) (s : State) : State :=
  let body := replyBlock r.status r.outcomes.length 0 0 c.jseq ++ outcomeVec r.outcomes ++ r.data
  send c.port c.addr c.slot c.sess false (packetOut c.slot c.op c.tag body (s.ses c.slot).ks) s

/-- A refusal at admission (R68). -/
def refuse (k op tag port addr status : Nat) (s : State) : State :=
  let x := s.ses k
  send port addr k x.jseq false (packetOut k op tag (replyBlock status 0 0 0 0) x.ks) s

/-- The main entry of a session's command in the ring, by its tag. -/
def State.byTag (s : State) (sess tag : Nat) : Option JEntry :=
  ((s.jrnl.ring.map (fun e => e.2)).filter (fun e =>
    e.kind == 1 && e.sess == sess && e.tag == tag && !s.jrnl.bad.contains e.jseq)).getLast?

/-- DUPLICATE (R67, R72, R112): the first result while the duplicate window holds it. -/
def dupReply (k op tag port addr : Nat) (s : State) : State :=
  let x := s.ses k
  let body := match tailTag x.tail tag with
    | some e =>
      let os := tailOutcomes x.tail e
      replyBlock 0x0500 os.length e.status 1 e.jseq ++ outcomeVec os
    | none => replyBlock 0x0500 0 0 2 0
  send port addr k x.jseq false (packetOut k op tag body x.ks) s

/-- The resends that waited for a command are answered (R67). -/
def answerWaiters (k tag : Nat) (s : State) : State :=
  let x := s.ses k
  let mine := x.waiters.filter (fun w => w.tag == tag)
  forAll mine (fun w st => dupReply k w.opcode tag w.port w.addr st)
    (s.setSes k { x with waiters := x.waiters.filter (fun w => w.tag != tag) })

/-- A command closes: its outcomes and STATUS are durable, then the reply goes out (R69, R111). -/
def closeCmd (c : Cmd) (r : Res) (s : State) : State :=
  answerWaiters c.slot c.tag (replyTo c r (jClose c.jseq 2 r.status r.outcomes s))

/-! ## The end of a session (R92, R93, R96) -/

/-- Commands of a session admitted and not yet replied. -/
def State.outstanding (s : State) (sess : Nat) : Bool :=
  s.host.queue.any (fun c => c.sess == sess) || s.host.running.any (fun c => c.sess == sess)

/-- What a session held returns to its pools. -/
def freePools (sess : Nat) (s : State) : State :=
  let s1 := endTxn sess (dropCursors sess (dropCaptures sess s))
  { s1 with
    trend := { s1.trend with streams := s1.trend.streams.filter (fun e => e.2.sess != sess) },
    fw := { s1.fw with upd := match s1.fw.upd with
      | some u => if u.sess = sess then none else some u
      | none => none },
    net := { s1.net with ports := Tbl.mapv PortSt.dflt (fun q => { q with
      outQ := q.outQ.filter (fun o => !(o.notice && o.sess == sess)) }) s1.net.ports } }

/-- An object of the session `sess` as its end by the entry `j` leaves it (R96): with the successor whose AUTH `j` is,
Orphaned or Unowned. A successor that is an Observer by then owns nothing (R87). -/
def disposeObj (e : Ending) (j key : Nat) (s : State) : State :=
  if e.reason = 3 && decide (2 ≤ s.roleOf j 0) then passObj j j (s.roleOf j 0) key s
  else if e.reason ≠ 3 && e.orphan then orphanObj j key s
  else releaseObj j key s

/-- The session in slot `k` ends as it was marked to: its journal record, its pools, its objects, its slot. -/
def finishEnd (k : Nat) (e : Ending) (s : State) : State :=
  let x := s.ses k
  let s1 := if e.reason = 0 then s else jDevice 3 x.jseq k e.reason s
  let j := if e.jseq = 0 then s1.jrnl.head else e.jseq
  let s2 := freePools x.jseq s1
  (forAll (s2.ownedBy x.jseq) (disposeObj e j) s2).setSes k Sess.dflt

/-- Sessions marked to end do so once their admitted commands have replied. -/
def endIdle (s : State) : State :=
  forAll slots (fun k st =>
    match (st.ses k).ending with
    | some e => if st.outstanding (st.ses k).jseq then st else finishEnd k e st
    | none => st) s

/-- Mark a session to end; the first mark stands. -/
def markEnd (k : Nat) (e : Ending) (s : State) : State :=
  let x := s.ses k
  s.setSes k { x with ending := some (x.ending.getD e) }

/-- SESSION_EXPIRY (R92). -/
def sessionExpiry (k : Nat) (s : State) : State :=
  let x := s.ses k
  if x.live && x.ending.isNone && s.due (x.heardAt + s.sessionExpiry * 1000000) then
    endIdle (markEnd k { reason := 1, orphan := true, jseq := 0 } s)
  else s

/-- ORPHAN_HOLD_EXPIRY (R96, R424): the objects of an owner whose hold has ended. -/
def orphanExpiry (owner : Nat) (s : State) : State :=
  let keys := (s.own.filter (fun e => e.2.own == 2 && e.2.owner == owner
    && s.due ((e.2.orphanMs + s.orphanHold * 1000) * 1000))).map (fun e => e.1)
  if !s.up || !s.rdy 0 || keys.isEmpty then s else
    let s1 := jDevice 5 owner 0xFF 1 s
    forAll keys (releaseObj s1.jrnl.head) s1

/-- BYE (R93). -/
def runBye (c : Cmd) (s : State) : State × Res :=
  (markEnd c.slot { reason := 0, orphan := fld c.payload 0 1 == 1, jseq := c.jseq } s, Res.ok [])

/-! ## HELLO (R63) -/

/-- A context that has not expired. -/
def State.ctxLive (s : State) (x : HelloCtx) : Bool := decide (s.aon.nowUs < x.at_ + 5000000)

/-- HELLO as it arrives, well formed: one token, a context and the reply. -/
def hello (tag port addr : Nat) (hostNonce : Bytes) (s : State) : State :=
  let tok := refill s.auth.tok 100 100 (s.aon.nowUs - s.auth.tokAt)
  if tok < 1000000 then s else
    let f := s.draw
    let nonce := le 16 f.1
    let cs := s.auth.ctxs.filter s.ctxLive
    let ctx : HelloCtx := { hostNonce := hostNonce, devNonce := nonce, at_ := s.aon.nowUs }
    let s1 := { f.2 with auth := { s.auth with
      ctxs := cs.drop (cs.length - 7) ++ [ctx], tok := tok - 1000000, tokAt := s.aon.nowUs } }
    let data := nonce ++ le 8 Config.deviceId.toNat ++ [BitVec.ofNat 8 s.liveCount] ++ zeros 7
    send port addr 0xFF 0 false (packetOut 0xFF 0x0101 tag (replyBlock 0 0 0 0 0 ++ data) []) s1

/-- HELLO_CONTEXT_EXPIRY (R63). -/
def ctxExpiry (nonce : Bytes) (s : State) : State :=
  { s with auth := { s.auth with
    ctxs := s.auth.ctxs.filter (fun x => x.devNonce != nonce || !s.due (x.at_ + 5000000)) } }

/-! ## AUTH (R62 to R64, R98) -/

/-- K_S (R62). -/
def sessionKey (role : Nat) (x : HelloCtx) (s : State) : Option Bytes :=
  (Tbl.rd none s.auth.keys role).map (fun k => hmac (be 32 k) ([0x4C#8, 0x58#8, 0x53#8, 0x31#8] ++ x.hostNonce ++ x.devNonce))

/-- A context is gone. -/
def dropCtx (x : HelloCtx) (s : State) : State :=
  { s with auth := { s.auth with ctxs := s.auth.ctxs.filter (· != x) } }

/-- The context an AUTH names. -/
def State.ctxOf (s : State) (payload : Bytes) : Option HelloCtx :=
  s.auth.ctxs.find? (fun x => s.ctxLive x && x.devNonce == payload.take 16)

/-- The session an AUTH opens: its own AUTH is the first command admitted (R63, R66, R103). DESIGN CHOICE (log 52): its
rate bucket starts full, less the token of the AUTH. -/
def newSession (role jseq tag port addr : Nat) (ks : Bytes) (s : State) : Sess :=
  { Sess.dflt with
    live := true, role := role, jseq := jseq, ks := ks, highTag := tag, port := port, addr := addr,
    heardAt := s.aon.nowUs, quota := s.host.defQuota, tok := (rateCap s.host.defQuota.rate - 1) * 1000000,
    tokAt := s.aon.nowUs }

/-- A takeover (R98): as its AUTH comes to execute, a live predecessor of a role not above the new one is marked to end
once its commands have replied. -/
def takeOver (c : Cmd) (s : State) : State :=
  match s.slotOf (fld c.payload 24 8) with
  | some k =>
    if k ≠ c.slot && decide ((s.ses k).role ≤ s.roleOf c.sess c.role) then
      endIdle (markEnd k { reason := 3, orphan := false, jseq := c.jseq } s)
    else s
  | none => s

/-- An AUTH is admitted: its entry, the session, the queue. -/
def admitAuth (k tag port addr : Nat) (payload ks : Bytes) (x : HelloCtx) (ecc : List HoldEcc) (s : State) : State :=
  let role := fld payload 16 1
  let j := s.jrnl.head + 1
  let c : Cmd := { jseq := j, slot := k, sess := j, role := role, op := 0x0102, tag := tag, payload := payload,
                   port := port, addr := addr, at_ := s.aon.nowUs, ecc := ecc }
  let agg := refill s.host.aggTok 10000 1000 (s.aon.nowUs - s.host.aggAt)
  let s1 := (dropCtx x s).setSes k (newSession role j tag port addr ks s)
  let s2 := { s1 with host := { s1.host with
    queue := s1.host.queue ++ [c], aggTok := agg - 1000000, aggAt := s.aon.nowUs } }
  heard k port addr (jAdmit c 0 false s2)

/-- AUTH executes: every object its predecessor left orphaned passes, when the predecessor is no longer live and the new
role is at least its role (R98); to a session lowered to Observer nothing passes (R87). -/
def runAuth (c : Cmd) (s : State) : State × Res :=
  let pred := fld c.payload 24 8
  let role := s.roleOf c.sess c.role
  let keys := if pred = 0 || (s.slotOf pred).isSome || decide (role < 2) then [] else
    (s.own.filter (fun e => e.2.own != 0 && e.2.owner == pred && decide (e.2.role ≤ role))).map (fun e => e.1)
  (forAll keys (passObj c.jseq c.sess role) s, Res.ok ([BitVec.ofNat 8 c.slot, BitVec.ofNat 8 c.role] ++ zeros 6))

/-! ## Session and journal reads -/

/-- KEEPALIVE (R79). -/
def runKeepalive (c : Cmd) (s : State) : State × Res :=
  (s, Res.ok (le 6 s.optime ++ zeros 2 ++ le 4 (s.ses c.slot).drops ++ zeros 4))

/-- SUBSCRIBE (R83). -/
def runSubscribe (c : Cmd) (s : State) : State × Res :=
  (s.setSes c.slot { s.ses c.slot with mask := fld c.payload 0 4 }, Res.ok [])

/-- GET_READY (R383). -/
def runGetReady (_ : Cmd) (s : State) : State × Res :=
  (s, Res.ok (le 8 s.readyWord ++ le 16 s.start.ports ++ le 6 s.start.startOptime ++ zeros 2 ++ le 8 s.start.startJseq
    ++ [BitVec.ofNat 8 s.start.kind, BitVec.ofNat 8 s.start.keep] ++ zeros 6))

/-- READY or PORTS differs from what the last notice reported. -/
def State.readyChanged (s : State) : Bool := s.readyWord != s.start.seenReady || s.start.ports != s.start.seenPorts

/-- A tick edge that sees the first change not yet reported starts the 10 ms of R384. -/
def readyEdge (s : State) : State :=
  if !s.readyChanged then { s with start := { s.start with readyAt := none } }
  else if s.start.readyAt.isNone then { s with start := { s.start with readyAt := some s.aon.nowUs } }
  else s

/-- READY_NOTICE (R384): the changes of 10 ms in one notice. -/
def readyNotice (s : State) : State :=
  let r := s.readyWord
  let due := match s.start.readyAt with | some t => s.due (t + 10000) | none => false
  if !s.up || !s.readyChanged || !due then s else
    let body := le 8 r ++ le 8 (r ^^^ s.start.seenReady) ++ le 16 s.start.ports
    notify 0 0x8106 body { s with start := { s.start with seenReady := r, seenPorts := s.start.ports, readyAt := none } }

/-- JOURNAL_HEAD (R114). -/
def runJournalHead (_ : Cmd) (s : State) : State × Res :=
  (s, Res.ok (le 8 s.jrnl.head ++ le 8 s.jOldest ++ le 8 s.start.startJseq ++ le 6 s.optime ++ zeros 2
    ++ le 4 s.aon.powercycle ++ le 4 s.rig.version ++ zeros 8))

/-- JOURNAL_READ (R115). -/
def runJournalRead (c : Cmd) (s : State) : State × Res :=
  let frm := max (fld c.payload 0 8) s.jOldest
  let n := min (fld c.payload 8 2) (s.jrnl.head + 1 - frm)
  (s, Res.ok (le 8 (frm + n) ++ le 2 n ++ zeros 6
    ++ (List.range n).flatMap (fun i => (s.jent (frm + i)).bytes (s.jrnl.bad.contains (frm + i)))))

/-- A session's command by its tag, with its outcomes: of a live session's duplicate window, else of the ring (R82). -/
def State.resultOf (s : State) (sess tag : Nat) : Option (JEntry × List Nat) :=
  let t := match s.slotOf sess with
    | some k => (s.ses k).tail
    | none => []
  match tailTag t tag with
  | some e => some (e, tailOutcomes t e)
  | none => (s.byTag sess tag).map (fun e => (e, s.jOutcomes e))

/-- RESULT_OF (R82). -/
def runResultOf (c : Cmd) (s : State) : State × Res :=
  let j := fld c.payload 0 8
  match s.resultOf (if j = 0 then c.sess else j) (fld c.payload 8 8) with
  | none => (s, Res.ok (zeros 16))
  | some (e, os) =>
    let copy := replyBlock e.status os.length 0 0 e.jseq ++ outcomeVec os
    (s, Res.ok (match e.state with
      | 4 => 3#8 :: zeros 15
      | 1 => (2#8 :: zeros 15) ++ copy
      | _ => (1#8 :: zeros 15) ++ copy))

/-- The object references a read of ownable objects names. -/
def spanRefs (c : Cmd) : List Nat := (List.range (fld c.payload 4 2)).map (fun i => fld c.payload 0 4 + i)

/-- STATE_DIGEST (R117). -/
def runStateDigest (c : Cmd) (s : State) : State × Res :=
  let rec1 (k : Nat) : Bytes := let o := s.ownOf k; le 4 k ++ le 4 o.version ++ le 8 o.owner
  (s, Res.ok (le 8 c.jseq ++ sha256 ((spanRefs c).flatMap rec1)))

/-- A record of OBJECT_VERSIONS (R116). -/
def versionRecord (s : State) (k : Nat) : Bytes :=
  let o := s.ownOf k
  let slot := if o.own = 1 then (s.slotOf o.owner).getD 0xFF else 0xFF
  le 4 o.version ++ [BitVec.ofNat 8 o.own, BitVec.ofNat 8 (b2n (s.claim k)), BitVec.ofNat 8 slot, BitVec.ofNat 8 o.role]
    ++ le 8 o.owner ++ le 8 o.last

/-- OBJECT_VERSIONS (R116). -/
def runObjectVersions (c : Cmd) (s : State) : State × Res := (s, Res.ok ((spanRefs c).flatMap (versionRecord s)))

/-- SYS_INFO (R392). -/
def runSysInfo (_ : Cmd) (s : State) : State × Res :=
  let t := s.start
  (s, Res.ok (le 8 Config.deviceId.toNat ++ le 4 s.fw.version ++ le 4 s.fw.floor
    ++ [BitVec.ofNat 8 s.fw.running, BitVec.ofNat 8 t.kind, BitVec.ofNat 8 t.keep, BitVec.ofNat 8 t.warmRun]
    ++ le 4 s.aon.powercycle ++ le 6 s.optime ++ zeros 2 ++ le 6 t.startOptime ++ zeros 2 ++ le 8 t.startJseq
    ++ le 4 t.warmResets ++ le 2 t.correctedN ++ zeros 2 ++ le 4 s.rig.version ++ zeros 4 ++ le 44 t.corrected ++ zeros 20))

/-- RESET (R391): nothing more is admitted; the reset follows the reply. -/
def runReset (c : Cmd) (s : State) : State × Res :=
  let r : ResetReq := { kind := if fld c.payload 0 1 = 1 then 0x11 else 4, port := c.port, at_ := s.aon.nowUs }
  ({ s with start := { s.start with resetReq := some r } }, Res.ok [])

/-! ## Quotas (R103 to R107) -/

/-- A field of QUOTA_SET, or the quota as it stands where its MASK bit is clear. -/
def Quota.patch (q : Quota) (p : Bytes) : Quota :=
  let m := fld p 1 1
  { rate := if bit m 0 then fld p 4 2 else q.rate, queue := if bit m 1 then fld p 6 2 else q.queue,
    capture := if bit m 2 then fld p 8 1 else q.capture, trend := if bit m 3 then fld p 10 2 else q.trend,
    cursor := if bit m 4 then fld p 9 1 else q.cursor }

/-- A quota is cut below another: notice 0x8C05 tells of that alone (R75, R107). -/
def Quota.lowered (q old : Quota) : Bool :=
  decide (q.rate < old.rate) || decide (q.queue < old.queue) || decide (q.capture < old.capture)
    || decide (q.trend < old.trend) || decide (q.cursor < old.cursor)

/-- The pools hold the quotas of eight slots: a live session's own, the defaults for a free slot (R105). -/
def poolsHold (s : State) (dflt : Quota) (own : Nat → Quota) : Bool :=
  let qs := slots.map (fun k => if (s.ses k).live then own k else dflt)
  decide ((qs.map (·.capture)).sum ≤ 32) && decide ((qs.map (·.trend)).sum ≤ 160) && decide ((qs.map (·.cursor)).sum ≤ 8)

/-- The commands a cut of QUEUE drops, newest first (R107). -/
def cutQueue (sess keep : Nat) (s : State) : State × Nat :=
  let mine := s.host.queue.filter (fun c => c.sess == sess)
  let gone := (mine.drop keep).reverse
  let s1 := { s with host := { s.host with
    queue := s.host.queue.filter (fun c => !gone.any (fun g => g.jseq == c.jseq)) } }
  let cutOne (c : Cmd) (st : State) : State :=
    let n := (st.jent c.jseq).items
    closeCmd c { status := 0x0301, outcomes := List.replicate n 0x0301, data := [], deferred := false } st
  (forAll gone cutOne s1, gone.length)

/-- Kinds of a session over quota, in the bit order of MASK. -/
def overQuota (k : Nat) (s : State) : Nat :=
  let x := s.ses k
  let caps := (s.shv.caps.filter (fun e => e.2.sess == x.jseq)).length
  let curs := (s.tt.cursors.filter (fun e => e.2.sess == x.jseq)).length
  4 * b2n (decide (x.quota.capture < caps)) + 8 * b2n (decide (x.quota.trend < s.trendUsed x.jseq))
    + 16 * b2n (decide (x.quota.cursor < curs))

/-- Notice 0x8C05 (R107). -/
def quotaNotice (k mask cut : Nat) (s : State) : State :=
  let q := (s.ses k).quota
  notifyOne k 5 0x8C05 ([BitVec.ofNat 8 mask, BitVec.ofNat 8 (overQuota k s)] ++ zeros 2 ++ le 2 q.rate ++ le 2 q.queue
    ++ [BitVec.ofNat 8 q.capture, BitVec.ofNat 8 q.cursor] ++ le 2 q.trend ++ le 2 (min 65535 cut) ++ zeros 2) s

/-- QUOTA_SET (R105 to R107). -/
def runQuotaSet (c : Cmd) (s : State) : State × Res :=
  let p := c.payload
  let k := fld p 0 1
  let m := bits (fld p 1 1) 0 5
  if k = 0xFF then
    let d := s.host.defQuota.patch p
    if poolsHold s d (fun i => (s.ses i).quota) then ({ s with host := { s.host with defQuota := d } }, Res.ok [])
    else (s, Res.conflict)
  else
    let x := s.ses k
    let q := x.quota.patch p
    if !x.live || !poolsHold s s.host.defQuota (fun i => if i = k then q else (s.ses i).quota) then (s, Res.conflict)
    else
      let tok := refill x.tok x.quota.rate (rateCap x.quota.rate) (s.aon.nowUs - x.tokAt)
      let s1 := s.setSes k { x with quota := q, tok := min tok (rateCap q.rate * 1000000), tokAt := s.aon.nowUs }
      let r := if bit m 1 then cutQueue x.jseq q.queue s1 else (s1, 0)
      (if q.lowered x.quota then quotaNotice k m r.2 r.1 else r.1, Res.ok [])

/-! ## Roles and keys (R89, R99) -/

/-- A session that is live, owns or left objects, or whose AUTH the journal still holds (R99). -/
def State.knownSession (s : State) (j : Nat) : Bool :=
  (s.slotOf j).isSome || !(s.ownedBy j).isEmpty || (decide (0 < j) && (s.jent j).kind == 1 && (s.jent j).opcode == 0x0102)

/-- ROLE_SET LOWER (R99): the owned objects follow the role, and are released below Operator. -/
def lowerRole (k role jseq : Nat) (s : State) : State :=
  let x := s.ses k
  let keys := s.ownedBy x.jseq
  let s1 := s.setSes k { x with role := role }
  if role = 1 then forAll keys (releaseObj jseq) s1
  else forAll keys (fun key st => st.setOwn key { st.ownOf key with role := role }) s1

/-- ROLE_SET: ACTION 1 LOWER, 2 EVICT, 3 RELEASE (R99). -/
def runRoleSet (c : Cmd) (s : State) : State × Res :=
  let target := fld c.payload 8 8
  let role := fld c.payload 1 1
  match fld c.payload 0 1, s.slotOf target with
  | 1, some k => if role < (s.ses k).role then (lowerRole k role c.jseq s, Res.ok []) else (s, Res.conflict)
  | 2, some k => (markEnd k { reason := 2, orphan := fld c.payload 2 1 == 1, jseq := c.jseq } s, Res.ok [])
  | 3, _ =>
    if s.knownSession target then (forAll (s.ownedBy target) (releaseObj c.jseq) s, Res.ok []) else (s, Res.conflict)
  | _, _ => (s, Res.conflict)

/-- The key a KEY_SET carries, unwrapped (R89). -/
def unwrapKey (ks : Bytes) (tag : Nat) (payload : Bytes) : Bytes :=
  xorBytes (cut payload 8 32) (hmac ks ([0x4C#8, 0x58#8, 0x4B#8, 0x57#8] ++ le 8 tag))

/-- KEY_SET (R89): a key of zeros unsets the role. -/
def runKeySet (c : Cmd) (s : State) : State × Res :=
  let k := unwrapKey (s.ses c.slot).ks c.tag c.payload
  let v := if allZero k then none else some (beNat k)
  ({ s with auth := { s.auth with keys := Tbl.wr none s.auth.keys (fld c.payload 0 1) v } }, Res.ok [])

/-! ## Firmware (R84 to R86) -/

/-- A firmware slot. -/
def State.fwSlot (s : State) (i : Nat) : FwSlot := if i = 0 then s.fw.slot0 else s.fw.slot1

/-- Write a firmware slot. -/
def State.setFwSlot (s : State) (i : Nat) (v : FwSlot) : State :=
  if i = 0 then { s with fw := { s.fw with slot0 := v } } else { s with fw := { s.fw with slot1 := v } }

/-- BODY_LEN of the image in a slot. -/
def FwSlot.bodyLen (x : FwSlot) : Nat := fld (memBytes 64 0 x.mem) 16 4

/-- The signature of the image in a slot holds (R84, R86); the image of manufacture holds its own. -/
def FwSlot.sigOk (x : FwSlot) : Bool :=
  if x.factory then !x.bad else
    let n := 64 + x.bodyLen
    let bs := memBytes (n + 64) 0 x.mem
    !x.bad && decide (x.bodyLen ≤ 917376)
      && ecdsaVerify Config.firmwareKeyX.toNat Config.firmwareKeyY.toNat (sha256 (bs.take n)) (beNat (cut bs n 32))
          (beNat (cut bs (n + 32) 32))

/-- FW_VERSION of the image in a slot. -/
def FwSlot.version (x : FwSlot) : Nat :=
  if x.factory then Config.firmwareVersion.toNat else fld (memBytes 64 0 x.mem) 8 4

/-- SEC_VERSION of the image in a slot. -/
def FwSlot.sec (x : FwSlot) : Nat :=
  if x.factory then Config.firmwareSecVersion.toNat else fld (memBytes 64 0 x.mem) 12 4

/-- The checks of END (R85): all bytes, the header, SEC_VERSION and the signature. -/
def fwEndOk (u : FwUpd) (s : State) : Bool :=
  let x := s.fwSlot u.slot
  let hd := memBytes 64 0 x.mem
  u.got == u.length && fld hd 0 4 == 0x5746584C && fld hd 4 2 == 1 && fld hd 6 2 == 0 && allZero (cut hd 20 44)
    && u.length == 128 + x.bodyLen && decide (s.fw.floor ≤ x.sec) && x.sigOk

/-- FW_UPDATE (R85): STEP 1 BEGIN, 2 DATA, 3 END, 4 ACTIVATE, 5 ABORT. DESIGN CHOICE (log 53): a step without an open
update of its own session, and ACTIVATE without an END that returned OK, answer CONFLICT. -/
def runFwUpdate (c : Cmd) (s : State) : State × Res :=
  let p := c.payload
  let put (u : Option FwUpd) (st : State) : State := { st with fw := { st.fw with upd := u } }
  match fld p 0 1, s.fw.upd with
  | 1, some u => if u.sess ≠ c.sess then (s, Res.conflict) else fwBegin put
  | 1, none => fwBegin put
  | _, none => (s, Res.conflict)
  | n, some u =>
    if u.sess ≠ c.sess then (s, Res.conflict)
    else match n with
      | 2 =>
        let len := fld p 8 4
        if fld p 4 4 ≠ u.got || u.length < u.got + len then (s, Res.conflict)
        else
          let x := s.fwSlot u.slot
          (put (some { u with got := u.got + len, at_ := s.aon.nowUs, endOk := false })
            (s.setFwSlot u.slot { x with mem := Memory.write x.mem u.got (p.drop 16) }), Res.ok [])
      | 3 => (put (some { u with at_ := s.aon.nowUs }) s, Res.later)
      | 4 =>
        if !u.endOk then (s, Res.conflict)
        else
          let r : ResetReq := { kind := 0x12, port := c.port, at_ := s.aon.nowUs }
          let s1 := put none s
          ({ s1 with fw := { s1.fw with marked := u.slot }, start := { s1.start with resetReq := some r } }, Res.ok [])
      | _ => (put none s, Res.ok [])
where
  /-- BEGIN erases the idle slot and opens the update for the session. -/
  fwBegin (put : Option FwUpd → State → State) : State × Res :=
    let i := 1 - s.fw.running
    let u : FwUpd := { slot := i, sess := c.sess, length := fld c.payload 8 4, got := 0, at_ := s.aon.nowUs, endOk := false }
    (put (some u) (s.setFwSlot i { factory := false, mem := [], bad := false }), Res.ok [])

/-- The background work of END ends (R85). -/
def fwEnd (s : State) : State × Res :=
  match s.fw.upd with
  | none => (s, Res.of 0x0600 [])
  | some u =>
    let ok := fwEndOk u s
    ({ s with fw := { s.fw with upd := some { u with endOk := ok } } }, Res.of (if ok then 0 else 0x0600) [])

/-- FW_UPDATE_TIMEOUT (R85): 60 s with no step. -/
def fwTimeout (s : State) : State :=
  match s.fw.upd with
  | some u =>
    if !s.working 0x0C08 && s.due (u.at_ + 60000000) then { s with fw := { s.fw with upd := none } } else s
  | none => s

end Sys2Proof.Machine
end

