-- ==== Sys2Proof/Machine/Opcodes.lean ====
section
/-! DEFINITION. The opcodes of R76 as one table: least role, item size, length, field checks (R68 steps 4 and 5),
readiness (R382) and what each does. -/
namespace Sys2Proof.Machine

/-! ## Field checks (R68 step 5) -/

/-- What a field check may look at beside the payload: the slot, K_S and HOST_TAG. -/
structure FieldEnv where
  slot : Nat
  ks : Bytes
  tag : Nat

/-- A payload check. -/
abbrev Check := FieldEnv → Bytes → Bool

/-- `n` reserved bytes at `off` are zero (R8). -/
def rsv (p : Bytes) (off n : Nat) : Bool := allZero (cut p off n)

/-- A field of `n` bytes lies within `lo` to `hi`. -/
def inR (p : Bytes) (off n lo hi : Nat) : Bool := decide (lo ≤ fld p off n) && decide (fld p off n ≤ hi)

/-- A valid reference of one of the types (R33, R34). -/
def refIs (types : List Nat) (p : Bytes) (off : Nat) : Bool := refOk (fld p off 4) && types.contains (keyType (fld p off 4))

/-- FIRST, COUNT and RSVD of the reads: the span lies within the type's index range. -/
def spanOk (types : List Nat) (most : Nat) : Check := fun _ p =>
  refIs types p 0 && inR p 4 2 1 most && decide (keyIdx (fld p 0 4) + fld p 4 2 ≤ objCount (keyType (fld p 0 4))) && rsv p 6 2

/-- No field to check. -/
def anyField : Check := fun _ _ => true

/-- COUNT and the items of a multi-item command (R73). -/
def itemsOk (size : Nat) (ok : FieldEnv → Bytes → Bool) : Check := fun e p =>
  inR p 0 2 1 512 && rsv p 2 2 && (List.range (fld p 0 2)).all (fun i => ok e (cut p (4 + size * i) size))

/-- The types that can be owned (R34). -/
def ownTypes : List Nat := [0x04, 0x05, 0x07, 0x08, 0x0A, 0x0B, 0x0C, 0x0D]

/-- The descriptor bytes an item or RIG_GET names (R129, R144): `r` reference, `dt` DTYPE, `ix` DINDEX. -/
def descShape (slot r dt ix off len : Nat) : Bool :=
  decide (1 ≤ len) && decide (off + len ≤ descLen dt)
    && (if dt < 0x20 then refOk r && keyType r == dt && ix == 0 else r == dkey 0x13 slot && descExists dt ix)

/-- An item of RIG_PUT (R129). -/
def putShape (e : FieldEnv) (it : Bytes) : Bool :=
  let dt := fld it 4 1
  let len := fld it 5 1
  inR it 5 1 1 16 && rsv it 12 4 && allZero (it.drop (16 + len))
    && (if dt = 0 then fld it 0 4 == dkey 0x13 e.slot && fld it 6 2 == 0 && decide (fld it 8 4 + len ≤ 4194304)
        else descShape e.slot (fld it 0 4) dt (fld it 8 4) (fld it 6 2) len)

/-- RIG_GET (R144). -/
def rigGetOk : Check := fun e p =>
  let n := fld p 2 2
  match fld p 0 1 with
  | 0 => rsv p 1 23
  | 1 => fld p 1 1 == 0 && rsv p 9 3 && rsv p 18 6 && fld p 8 1 != 0
    && descShape e.slot (fld p 4 4) (fld p 8 1) (fld p 12 4) (fld p 16 2) n
  | 2 => fld p 1 1 == 0 && rsv p 9 3 && rsv p 18 6 && fld p 8 1 != 0
    && descShape e.slot (fld p 4 4) (fld p 8 1) (fld p 12 4) (fld p 16 2) n
  | 3 => inR p 1 1 0 1 && inR p 2 2 1 8176 && rsv p 4 8 && rsv p 16 8 && decide (fld p 12 4 + n ≤ 4194304)
  | _ => false

/-- RIG_BEGIN (R128). -/
def rigBeginOk : Check := fun _ p =>
  inR p 0 1 0 2 && inR p 1 1 0 1 && rsv p 2 2 && rsv p 8 8
    && (if fld p 0 1 = 1 then inR p 4 4 136 4194304 else fld p 4 4 == 0) && (fld p 0 1 != 0 || fld p 1 1 == 0)

/-- SCAN_SET (R189). -/
def scanSetOk : Check := fun _ p =>
  rsv p 5 3 && (match fld p 4 1 with
    | 0 => fld p 0 4 == 0 || inR p 0 4 512 3600000
    | 1 => fld p 0 4 == 0
    | _ => false)

/-- PORT_ENUMERATE (R157). -/
def enumerateOk : Check := fun _ p => refIs [0x01] p 0 && inR p 4 1 0 2 && rsv p 5 1 && (fld p 4 1 == 2 || fld p 6 2 == 0)

/-- TREND_READ (R192): COUNT, EVERY and UNITS are judged for OPEN alone. -/
def trendOk : Check := fun _ p =>
  rsv p 14 2 && rsv p 20 4 && (match fld p 0 1 with
    | 1 => inR p 1 1 0 1 && rsv p 2 1 && inR p 3 1 0 1 && refIs [if fld p 1 1 = 0 then 0x02 else 0x03] p 4
      && inR p 8 2 1 1018 && decide (keyIdx (fld p 4 4) + fld p 8 2 ≤ objCount (keyType (fld p 4 4)))
      && inR p 10 2 1 3600 && inR p 12 2 1 160 && rsv p 16 4
    | 2 => rsv p 1 1 && inR p 2 1 0 127 && rsv p 3 5
    | 3 => rsv p 1 1 && inR p 2 1 0 127 && rsv p 3 5 && rsv p 16 4
    | 4 => rsv p 1 1 && inR p 2 1 0 127 && rsv p 3 5 && rsv p 16 4
    | 5 => rsv p 1 3 && refIs [0x03] p 4 && rsv p 16 4
    | _ => false)

/-- INJECT_START (R220, R222). -/
def injectOk : Check := fun _ p =>
  let sig := fld p 4 1
  let sel (i : Nat) : Bool := let c := bits (fld p 8 2) (4 * i) 4; decide (c ≤ 8) || c == 15
  refIs [0x05] p 0 && decide (sig ≤ 4) && inR p 5 1 0 2 && inR p 6 1 0 1 && rsv p 7 1 && sel 0 && sel 1 && sel 2 && sel 3
    && inR p 10 2 0 32767 && inR p 12 4 1 4294967295 && inR p 18 2 0 8183 && rsv p 20 4
    && (match sig with
      | 2 => inR p 16 2 1 65535
      | 3 => inR p 16 2 1 65535
      | 4 => inR p 16 2 4 65535
      | _ => fld p 16 2 == 0)

/-- TT_OPEN (R353). -/
def ttOpenOk : Check := fun _ p =>
  rsv p 4 4 && (match fld p 0 1 with
    | 1 => rsv p 1 3
    | 2 => inR p 1 1 0 7 && rsv p 2 2 && rsv p 8 8
    | 3 => rsv p 1 1 && !bit (fld p 2 2) 0 && decide (fld p 2 2 < 0x4000) && rsv p 8 8
    | _ => false)

/-- TT_LIMITS (R352). -/
def ttLimitsOk : Check := fun _ p =>
  let mode := fld p 1 1
  let code := fld p 4 2
  rsv p 2 2 && rsv p 7 1 && rsv p 12 4 && (match fld p 0 1 with
    | 1 => (decide (mode ≤ 1) || mode == 0xFF) && (code == 0xFFFF || ttLimited.contains code)
      && (fld p 6 1 == 0 || inR p 8 4 10 3600000)
    | 2 => mode == 0 && ttCodes.contains code
    | _ => false)

/-- QUOTA_SET (R103, R106). -/
def quotaOk : Check := fun _ p =>
  let f (b off n lo hi : Nat) : Bool := if bit (fld p 1 1) b then inR p off n lo hi else fld p off n == 0
  (inR p 0 1 0 7 || fld p 0 1 == 0xFF) && decide (fld p 1 1 < 32) && rsv p 2 2 && rsv p 12 4
    && f 0 4 2 1 10000 && f 1 6 2 1 256 && f 2 8 1 0 32 && f 3 10 2 0 160 && f 4 9 1 0 4

/-- ROLE_SET (R99). -/
def roleSetOk : Check := fun _ p =>
  rsv p 3 5 && (match fld p 0 1 with
    | 1 => inR p 1 1 1 3 && fld p 2 1 == 0
    | 2 => fld p 1 1 == 0 && inR p 2 1 0 1
    | 3 => rsv p 1 2
    | _ => false)

/-- KEY_SET (R89): the Maintainer key cannot be unset. -/
def keySetOk : Check := fun e p =>
  inR p 0 1 1 4 && rsv p 1 7 && (fld p 0 1 != 4 || !allZero (unwrapKey e.ks e.tag p))

/-- FW_UPDATE (R85). -/
def fwOk : Check := fun _ p =>
  inR p 0 1 1 5 && rsv p 1 3 && rsv p 12 4
    && (match fld p 0 1 with
      | 1 => inR p 8 4 128 917504
      | 2 => inR p 8 4 1 8176
      | _ => true)

/-! ## Readiness (R382) -/

/-- The READY bits an opcode needs are set. -/
def opReady (op : Nat) (s : State) : Bool :=
  let fam := op / 256
  if fam ≤ 2 then s.rdy 2 && s.rdy 0
  else if op = 0x0406 then s.rdy 16
  else if op = 0x0403 then s.rdy 1 && (s.period == 0 || s.rdy 10)
  else if fam = 3 || fam = 4 || fam = 0x0C then s.rdy 1
  else if fam = 5 then s.rdy 8 && (op == 0x0503 || op == 0x0506 || s.rdy 4)
  else if op = 0x0601 then s.rdy 13 && s.rdy 4
  else if fam = 6 then s.rdy 13 && s.rdy 17
  else if fam = 7 then s.rdy 14 && (op == 0x0703 || s.rdy 4)
  else if fam = 8 then s.rdy 15 && (op == 0x0804 || s.rdy 4)
  else if fam = 9 then s.rdy 4
  else if fam = 0x0A then s.rdy 9
  else s.rdy 3

/-! ## The table (R76) -/

/-- An opcode of R76. -/
structure OpSpec where
  /-- Least role, 0 for none. -/
  role : Nat
  /-- Bytes of an item, 0 for a single-item command. -/
  item : Nat
  /-- PLEN of a single-item command. -/
  plen : Nat
  ok : Check
  run : Cmd → State → State × Res

/-- A single-item opcode. -/
def one (role plen : Nat) (ok : Check) (run : Cmd → State → State × Res) : Option OpSpec :=
  some { role := role, item := 0, plen := plen, ok := ok, run := run }

/-- A multi-item opcode. -/
def many (role size : Nat) (ok : FieldEnv → Bytes → Bool) (run : Cmd → State → State × Res) : Option OpSpec :=
  some { role := role, item := size, plen := 0, ok := itemsOk size ok, run := run }

/-- TREND_READ by its ACTION. -/
def runTrend (c : Cmd) (s : State) : State × Res :=
  match fld c.payload 0 1 with
  | 1 => runTrendOpen c s
  | 2 => runTrendRead c s
  | 3 => runTrendClose c s
  | 4 => runTrendStatus c s
  | _ => runFrontLog c s

/-- CAPTURE_READ by its ACTION. -/
def runCapture (c : Cmd) (s : State) : State × Res :=
  if fld c.payload 1 1 = 0 then runCaptureRead c s else runCaptureFree c s

/-- Nothing: an opcode that is served as it arrives. -/
def runNone (_ : Cmd) (s : State) : State × Res := (s, Res.ok [])

/-- Session and Journal families. HELLO is served as it arrives, AUTH by `executeAuth`. -/
def opSession (op : Nat) : Option OpSpec :=
  match op with
  | 0x0101 => one 0 16 (fun _ _ => false) runNone
  | 0x0102 => one 0 32 (fun _ _ => false) runNone
  | 0x0103 => one 1 0 anyField runKeepalive
  | 0x0104 => one 1 8 (fun _ p => inR p 0 1 0 1 && rsv p 1 7) runBye
  | 0x0105 => one 1 4 (fun _ p => decide (fld p 0 4 < 64)) runSubscribe
  | 0x0106 => one 1 0 anyField runGetReady
  | 0x0201 => one 1 0 anyField runJournalHead
  | 0x0202 => one 1 16 (fun _ p => inR p 8 2 1 63 && rsv p 10 6) runJournalRead
  | 0x0203 => one 1 16 anyField runResultOf
  | 0x0204 => one 1 8 (spanOk ownTypes 4096) runStateDigest
  | 0x0205 => one 1 8 (spanOk ownTypes 340) runObjectVersions
  | _ => none

/-- Rig and Points families. -/
def opRig (op : Nat) : Option OpSpec :=
  match op with
  | 0x0301 => one 3 16 rigBeginOk runRigBegin
  | 0x0302 => many 3 32 putShape runRigPut
  | 0x0303 => one 3 0 anyField runRigCommit
  | 0x0304 => one 3 0 anyField runRigAbort
  | 0x0305 => one 1 24 rigGetOk runRigGet
  | 0x0306 => one 3 0 anyField runRigSave
  | 0x0307 => one 4 8 (fun _ p => inR p 0 1 0 1 && rsv p 1 7) runBankSelect
  | 0x0401 => one 1 8 (spanOk [0x02] 511) runPointRead
  | 0x0402 => one 3 8 scanSetOk runScanSet
  | 0x0403 => one 3 8 enumerateOk runEnumerate
  | 0x0404 => many 3 8 (fun _ it => refIs [0x02] it 0 && inR it 6 2 0 10000) runThreshSet
  | 0x0405 => one 1 8 (spanOk [0x03] 255) runFrontRead
  | 0x0406 => one 1 24 trendOk runTrend
  | _ => none

/-- Loop, Mast, Dryer and Route families. -/
def opPlant (op : Nat) : Option OpSpec :=
  match op with
  | 0x0501 => many 2 8 (fun _ it => refIs [0x05] it 0 && rsv it 6 2) runLoopSetSp
  | 0x0502 => many 2 8 (fun _ it => refIs [0x05] it 0 && inR it 4 1 0 2 && rsv it 5 1
      && (fld it 4 1 == 1 || rsv it 6 2)) runLoopMode
  | 0x0503 => one 1 8 (spanOk [0x05] 127) runLoopRead
  | 0x0504 => many 2 8 (fun _ it => refIs [0x05] it 0) runLoopClear
  | 0x0505 => one 3 24 injectOk runInject
  | 0x0506 => one 1 16 (fun _ p => inR p 0 1 0 31 && inR p 1 1 0 1 && rsv p 2 2 && rsv p 8 8) runCapture
  | 0x0601 => many 2 8 (fun _ it => refIs [0x04] it 0 && inR it 4 1 0 3 && rsv it 5 1 && inR it 6 2 0 1440) runMastMode
  | 0x0602 => one 1 8 (spanOk [0x04] 127) runMastRead
  | 0x0603 => one 1 8 (spanOk [0x04] 84) runLedgerRead
  | 0x0701 => one 2 8 (fun _ p => refIs [0x07] p 0 && inR p 4 1 0 2 && inR p 5 1 0 1 && rsv p 6 2) runDryerMode
  | 0x0702 => one 2 8 (fun _ p => refIs [0x07] p 0 && inR p 4 1 1 5 && rsv p 5 3) runDryerStep
  | 0x0703 => one 1 8 (spanOk [0x07] 16) runDryerRead
  | 0x0801 => one 2 8 (fun _ p => refIs [0x08] p 0 && inR p 4 1 0 1 && rsv p 5 3) runRouteClaim
  | 0x0802 => one 2 8 (fun _ p => refIs [0x08] p 0 && rsv p 4 4) runRouteStart
  | 0x0803 => one 2 8 (fun _ p => refIs [0x08] p 0 && inR p 4 1 0 2 && rsv p 5 3) runRouteStop
  | 0x0804 => one 1 8 (spanOk [0x08] 64) runRouteRead
  | _ => none

/-- Field I/O, Front-end, Telltale and System families. -/
def opField (op : Nat) : Option OpSpec :=
  match op with
  | 0x0901 => many 2 8 (fun _ it => refIs [0x0C] it 0 && inR it 4 1 0 1 && rsv it 5 3) runWrite
  | 0x0902 => one 1 8 (spanOk [0x0C] 96) runDioRead
  | 0x0903 => many 2 8 (fun _ it => refIs [0x0B] it 0 && inR it 4 1 0 1 && rsv it 5 3) runWrite
  | 0x0904 => one 1 8 (spanOk [0x0B] 48) runLoadRead
  | 0x0905 => many 2 8 (fun _ it => refIs [0x0D] it 0 && rsv it 6 2) runWrite
  | 0x0906 => many 2 8 (fun _ it => refIs [0x0A] it 0 && inR it 4 2 0 2047 && rsv it 6 2) runWrite
  | 0x0907 => one 1 8 (spanOk [0x0A] 192) runFanRead
  | 0x0908 => many 2 4 (fun _ it => refIs [0x0A, 0x0B, 0x0C, 0x0D] it 0) runFaultClear
  | 0x0A01 => one 1 8 (spanOk [0x0D, 0x0F, 0x10] 255) runAfeRead
  | 0x0A02 => one 1 8 (spanOk [0x11] 128) runThreshRead
  | 0x0B01 => one 1 16 ttOpenOk runTtOpen
  | 0x0B02 => one 1 8 (fun _ p => inR p 0 1 0 7 && rsv p 1 1 && inR p 2 2 1 254 && rsv p 4 4) runTtRead
  | 0x0B03 => one 1 8 (fun _ p => inR p 0 1 0 7 && inR p 1 1 0 1 && inR p 2 2 1 4096 && rsv p 4 4) runTtPin
  | 0x0B04 => one 4 0 anyField runTtClear
  | 0x0B05 => one 3 16 ttLimitsOk runTtLimits
  | 0x0C01 => one 1 0 anyField runSysInfo
  | 0x0C02 => one 2 16 (fun _ p => inR p 8 2 0 999 && rsv p 10 6) runTimeMark
  | 0x0C03 => one 4 8 (fun _ p => inR p 0 1 1 2 && rsv p 1 7) runReset
  | 0x0C04 => one 3 8 (fun _ p => inR p 0 1 1 3 && rsv p 1 1 && rsv p 4 4
      && (if fld p 0 1 = 3 then fld p 2 2 == 0 || inR p 2 2 700 6500 else rsv p 2 2)) runPowerPlan
  | 0x0C05 => one 4 16 quotaOk runQuotaSet
  | 0x0C06 => one 4 16 roleSetOk runRoleSet
  | 0x0C07 => one 4 40 keySetOk runKeySet
  | 0x0C08 => one 4 16 fwOk runFwUpdate
  | _ => none

/-- The opcode table (R76); none for a code that is not in it. -/
def opSpec (op : Nat) : Option OpSpec :=
  if op < 0x0300 then opSession op else if op < 0x0500 then opRig op else if op < 0x0900 then opPlant op else opField op

/-- PLEN fits the opcode, and COUNT where it is multi-item (R68 step 4); DATA follows STEP 2 of FW_UPDATE (R85). -/
def plenOk (op : Nat) (o : OpSpec) (p : Bytes) : Bool :=
  if o.item ≠ 0 then decide (4 ≤ p.length) && p.length == 4 + o.item * fld p 0 2
  else if op = 0x0C08 then
    decide (16 ≤ p.length) && p.length == 16 + (if fld p 0 1 = 2 then fld p 8 4 else 0)
  else p.length == o.plen

end Sys2Proof.Machine
end

