-- ==== Sys2Proof/Machine/Host.lean ====
section
/-! DEFINITION. A Gaward packet from its arrival to its reply: R61, R91, admission (R68), the queue (R69, R100), execution
(R111), deferred commands (R101), and the rows of the host opcodes. -/
namespace Sys2Proof.Machine

/-! ## Arrival (R58 to R61) -/

/-- The bytes of a packet as sent (R58, R59). -/
def packetBytes (op : Nat) (p : Packet) : Bytes :=
  [0x58#8, 0x4C#8, p.version, p.flags, p.session, p.rsvd5] ++ le 2 op ++ le 8 p.hostTag.toNat ++ le 2 p.payload.length
    ++ fit 6 p.rsvd18 ++ p.payload ++ p.mac

/-- Why R61 discards a packet, as PACKET_DISCARD counts it (R346); none when it passes. A session marked to end is live
until it ends (R92), and the tag of HELLO and of AUTH is not judged here, whatever SESSION they carry. -/
def discardReason (bs : Bytes) (s : State) : Option Nat :=
  let x := s.ses (fld bs 4 1)
  let op := fld bs 6 2
  if bs.length < 40 || 8232 < bs.length then some 1
  else if fld bs 0 2 ≠ 0x4C58 || fld bs 2 1 ≠ 1 then some 2
  else if bit (fld bs 3 1) 0 then some 3
  else if 40 + fld bs 16 2 ≠ bs.length then some 4
  else if (op = 0x0101 || op = 0x0102) && (fld bs 4 1 = 0xFF || (decide (fld bs 4 1 < 8) && x.live)) then none
  else if 8 ≤ fld bs 4 1 || !x.live then some 5
  else if (hmac x.ks (bs.take (bs.length - 16))).take 16 ≠ bs.drop (bs.length - 16) then some 6
  else none

/-- The reserved bits of a header are zero (R59, R60). -/
def headerRsv (bs : Bytes) : Bool := decide (fld bs 3 1 < 2) && rsv bs 5 1 && rsv bs 18 6

/-! ## Admission (R68) -/

/-- A firmware activation is in progress (R77, R85). -/
def State.activating (s : State) : Bool := match s.start.resetReq with | some r => r.kind == 0x12 | none => false

/-- Step 8 (R77, R128): a bank write holds back RIG_BEGIN, RIG_SAVE and RIG_BANK_SELECT. -/
def State.busy (s : State) (op : Nat) : Bool :=
  s.activating || (s.working 0x0306 && (op == 0x0301 || op == 0x0306 || op == 0x0307))

/-- Items a command carries: COUNT, or 0 (R71, R109). -/
def itemCount (op : Nat) (p : Bytes) : Nat :=
  match opSpec op with
  | some o => if o.item = 0 then 0 else fld p 0 2
  | none => 0

/-- The session's bucket and the aggregate bucket now (R104). -/
def State.rateNow (s : State) (k : Nat) : Nat × Nat :=
  let x := s.ses k
  (refill x.tok x.quota.rate (rateCap x.quota.rate) (s.aon.nowUs - x.tokAt),
   refill s.host.aggTok 10000 1000 (s.aon.nowUs - s.host.aggAt))

/-- Commands of a session admitted and not yet started (R103). -/
def State.waitingOf (s : State) (sess : Nat) : Nat := (s.host.queue.filter (fun c => c.sess == sess)).length

/-- A resend of a tag already admitted (R67). -/
def resend (k op tag port addr : Nat) (s : State) : State :=
  let x := s.ses k
  let pend := (s.host.queue ++ s.host.running).any (fun c => c.sess == x.jseq && c.tag == tag)
  if pend then
    s.setSes k { x with waiters := x.waiters ++ [{ tag := tag, opcode := op, port := port, addr := addr }] }
  else dupReply k op tag port addr s

/-- Steps 1 to 9 in their order: the status of the refusal, 0 when the command is admitted, and DUPLICATE for step 3. -/
def admission (k op tag : Nat) (rsvOk : Bool) (p : Bytes) (s : State) : Nat :=
  let x := s.ses k
  if !rsvOk then 0x0402
  else match opSpec op with
    | none => 0x0400
    | some o =>
      let n := entryCount (itemCount op p) * 1000000
      if tag ≤ x.highTag then 0x0500
      else if !plenOk op o p then 0x0401
      else if !o.ok { slot := k, ks := x.ks, tag := tag } p then 0x0402
      else if x.role < o.role then 0x0200
      else if !opReady op s then 0x0100
      else if s.busy op then 0x0101
      else if x.quota.queue ≤ s.waitingOf x.jseq || (s.rateNow k).1 < n || (s.rateNow k).2 < n then 0x0300
      else 0

/-- The command that admission makes: JSEQ in the order of arrival (R100). -/
def newCmd (k op tag port addr : Nat) (p : Bytes) (ecc : List HoldEcc) (s : State) : Cmd :=
  { jseq := s.jrnl.head + 1, slot := k, sess := (s.ses k).jseq, role := (s.ses k).role, op := op, tag := tag, payload := p,
    port := port, addr := addr, at_ := s.aon.nowUs, ecc := ecc }

/-- A command is admitted: its tag and tokens are taken, its entries are durable, and it waits (R66, R104, R111). -/
def enqueue (c : Cmd) (s : State) : State :=
  let x := s.ses c.slot
  let n := itemCount c.op c.payload
  let r := s.rateNow c.slot
  let e := entryCount n * 1000000
  let s1 := s.setSes c.slot { x with highTag := c.tag, tok := r.1 - e, tokAt := s.aon.nowUs }
  let s2 := { s1 with host := { s1.host with
    queue := s1.host.queue ++ [c], aggTok := r.2 - e, aggAt := s.aon.nowUs } }
  jAdmit c n (decide (n ≠ 0)) s2

/-- A packet of a live session that has passed R61. -/
def sessionPacket (k op tag port addr : Nat) (rsvOk : Bool) (p : Bytes) (ecc : List HoldEcc) (s : State) : State :=
  match admission k op tag rsvOk p s with
  | 0 => enqueue (newCmd k op tag port addr p ecc s) s
  | 0x0500 => resend k op tag port addr s
  | e => refuse k op tag port addr e s

/-- A refusal of AUTH (R62, R64). -/
def authReply (tag port addr status : Nat) (ks : Bytes) (s : State) : State :=
  send port addr 0xFF 0 false (packetOut 0xFF 0x0102 tag (replyBlock status 0 0 0 0) ks) s

/-- AUTH as it arrives (R63, R64): its context, its tag, then the checks of R68. DESIGN CHOICE (log 25): one that carries a
live SESSION in place of 0xFF is judged alike, and answered BAD_FIELD once its tag has passed. -/
def authPacket (tag port addr : Nat) (bs : Bytes) (ecc : List HoldEcc) (s : State) : State :=
  let p := cut bs 24 (bs.length - 40)
  match s.ctxOf p with
  | none => authReply tag port addr 0x0202 [] s
  | some x =>
    match sessionKey (fld p 16 1) x s with
    | none => authReply tag port addr 0x0202 [] (dropCtx x s)
    | some ks =>
      let agg := refill s.host.aggTok 10000 1000 (s.aon.nowUs - s.host.aggAt)
      if (hmac ks (bs.take (bs.length - 16))).take 16 ≠ bs.drop (bs.length - 16) then
        authReply tag port addr 0x0202 [] (dropCtx x s)
      else if fld bs 4 1 ≠ 0xFF || !headerRsv bs then authReply tag port addr 0x0402 ks s
      else if p.length ≠ 32 then authReply tag port addr 0x0401 ks s
      else if !rsv p 17 7 then authReply tag port addr 0x0402 ks s
      else if !opReady 0x0102 s then authReply tag port addr 0x0100 ks s
      else match slots.find? (fun k => !(s.ses k).live) with
        | none => authReply tag port addr 0x0101 ks s
        | some k =>
          if s.activating then authReply tag port addr 0x0101 ks s
          else if agg < 1000000 then authReply tag port addr 0x0300 ks s
          else admitAuth k tag port addr p ks x ecc s

/-- A packet as its transport delivers it: R41, R391, R61, then what it carries. HELLO and AUTH are heard for no session
by what SESSION they carry (R91). DESIGN CHOICE (log 25): a HELLO whose SESSION is not 0xFF is not answered. -/
def arrive (port addr : Nat) (bs : Bytes) (ecc : List HoldEcc) (s : State) : State :=
  let stopped := s.start.resetReq.isSome && !s.activating
  if !s.portOn port || stopped then s
  else if !s.roomFor bs.length then ttOccur 0 0x0182 0 [BitVec.ofNat 8 port] s
  else match discardReason bs s with
    | some r => ttDiscard r port (fld bs 4 1) s
    | none =>
      let k := fld bs 4 1
      let op := fld bs 6 2
      let tag := fld bs 8 8
      let p := cut bs 24 (bs.length - 40)
      if op = 0x0101 then (if k = 0xFF && headerRsv bs && p.length == 16 then hello tag port addr p s else s)
      else if op = 0x0102 then authPacket tag port addr bs ecc s
      else sessionPacket k op tag port addr (headerRsv bs) p ecc (heard k port addr s)

/-! ## Execution (R69, R100, R101, R111) -/

/-- An AUTH waits for its live predecessor, once it is marked to end (R98). -/
def State.authWaits (s : State) (c : Cmd) : Bool :=
  c.op == 0x0102 && (match s.slotOf (fld c.payload 24 8) with
    | some k => k != c.slot && (match (s.ses k).ending with
        | some e => (e.reason == 3 && e.jseq == c.jseq) || decide ((s.ses k).role ≤ s.roleOf c.sess c.role)
        | none => false)
    | none => false)

/-- The command the Bosun takes next: the lowest JSEQ whose session does not wait for its deferred command. -/
def State.nextCmd (s : State) : Option Cmd :=
  s.host.queue.find? (fun c => !s.host.running.any (fun d => d.sess == c.sess) && !s.authWaits c)

/-- What an opcode does when it executes. -/
def runCmd (c : Cmd) (s : State) : State × Res :=
  match opSpec c.op with
  | some o => o.run c s
  | none => (s, Res.ok [])

/-- The result of a command that a double-bit error hits (R21). -/
def faulted (c : Cmd) : Res :=
  { status := 0x0600, outcomes := List.replicate (itemCount c.op c.payload) 0x0600, data := [], deferred := false }

/-- A command ends: DONE, the reply, and what its end brings. -/
def finish (c : Cmd) (r : Res) (s : State) : State := resetIfDue (endIdle (closeCmd c r s))

/-- AUTH executes (R98): a takeover marks the predecessor first, and while that has commands to reply to the AUTH goes back
to its place in `queue`, the errors of its own row met. -/
def executeAuth (c : Cmd) (queue : List Cmd) (s : State) : State :=
  let s1 := takeOver c s
  if s1.authWaits c then
    { s1 with host := { s1.host with queue := queue.map (fun d => if d.jseq = c.jseq then { d with ecc := [] } else d) } }
  else
    let r := runAuth c s1
    finish c r.2 r.1

/-- A command executes, after the Hold errors that its reads meet (R21). -/
def execute (c : Cmd) (ecc : List HoldEcc) (s : State) : State :=
  let s1 := holdErrors ecc { s with host := { s.host with queue := s.host.queue.filter (fun d => d.jseq != c.jseq) } }
  if !s1.up then s1
  else if eccHits ecc then finish c (faulted c) s1
  else if c.op = 0x0102 then executeAuth c s.host.queue s1
  else
    let r := runCmd c (if c.op / 256 = 3 then txnHeard c.sess s1 else s1)
    if r.2.deferred then { r.1 with host := { r.1.host with running := r.1.host.running ++ [c] } } else finish c r.2 r.1

/-- COMMAND_EXECUTION (R100, R111). -/
def commandExecution (ecc : List HoldEcc) (s : State) : State :=
  if !s.up then s else
    match s.nextCmd with
    | some c => execute c (ecc ++ c.ecc) s
    | none => s

/-- A host opcode's row: the packet arrives, and the command it is executes at once when nothing stands before it
(log 6). -/
def hostRow (op : Nat) (p : Packet) (s : State) : State :=
  let s1 := arrive p.port p.addr (packetBytes op p) p.ecc s
  match s1.nextCmd with
  | some c => if s.jrnl.head < c.jseq then execute c c.ecc s1 else s1
  | none => s1

/-- A packet whose selector byte is the row's (log 7). -/
def withByte (off : Nat) (v : Byte) (p : Packet) : Packet := { p with payload := setAt p.payload off v }

/-! ## The ends of deferred commands (R101) -/

/-- A deferred command at work ends. -/
def finishRun (c : Cmd) (r : Res) (s : State) : State :=
  finish c r { s with host := { s.host with running := s.host.running.filter (fun d => d.jseq != c.jseq) } }

/-- The deferred command with this opcode ends with what `f` gives. -/
def endRun (op : Nat) (f : Cmd → State → State × Res) (s : State) : State :=
  if !s.up then s else
    match s.host.running.find? (fun c => c.op == op) with
    | none => s
    | some c => let r := f c s; finishRun c r.2 r.1

/-- ENUMERATE_RUN_END (R159). -/
def enumRunEnd (p : Nat) (rx : List (Nat × SlotRx)) (s : State) : State :=
  if !s.up then s else
    let r := enumEnd p rx s
    if !r.2 then s else
      match r.1.host.running.find? (fun c => c.op == 0x0403 && keyIdx (fld c.payload 0 4) == p) with
      | none => r.1
      | some c => finishRun c (Res.ok (enumSummary r.1 p)) r.1

/-! ## Meanings: events of the host side -/

/-- COMMAND_EXECUTION (R111). -/
def execCommandExecution (ecc : List HoldEcc) (s : State) : Host.Outcome State Fault Refusal := .next (commandExecution ecc s)
/-- ENUMERATE_RUN_END (R159). -/
def execEnumerateRunEnd (port : Nat) (rx : List (Nat × SlotRx)) (s : State) : Host.Outcome State Fault Refusal :=
  .next (enumRunEnd port rx s)
/-- RIG_COMMIT_COMPLETE (R132). -/
def execRigCommitComplete (s : State) : Host.Outcome State Fault Refusal := .next (endRun 0x0303 rigCommitEnd s)
/-- RIG_SAVE_COMPLETE (R139). -/
def execRigSaveComplete (s : State) : Host.Outcome State Fault Refusal := .next (endRun 0x0306 rigSaveEnd s)
/-- FW_END_COMPLETE (R85). -/
def execFwEndComplete (s : State) : Host.Outcome State Fault Refusal := .next (endRun 0x0C08 (fun _ => fwEnd) s)
/-- FW_UPDATE_TIMEOUT (R85). -/
def execFwUpdateTimeout (s : State) : Host.Outcome State Fault Refusal := .next (fwTimeout s)
/-- HELLO_CONTEXT_EXPIRY (R63). -/
def execHelloContextExpiry (nonce : Bytes) (s : State) : Host.Outcome State Fault Refusal := .next (ctxExpiry nonce s)
/-- HOST_SILENCE (R94). -/
def execHostSilence (s : State) : Host.Outcome State Fault Refusal := .next (hostSilence s)
/-- SESSION_SILENT (R90). -/
def execSessionSilent (slot : Nat) (s : State) : Host.Outcome State Fault Refusal := .next (sessionSilent slot s)
/-- SESSION_EXPIRY (R92). -/
def execSessionExpiry (slot : Nat) (s : State) : Host.Outcome State Fault Refusal := .next (sessionExpiry slot s)
/-- ORPHAN_HOLD_EXPIRY (R424). -/
def execOrphanHoldExpiry (owner : Nat) (s : State) : Host.Outcome State Fault Refusal := .next (orphanExpiry owner s)
/-- READY_NOTICE (R384). -/
def execReadyNotice (s : State) : Host.Outcome State Fault Refusal := .next (readyNotice s)

/-! ## Meanings: the opcodes -/

/-- HELLO (R63). -/
def execHello (p : Packet) (s : State) : Host.Outcome State Fault Refusal := .next (hostRow 0x0101 p s)
/-- AUTH (R63). -/
def execAuth (p : Packet) (s : State) : Host.Outcome State Fault Refusal := .next (hostRow 0x0102 p s)
/-- KEEPALIVE (R79). -/
def execKeepalive (p : Packet) (s : State) : Host.Outcome State Fault Refusal := .next (hostRow 0x0103 p s)
/-- BYE (R93). -/
def execBye (p : Packet) (s : State) : Host.Outcome State Fault Refusal := .next (hostRow 0x0104 p s)
/-- SUBSCRIBE (R83). -/
def execSubscribe (p : Packet) (s : State) : Host.Outcome State Fault Refusal := .next (hostRow 0x0105 p s)
/-- GET_READY (R383). -/
def execGetReady (p : Packet) (s : State) : Host.Outcome State Fault Refusal := .next (hostRow 0x0106 p s)
/-- JOURNAL_HEAD (R114). -/
def execJournalHead (p : Packet) (s : State) : Host.Outcome State Fault Refusal := .next (hostRow 0x0201 p s)
/-- JOURNAL_READ (R115). -/
def execJournalRead (p : Packet) (s : State) : Host.Outcome State Fault Refusal := .next (hostRow 0x0202 p s)
/-- RESULT_OF (R82). -/
def execResultOf (p : Packet) (s : State) : Host.Outcome State Fault Refusal := .next (hostRow 0x0203 p s)
/-- STATE_DIGEST (R117). -/
def execStateDigest (p : Packet) (s : State) : Host.Outcome State Fault Refusal := .next (hostRow 0x0204 p s)
/-- OBJECT_VERSIONS (R116). -/
def execObjectVersions (p : Packet) (s : State) : Host.Outcome State Fault Refusal := .next (hostRow 0x0205 p s)
/-- RIG_BEGIN (R128). -/
def execRigBegin (p : Packet) (s : State) : Host.Outcome State Fault Refusal := .next (hostRow 0x0301 p s)
/-- RIG_PUT (R130). -/
def execRigPut (p : Packet) (s : State) : Host.Outcome State Fault Refusal := .next (hostRow 0x0302 p s)
/-- RIG_COMMIT (R132). -/
def execRigCommit (p : Packet) (s : State) : Host.Outcome State Fault Refusal := .next (hostRow 0x0303 p s)
/-- RIG_ABORT (R131). -/
def execRigAbort (p : Packet) (s : State) : Host.Outcome State Fault Refusal := .next (hostRow 0x0304 p s)
/-- RIG_GET (R144). -/
def execRigGet (p : Packet) (s : State) : Host.Outcome State Fault Refusal := .next (hostRow 0x0305 p s)
/-- RIG_SAVE (R139). -/
def execRigSave (p : Packet) (s : State) : Host.Outcome State Fault Refusal := .next (hostRow 0x0306 p s)
/-- RIG_BANK_SELECT (R140). -/
def execRigBankSelect (p : Packet) (s : State) : Host.Outcome State Fault Refusal := .next (hostRow 0x0307 p s)
/-- POINT_READ (R80). -/
def execPointRead (p : Packet) (s : State) : Host.Outcome State Fault Refusal := .next (hostRow 0x0401 p s)
/-- SCAN_SET_PERIOD (R189). -/
def execScanSetPeriod (p : Packet) (s : State) : Host.Outcome State Fault Refusal := .next (hostRow 0x0402 (withByte 4 0#8 p) s)
/-- SCAN_EXTRA_CYCLE (R189). -/
def execScanExtraCycle (p : Packet) (s : State) : Host.Outcome State Fault Refusal := .next (hostRow 0x0402 (withByte 4 1#8 p) s)
/-- ENUMERATE_DISCOVER (R157). -/
def execEnumerateDiscover (p : Packet) (s : State) : Host.Outcome State Fault Refusal := .next (hostRow 0x0403 (withByte 4 0#8 p) s)
/-- ENUMERATE_ASSIGN (R157). -/
def execEnumerateAssign (p : Packet) (s : State) : Host.Outcome State Fault Refusal := .next (hostRow 0x0403 (withByte 4 1#8 p) s)
/-- ENUMERATE_REPORT (R158). -/
def execEnumerateReport (p : Packet) (s : State) : Host.Outcome State Fault Refusal := .next (hostRow 0x0403 (withByte 4 2#8 p) s)
/-- POINT_THRESH_SET (R178). -/
def execPointThreshSet (p : Packet) (s : State) : Host.Outcome State Fault Refusal := .next (hostRow 0x0404 p s)
/-- FRONT_READ (R187). -/
def execFrontRead (p : Packet) (s : State) : Host.Outcome State Fault Refusal := .next (hostRow 0x0405 p s)
/-- TREND_OPEN (R192). -/
def execTrendOpen (p : Packet) (s : State) : Host.Outcome State Fault Refusal := .next (hostRow 0x0406 (withByte 0 1#8 p) s)
/-- TREND_READ (R192). -/
def execTrendRead (p : Packet) (s : State) : Host.Outcome State Fault Refusal := .next (hostRow 0x0406 (withByte 0 2#8 p) s)
/-- TREND_CLOSE (R192). -/
def execTrendClose (p : Packet) (s : State) : Host.Outcome State Fault Refusal := .next (hostRow 0x0406 (withByte 0 3#8 p) s)
/-- TREND_STATUS (R192). -/
def execTrendStatus (p : Packet) (s : State) : Host.Outcome State Fault Refusal := .next (hostRow 0x0406 (withByte 0 4#8 p) s)
/-- FRONT_LOG (R194). -/
def execFrontLog (p : Packet) (s : State) : Host.Outcome State Fault Refusal := .next (hostRow 0x0406 (withByte 0 5#8 p) s)
/-- LOOP_SET_SP (R208). -/
def execLoopSetSp (p : Packet) (s : State) : Host.Outcome State Fault Refusal := .next (hostRow 0x0501 p s)
/-- LOOP_MODE (R207). -/
def execLoopMode (p : Packet) (s : State) : Host.Outcome State Fault Refusal := .next (hostRow 0x0502 p s)
/-- LOOP_READ (R219). -/
def execLoopRead (p : Packet) (s : State) : Host.Outcome State Fault Refusal := .next (hostRow 0x0503 p s)
/-- LOOP_CLEAR_FLAGS (R81). -/
def execLoopClearFlags (p : Packet) (s : State) : Host.Outcome State Fault Refusal := .next (hostRow 0x0504 p s)
/-- INJECT_START (R220). -/
def execInjectStart (p : Packet) (s : State) : Host.Outcome State Fault Refusal := .next (hostRow 0x0505 p s)
/-- CAPTURE_READ (R222). -/
def execCaptureRead (p : Packet) (s : State) : Host.Outcome State Fault Refusal := .next (hostRow 0x0506 (withByte 1 0#8 p) s)
/-- CAPTURE_FREE (R222). -/
def execCaptureFree (p : Packet) (s : State) : Host.Outcome State Fault Refusal := .next (hostRow 0x0506 (withByte 1 1#8 p) s)
/-- MAST_MODE (R226). -/
def execMastMode (p : Packet) (s : State) : Host.Outcome State Fault Refusal := .next (hostRow 0x0601 p s)
/-- MAST_READ (R237). -/
def execMastRead (p : Packet) (s : State) : Host.Outcome State Fault Refusal := .next (hostRow 0x0602 p s)
/-- LEDGER_READ (R236). -/
def execLedgerRead (p : Packet) (s : State) : Host.Outcome State Fault Refusal := .next (hostRow 0x0603 p s)
/-- DRYER_MODE (R243). -/
def execDryerMode (p : Packet) (s : State) : Host.Outcome State Fault Refusal := .next (hostRow 0x0701 p s)
/-- DRYER_NEXT (R244). -/
def execDryerNext (p : Packet) (s : State) : Host.Outcome State Fault Refusal := .next (hostRow 0x0702 (withByte 4 1#8 p) s)
/-- DRYER_PAUSE (R244). -/
def execDryerPause (p : Packet) (s : State) : Host.Outcome State Fault Refusal := .next (hostRow 0x0702 (withByte 4 2#8 p) s)
/-- DRYER_RESUME (R251). -/
def execDryerResume (p : Packet) (s : State) : Host.Outcome State Fault Refusal := .next (hostRow 0x0702 (withByte 4 3#8 p) s)
/-- DRYER_ACK (R244). -/
def execDryerAck (p : Packet) (s : State) : Host.Outcome State Fault Refusal := .next (hostRow 0x0702 (withByte 4 4#8 p) s)
/-- DRYER_EMPTY (R244). -/
def execDryerEmpty (p : Packet) (s : State) : Host.Outcome State Fault Refusal := .next (hostRow 0x0702 (withByte 4 5#8 p) s)
/-- DRYER_READ (R253). -/
def execDryerRead (p : Packet) (s : State) : Host.Outcome State Fault Refusal := .next (hostRow 0x0703 p s)
/-- ROUTE_CLAIM (R258). -/
def execRouteClaim (p : Packet) (s : State) : Host.Outcome State Fault Refusal := .next (hostRow 0x0801 (withByte 4 1#8 p) s)
/-- ROUTE_RELEASE (R259). -/
def execRouteRelease (p : Packet) (s : State) : Host.Outcome State Fault Refusal := .next (hostRow 0x0801 (withByte 4 0#8 p) s)
/-- ROUTE_START (R261). -/
def execRouteStart (p : Packet) (s : State) : Host.Outcome State Fault Refusal := .next (hostRow 0x0802 p s)
/-- ROUTE_STOP_NORMAL (R263). -/
def execRouteStopNormal (p : Packet) (s : State) : Host.Outcome State Fault Refusal := .next (hostRow 0x0803 (withByte 4 0#8 p) s)
/-- ROUTE_STOP_QUICK (R263). -/
def execRouteStopQuick (p : Packet) (s : State) : Host.Outcome State Fault Refusal := .next (hostRow 0x0803 (withByte 4 1#8 p) s)
/-- ROUTE_ACK (R263). -/
def execRouteAck (p : Packet) (s : State) : Host.Outcome State Fault Refusal := .next (hostRow 0x0803 (withByte 4 2#8 p) s)
/-- ROUTE_READ (R269). -/
def execRouteRead (p : Packet) (s : State) : Host.Outcome State Fault Refusal := .next (hostRow 0x0804 p s)
/-- DIO_WRITE (R297). -/
def execDioWrite (p : Packet) (s : State) : Host.Outcome State Fault Refusal := .next (hostRow 0x0901 p s)
/-- DIO_READ (R303). -/
def execDioRead (p : Packet) (s : State) : Host.Outcome State Fault Refusal := .next (hostRow 0x0902 p s)
/-- LOAD_WRITE (R306). -/
def execLoadWrite (p : Packet) (s : State) : Host.Outcome State Fault Refusal := .next (hostRow 0x0903 p s)
/-- LOAD_READ (R323). -/
def execLoadRead (p : Packet) (s : State) : Host.Outcome State Fault Refusal := .next (hostRow 0x0904 p s)
/-- AO_WRITE (R289). -/
def execAoWrite (p : Packet) (s : State) : Host.Outcome State Fault Refusal := .next (hostRow 0x0905 p s)
/-- FAN_SET (R329). -/
def execFanSet (p : Packet) (s : State) : Host.Outcome State Fault Refusal := .next (hostRow 0x0906 p s)
/-- FAN_READ (R341). -/
def execFanRead (p : Packet) (s : State) : Host.Outcome State Fault Refusal := .next (hostRow 0x0907 p s)
/-- FAULT_CLEAR (R81). -/
def execFaultClear (p : Packet) (s : State) : Host.Outcome State Fault Refusal := .next (hostRow 0x0908 p s)
/-- AFE_READ (R291). -/
def execAfeRead (p : Packet) (s : State) : Host.Outcome State Fault Refusal := .next (hostRow 0x0A01 p s)
/-- THRESH_READ (R292). -/
def execThreshRead (p : Packet) (s : State) : Host.Outcome State Fault Refusal := .next (hostRow 0x0A02 p s)
/-- TT_OPEN (R353). -/
def execTtOpen (p : Packet) (s : State) : Host.Outcome State Fault Refusal := .next (hostRow 0x0B01 (withByte 0 1#8 p) s)
/-- TT_CLOSE (R353). -/
def execTtClose (p : Packet) (s : State) : Host.Outcome State Fault Refusal := .next (hostRow 0x0B01 (withByte 0 2#8 p) s)
/-- TT_NOTIFY (R353). -/
def execTtNotify (p : Packet) (s : State) : Host.Outcome State Fault Refusal := .next (hostRow 0x0B01 (withByte 0 3#8 p) s)
/-- TT_READ (R354). -/
def execTtRead (p : Packet) (s : State) : Host.Outcome State Fault Refusal := .next (hostRow 0x0B02 p s)
/-- TT_PIN (R355). -/
def execTtPin (p : Packet) (s : State) : Host.Outcome State Fault Refusal := .next (hostRow 0x0B03 (withByte 1 1#8 p) s)
/-- TT_UNPIN (R355). -/
def execTtUnpin (p : Packet) (s : State) : Host.Outcome State Fault Refusal := .next (hostRow 0x0B03 (withByte 1 0#8 p) s)
/-- TT_CLEAR (R357). -/
def execTtClear (p : Packet) (s : State) : Host.Outcome State Fault Refusal := .next (hostRow 0x0B04 p s)
/-- TT_LIMITS_SET (R352). -/
def execTtLimitsSet (p : Packet) (s : State) : Host.Outcome State Fault Refusal := .next (hostRow 0x0B05 (withByte 0 1#8 p) s)
/-- TT_LIMITS_GET (R352). -/
def execTtLimitsGet (p : Packet) (s : State) : Host.Outcome State Fault Refusal := .next (hostRow 0x0B05 (withByte 0 2#8 p) s)
/-- SYS_INFO (R392). -/
def execSysInfo (p : Packet) (s : State) : Host.Outcome State Fault Refusal := .next (hostRow 0x0C01 p s)
/-- TIME_MARK (R358). -/
def execTimeMark (p : Packet) (s : State) : Host.Outcome State Fault Refusal := .next (hostRow 0x0C02 p s)
/-- RESET_WARM (R391). -/
def execResetWarm (p : Packet) (s : State) : Host.Outcome State Fault Refusal := .next (hostRow 0x0C03 (withByte 0 1#8 p) s)
/-- RESET_COLD (R391). -/
def execResetCold (p : Packet) (s : State) : Host.Outcome State Fault Refusal := .next (hostRow 0x0C03 (withByte 0 2#8 p) s)
/-- POWER_PLAN_GET (R374). -/
def execPowerPlanGet (p : Packet) (s : State) : Host.Outcome State Fault Refusal := .next (hostRow 0x0C04 (withByte 0 1#8 p) s)
/-- POWER_PLAN_CLEAR (R373). -/
def execPowerPlanClear (p : Packet) (s : State) : Host.Outcome State Fault Refusal := .next (hostRow 0x0C04 (withByte 0 2#8 p) s)
/-- POWER_PLAN_SET (R375). -/
def execPowerPlanSet (p : Packet) (s : State) : Host.Outcome State Fault Refusal := .next (hostRow 0x0C04 (withByte 0 3#8 p) s)
/-- QUOTA_SET (R107). -/
def execQuotaSet (p : Packet) (s : State) : Host.Outcome State Fault Refusal := .next (hostRow 0x0C05 p s)
/-- ROLE_LOWER (R99). -/
def execRoleLower (p : Packet) (s : State) : Host.Outcome State Fault Refusal := .next (hostRow 0x0C06 (withByte 0 1#8 p) s)
/-- ROLE_EVICT (R99). -/
def execRoleEvict (p : Packet) (s : State) : Host.Outcome State Fault Refusal := .next (hostRow 0x0C06 (withByte 0 2#8 p) s)
/-- ROLE_RELEASE (R99). -/
def execRoleRelease (p : Packet) (s : State) : Host.Outcome State Fault Refusal := .next (hostRow 0x0C06 (withByte 0 3#8 p) s)
/-- KEY_SET (R89). -/
def execKeySet (p : Packet) (s : State) : Host.Outcome State Fault Refusal := .next (hostRow 0x0C07 p s)
/-- FW_BEGIN (R85). -/
def execFwBegin (p : Packet) (s : State) : Host.Outcome State Fault Refusal := .next (hostRow 0x0C08 (withByte 0 1#8 p) s)
/-- FW_DATA (R85). -/
def execFwData (p : Packet) (s : State) : Host.Outcome State Fault Refusal := .next (hostRow 0x0C08 (withByte 0 2#8 p) s)
/-- FW_END (R85). -/
def execFwEnd (p : Packet) (s : State) : Host.Outcome State Fault Refusal := .next (hostRow 0x0C08 (withByte 0 3#8 p) s)
/-- FW_ACTIVATE (R85). -/
def execFwActivate (p : Packet) (s : State) : Host.Outcome State Fault Refusal := .next (hostRow 0x0C08 (withByte 0 4#8 p) s)
/-- FW_ABORT (R85). -/
def execFwAbort (p : Packet) (s : State) : Host.Outcome State Fault Refusal := .next (hostRow 0x0C08 (withByte 0 5#8 p) s)

end Sys2Proof.Machine
end

