-- ==== Sys2Proof/Machine/Start.lean ====
section
/-! DEFINITION. Starts (chapter 18): closing the journal (R113), the firmware check (R86), the rig at a start, the cold
start (R380), and adoption after a warm reset (R385 to R387). -/
namespace Sys2Proof.Machine

/-! ## What every start does -/

/-- A pending outcome becomes ABANDONED_RESET (R113). -/
def abandon (os : List Nat) : List Nat := os.map (fun o => if o = 0xFFFF then 0x0601 else o)

/-- An entry as a start leaves it: one still ADMITTED is CUT, with what was durable of its outcomes. -/
def closeEntry (s : State) (e : JEntry) : JEntry :=
  if e.kind = 2 then { e with outcomes := abandon e.outcomes }
  else if e.kind = 1 && e.state = 1 then
    { e with state := 3, outcomes := abandon e.outcomes,
             status := if e.items = 0 then 0x0601 else statusOf (abandon (s.jOutcomes e)) }
  else e

/-- Entries written since the previous START that fail their CRC. -/
def State.damagedNew (s : State) : List Nat := s.jrnl.bad.filter (fun j => decide (s.start.startJseq < j ∧ j ≤ s.jrnl.head))

/-- Every entry still ADMITTED is closed, and a damaged one marked (R113). -/
def closeJournal (s : State) : State :=
  let hit := s.damagedNew
  let ring := s.jrnl.ring.map (fun e =>
    (e.1, if hit.contains e.1 then { e.2 with jseq := e.1, state := 4 } else closeEntry s e.2))
  { s with jrnl := { s.jrnl with ring := Tbl.mapv JEntry.dflt id ring, bad := s.jrnl.bad.filter (fun j => !hit.contains j) } }

/-- The journal at a start (R110, R113): closed entries, the START entry, the sessions' objects Orphaned by it (R96). -/
def startJournal (kind : Nat) (s : State) : State :=
  let s1 := jDevice 4 0 0xFF kind (closeJournal s)
  let j := s1.jrnl.head
  let owned := (s1.own.filter (fun e => e.2.own == 1)).map (fun e => e.1)
  let s2 := forAll owned (orphanObj j) { s1 with start := { s1.start with startJseq := j } }
  forAll s.damagedNew (fun n st => ttOccur 0 0x02C1 0 (le 8 n) st) (s2.setRdy 0)

/-- The firmware that runs: the marked slot's, or the other's when its signature fails (R86). -/
def startFirmware (s : State) : State :=
  let m := s.fw.marked % 2
  let ok := (s.fwSlot m).sigOk
  let r := if ok then m else 1 - m
  let x := s.fwSlot r
  let s1 := { s with fw := { s.fw with running := r, version := x.version, floor := max s.fw.floor x.sec } }
  if ok then s1 else ttOccur 0 0x0CC2 0 (le 4 (s.fwSlot m).version) s1

/-- The rig is loaded (R141). A change found DONE is live with it, or is gone with its base (R135). -/
def startRig (s : State) : State :=
  let r := loadRig s
  if r.2 then rigResume true r.1 else r.1

/-- Holds of orphaned objects that have ended release them at once (R424). -/
def startOrphans (s : State) : State :=
  forAll ((s.own.filter (fun e => e.2.own == 2)).map (fun e => e.2.owner)).eraseDups orphanExpiry s

/-- READY bits set in order. -/
def setBits (l : List Nat) (s : State) : State := forAll l (fun n st => st.setRdy n) s

/-- The host side at a start: buckets full, no session heard yet (R63, R94, R104). -/
def startHost (s : State) : State :=
  let now := s.aon.nowUs
  { s with
    auth := { s.auth with tok := 100000000, tokAt := now },
    host := { s.host with aggTok := 1000000000, aggAt := now, silence := false, opHeard := now },
    start := { s.start with seenReady := 0, seenPorts := 0, readyAt := none, refreshAt := now } }

/-- The START record (R393). -/
def startRecord (s : State) : State :=
  ttOccur 0 0x0C01 0 (le 4 (s.start.kind + s.start.keep * 256 + s.start.correctedN * 65536) ++ le 8 s.start.startJseq) s

/-! ## The cold start (R380) -/

/-- Kind of the cold start to come (R376). -/
def State.coldKindNow (s : State) : Nat :=
  if s.pwr.coldKind ≠ 0 then s.pwr.coldKind else if s.pwr.saveDone then 1 else 2

/-- OPTIME resumes (R365), POWERCYCLE rises, and the scrubber begins its catch-up pass (R421). -/
def coldTime (s : State) : State :=
  let ms := (s.aon.savedOptime + if s.aon.savedAtFail then 0 else 60000) % 2 ^ 48
  { s with aon := { s.aon with
    nowUs := ms * 1000, powercycle := (s.aon.powercycle + 1) % 4294967296, savedOptime := ms, savedAtFail := false,
    optimeSavedAt := ms * 1000, scrubLeft := 8192, scrubAt := ms * 1000 } }

/-- What the rig changes in what is durable, when it differs from the last one a start or activation brought (R25, R194,
R252, R268). -/
def coldChanges (old : State) (s : State) : State :=
  forAll ((changedKeys old.rig.live s.rig.live).filter (fun k => [0x03, 0x07, 0x08, 0x0A, 0x0B, 0x0C, 0x0D].contains (keyType k)))
    (activateKey old) s

/-- A die takes the live configuration (R380 step 8, R379). -/
def confDie (d : Nat) (s : State) : State :=
  s.setDie d { s.die d with
    conf := true, force := (s.die d).sense, refreshAt := s.aon.nowUs, safeTimeout := s.safeTimeout, keepWindow := s.keepWindow }

/-- The field side is configured (R380 step 8): wire models at 0.4 M_eff (R313), front-end ranges, switches. -/
def coldField (s : State) : State :=
  let now := s.aon.nowUs
  let s1 := forAll [1, 2, 3] confDie s
  let s2 := { s1 with io := { s1.io with fanAt := now, fuseAt := now, modAt := now } }
  let s3 := forAll (s2.enabled 0x0B) (fun i st => st.setLoad i ((st.load i).coldWire (st.ld i))) s2
  let s4 := forAll [0x0F, 0x10] (fun t st => forAll (st.enabled t) (fun i u =>
    u.setAfe (dkey t i) { AfeCh.dflt with range := startRange (u.d t i) }) st) s3
  wdReload (forAll (s4.enabled 0x11) (fun n st => st.setSw n { ThSw.dflt with at_ := now }) s4)

/-- The front end hoists and calibrates when a channel is enabled; with none there is nothing to calibrate (R380 step 9). -/
def coldAfe (s : State) : State := if s.domainWanted 9 then hoist 9 s else s.setRdy 9

/-- The module may start (R361, R378). -/
def State.mayStart (s : State) (cV : Nat) : Bool := s.pwr.phase == .cold && !s.pwr.nrstLow && decide (850 ≤ cV)

/-- COLD_START (R380). -/
def coldStart (cV : Nat) (s : State) : State :=
  if !s.mayStart cV then { s with pwr := { s.pwr with vsup := cV } } else
    let kind := s.coldKindNow
    let s1 := coldTime s
    let s2 := { s1 with
      pwr := { s1.pwr with phase := .run, vsup := cV, saveDone := false, coldKind := 0, pgood := true }
      start := { s1.start with startOptime := s1.optime, kind := kind, keep := 0, correctedN := 0, corrected := 0, ready := 0,
                               ports := 0 } }
    let s3 := startJournal kind (startFirmware (hoist 12 (hoist 1 (clearStats s2))))
    let s4 := rigResume false (startRig s3)
    let s5 := startOrphans (setBits [1, 3, 16, 2] (startHost (coldChanges s s4)))
    let s6 := setBits [5, 6, 7, 4] (coldField (startRecord s5))
    let s7 := coldAfe (startRoutes false (startDryers false (startMasts (loadLoops (sheavePlls s6)))))
    let s8 := forAll (s7.enabled 0x01) switchOn s7
    forcesNow { s8 with scan := { s8.scan with firstAt := s8.aon.nowUs + 102000 } }

/-- NRST_RELEASE (R378): the start runs from the rising edge when VSUP stands. -/
def nrstRelease (s : State) : State :=
  let s1 := { s with pwr := { s.pwr with nrstLow := false } }
  if s.pwr.nrstLow then coldStart s.pwr.vsup s1 else s1

/-! ## Adoption (R385 steps 4 to 6, R386, R387) -/

/-- A die in its safe states drives these at adoption: they are what its keepers show (R387). -/
def keepersShow (s : State) : State :=
  forAll (s.outputs.filter (fun k => (s.die (dieOf k)).keepOver)) (fun k st =>
    st.setOut k { st.out k with row5 := safeValue s k }) s

/-- A configuration of the dies that differs is staged (R385 step 5). The tables that a start sets up anew are left to
it. -/
def warmChanges (old : State) (s : State) : State :=
  let ks := (changedKeys old.rig.live s.rig.live).filter (fun k => !([0x02, 0x04, 0x05, 0x06, 0x09].contains (keyType k)))
  forAll ks (activateKey old) s

/-- The tables of the Hold that a start sets up anew (R377). -/
def warmHold (s : State) : State := { s with points := [], fronts := [], cableOvr := [] }

/-- A dryer as its saved state drives its outputs, before its first evaluation (R386). -/
def dryerIntent (s : State) (i : Nat) : Dryer := dryDrive (s.d 0x07 i) (dryEnv s i) (dryTakeOver s i (s.dryer i))

/-- The intent of an output at the level of row 5 of R26 (R386). -/
def intentOf (s : State) (k : Nat) : Nat :=
  let i := keyIdx (s.df (keyType k) (keyIdx k) 4 4)
  let dryer := (keyType k = 0x0A && s.srcKind k = 3) || ((keyType k = 0x0B || keyType k = 0x0C) && s.srcKind k = 2)
  let s1 := if dryer then s.setDryer i (dryerIntent s i) else s
  match sourceValue s1 k with
  | some v => s.row5 k v
  | none => (s.out k).row5

/-- Place of an output in the CORRECTED map (R392). -/
def corrBit (k : Nat) : Nat :=
  match keyType k with
  | 0x0A => keyIdx k
  | 0x0B => 192 + keyIdx k
  | 0x0C => 240 + keyIdx k
  | _ => 336 + keyIdx k

/-- Outputs whose keeper value differs from their intent. -/
def State.toCorrect (s : State) : List Nat := s.outputs.filter (fun k => (s.out k).row5 != intentOf s k)

/-- KEEP, CORRECTED_N and CORRECTED (R386, R392, R393). -/
def adopt (s : State) : State :=
  let l := s.toCorrect
  let safe := [1, 2, 3].any (fun d => (s.die d).keepOver)
  { s with start := { s.start with
    keep := if safe then 3 else if l = [] then 1 else 2, correctedN := l.length,
    corrected := l.foldl (fun a k => a ||| 2 ^ corrBit k) 0 } }

/-- ADOPTION (R385 steps 2 to 6): the control die comes up, and the next output latch ends the hold. -/
def adoption (s : State) : State :=
  match s.pwr.phase with
  | .warm =>
    let kind := s.start.kind
    let s1 := ttMerge (keepersShow { s with pwr := { s.pwr with phase := .run }, start := { s.start with warmRun := 0 } })
    let s2 := startRig (startJournal kind (startFirmware s1))
    let s3 := startOrphans (setBits [1, 3, 16, 2] (startHost (warmHold (warmChanges s s2))))
    let s4 := startRoutes true (startDryers true (startMasts (loadLoops (sheavePlls s3))))
    let s5 := startRecord (adopt s4)
    let s6 := if kind = 0x13 then ttOccur 0 0x0CC1 0 [] s5 else s5
    let s7 := setBits ([5, 6, 7, 4] ++ if s6.start.afeCalibrating then [] else [9]) s6
    let s8 := forAll [1, 2, 3] (fun d st => st.setDie d { st.die d with refreshAt := s7.aon.nowUs }) s7
    forcesNow { s8 with scan := { s8.scan with firstAt := s8.aon.nowUs } }
  | _ => s

/-! ## Meanings -/

/-- COLD_START (R380). -/
def execColdStart (cV : Nat) (s : State) : Host.Outcome State Fault Refusal := .next (coldStart cV s)
/-- NRST_RELEASE (R378). -/
def execNrstRelease (s : State) : Host.Outcome State Fault Refusal := .next (nrstRelease s)
/-- ADOPTION (R386). -/
def execAdoption (s : State) : Host.Outcome State Fault Refusal := .next (adoption s)

end Sys2Proof.Machine
end

