-- ==== Sys2Proof/Machine/Transport.lean ====
section
/-! DEFINITION. The host ports and their transports (chapter 02): Ethernet and its fragments, CAN FD segments, RS-485
frames, the SPI mailbox, and link loss. -/
namespace Sys2Proof.Machine

/-! ## Ethernet (R40, R42 to R46) -/

/-- An Ethernet interface takes frames. -/
def State.ethOn (s : State) (i : Nat) : Bool := decide (i < 3) && s.portOn i && s.linkUp i

/-- A datagram for the module's port on its own address: the checksum is right, or not given (R45). -/
def udpIn (i src dst sport dport cksum : Nat) (data : Bytes) (s : State) : State :=
  if s.ethOn i && dst == s.ipOf i && dport == 18430 && (cksum == 0 || cksum == udpSum src dst sport dport data) then
    arrive i (src * 65536 + sport) data [] s
  else s

/-- UDP_DATAGRAM (R44, R45): a tagged frame is dropped. -/
def udpDatagram (d : UdpIn) (s : State) : State :=
  if d.tagged then s
  else udpIn d.iface d.srcIp.toNat d.dstIp.toNat d.srcPort.toNat d.dstPort.toNat d.cksum.toNat d.data s

/-- ICMP_ECHO (R44): at most 10 replies in any second on an interface; the reply carries the request's data and is
fragmented to the MTU (R46). -/
def icmpEcho (i src dst : Nat) (data : Bytes) (s : State) : State :=
  let now := s.aon.nowUs
  let recent := s.net.icmp.filter (fun e => decide (now < e.2 + 1000000))
  if !s.ethOn i || dst != s.ipOf i || 10 ≤ (recent.filter (fun e => e.1 == i)).length then s
  else
    let body (ck : Nat) : Bytes := zeros 2 ++ be 2 ck ++ data
    let ck := 65535 - fold16 (onesSum (body 0))
    emit (ipFrames s i 1 src (body ck)) { s with net := { s.net with icmp := recent ++ [(i, now)] } }

/-- The IPv4 payload of a whole datagram: UDP, or an ICMP echo request (R44, R45). DESIGN CHOICE (log 46): an echo
request is answered whatever its ICMP checksum reads. -/
def ipPayload (i src dst proto : Nat) (b : Bytes) (s : State) : State :=
  let n := beNat (cut b 4 2)
  if proto = 17 && 8 ≤ n && n ≤ b.length then
    udpIn i src dst (beNat (cut b 0 2)) (beNat (cut b 2 2)) (beNat (cut b 6 2)) (cut b 8 (n - 8)) s
  else if proto = 1 && fld b 0 2 = 8 then icmpEcho i src dst (b.drop 4) s
  else s

/-- The byte at position `n` of a datagram in parts: of the part that came first. -/
def partByte (parts : List (Nat × Bytes)) (n : Nat) : Option Byte :=
  match parts.find? (fun p => decide (p.1 ≤ n) && decide (n < p.1 + p.2.length)) with
  | some p => p.2[n - p.1]?
  | none => none

/-- The whole datagram, once every byte has come. -/
def FragCtx.whole (c : FragCtx) : Option Bytes :=
  match c.total with
  | none => none
  | some n => (List.range n).mapM (partByte c.parts)

/-- The context of a datagram. -/
def FragCtx.same (c : FragCtx) (i src dst ident : Nat) : Bool :=
  c.iface == i && c.src == src && c.dst == dst && c.ident == ident

/-- A fragment that has passed R44 joins its context, and the datagram is taken when it is whole (R46). A datagram above
8,260 B with its header is discarded. -/
def fragIn (f : IpFrag) (s : State) : State :=
  let i := f.iface
  let src := f.srcIp.toNat
  let dst := f.dstIp.toNat
  let ident := f.proto.toNat * 65536 + f.ident.toNat
  let now := s.aon.nowUs
  let live := s.net.frags.filter (fun c => !c.same i src dst ident || decide (now ≤ c.at_ + 500000))
  let rest := live.filter (fun c => !c.same i src dst ident)
  let here := rest.filter (fun c => c.iface == i)
  let room := match here with
    | c :: _ => if 8 ≤ here.length then rest.filter (fun x => x != c) else rest
    | [] => rest
  let old := live.find? (fun c => c.same i src dst ident)
  let c0 := old.getD { iface := i, src := src, dst := dst, ident := ident, at_ := now, parts := [], total := none }
  let c1 := { c0 with
    parts := c0.parts ++ [(f.offset, f.data)], total := if f.more then c0.total else some (f.offset + f.data.length) }
  let s1 := { s with net := { s.net with frags := rest } }
  if 8240 < f.offset + f.data.length then s1
  else match c1.whole with
    | some b => ipPayload i src dst f.proto.toNat b s1
    | none =>
      let held := if old.isSome then live.map (fun c => if c.same i src dst ident then c1 else c) else room ++ [c1]
      { s with net := { s.net with frags := held } }

/-- IP_FRAGMENT (R46). -/
def ipFragment (f : IpFrag) (s : State) : State :=
  if f.tagged || !s.ethOn f.iface || f.dstIp.toNat != s.ipOf f.iface then s else fragIn f s

/-- FRAGMENT_TIMEOUT (R46). -/
def fragTimeout (i src ident : Nat) (s : State) : State :=
  { s with net := { s.net with frags := s.net.frags.filter (fun c =>
      !(c.iface == i && c.src == src && c.ident % 65536 == ident && s.due (c.at_ + 500000))) } }

/-- The MAC address of an interface: the rig's, or that of manufacture (R125). -/
def State.macOf (s : State) (i : Nat) : Bytes :=
  let m := cut (s.pd i) 8 6
  if allZero m then be 6 (Config.factoryMac i).toNat else m

/-- ARP_REQUEST (R44). -/
def arpRequest (i target sender mac : Nat) (s : State) : State :=
  if s.ethOn i && target == s.ipOf i then emit [Frame.arp i (s.ipOf i) (s.macOf i) sender mac] s else s

/-- The LINK record (R346). -/
def linkRecord (p : Nat) (up : Bool) (s : State) : State :=
  ttOccur 0 0x0142 0 [BitVec.ofNat 8 p, BitVec.ofNat 8 (b2n (!up))] s

/-- A link goes down or comes up: on its loss every partly received packet and every queued one of the port is gone
(R38, R40). -/
def linkChange (p : Nat) (up : Bool) (s : State) : State :=
  let q := s.port p
  if s.pwr.phase == .cold || !s.portEn p || q.up == up then s
  else if up then linkRecord p true (s.setPort p { q with up := true })
  else
    let s1 := dropQueued p (s.setPort p { q with up := false })
    linkRecord p false { s1 with net := { s1.net with frags := s1.net.frags.filter (fun c => c.iface != p) } }

/-- T1L_LINK_CHANGE (R40). -/
def t1lLink (p : Nat) (up : Bool) (s : State) : State := if p < 2 then linkChange p up s else s

/-- The PHY address of the RMII port (R43, R125). -/
def State.phyAddr (s : State) : Nat := s.pdb 2 15 0 5

/-- RMII_LINK_POLL (R40, R43): the Bosun reads the basic status register of the PHY at the rig's address; `phys` are the
link status bits of the PHYs on the bus. DESIGN CHOICE (log 49): where no PHY answers, the bit reads clear. -/
def rmiiPoll (phys : List (Nat × Bool)) (s : State) : State :=
  if s.portOn 2 then linkChange 2 (phys.any (fun e => e.1 == s.phyAddr && e.2)) s else s

/-! ## CAN FD (R47 to R50) -/

/-- A frame is for the module (R47): CAN FD, 29-bit identifier, CAN_BASE, host to device, its node number. DESIGN CHOICE
(log 50): SRC 0 and non-zero RSVD bits are no ground to ignore it; the reply goes to the SRC it carries. -/
def State.canMine (s : State) (f : CanFrame) : Bool :=
  let n := f.ident.toNat
  (f.port == 3 || f.port == 4) && s.portOn f.port && s.linkUp f.port && f.fd && f.ext && n / 2 ^ 24 == s.pdb f.port 9 0 5
    && !bit n 23 && n / 512 % 128 == s.pdb f.port 8 0 7

/-- The reassembly of a sender. -/
def State.canCtx (s : State) (p node : Nat) : Option CanCtx := s.net.can.find? (fun c => c.port == p && c.node == node)

/-- A sender's reassembly is gone. -/
def canDrop (p node : Nat) (s : State) : State :=
  { s with net := { s.net with can := s.net.can.filter (fun c => !(c.port == p && c.node == node)) } }

/-- A segment's bytes join the packet (R48, R49): `room` is what the packet still lacks, `len` the data field's length and
`hdr` its header's. The last segment ends the packet where PLEN does, and carries no more than its filling. -/
def canTake (c : CanCtx) (last : Bool) (hdr : Nat) (data : Bytes) (s : State) : State :=
  let s1 := canDrop c.port c.node s
  let bytes := data.drop hdr
  let room := c.plen - c.got.length
  if last then
    if bytes.length < room || canDlc (hdr + room) < data.length then s1
    else arrive c.port c.node (c.got ++ bytes.take room) [] s1
  else if room < bytes.length then s1
  else { s1 with net := { s1.net with can := s1.net.can ++ [{ c with
    seq := (c.seq + 1) % 64, got := c.got ++ bytes, at_ := s.aon.nowUs }] } }

/-- CAN_SEGMENT (R48, R49). -/
def canSegment (f : CanFrame) (s : State) : State :=
  let h := fld f.data 0 1
  let node := f.ident.toNat / 65536 % 128
  let seq := h % 64
  if !s.canMine f || f.data = [] then s
  else if bit h 7 then
    let s1 := canDrop f.port node s
    let plen := fld f.data 1 2
    let held := (s1.net.can.filter (fun c => c.port == f.port)).length
    if seq ≠ 0 || plen < 40 || 8232 < plen || f.data.length < 3 || (!bit h 6 && 16 ≤ held) then s1
    else canTake { port := f.port, node := node, seq := 0, plen := plen, got := [], at_ := s.aon.nowUs } (bit h 6) 3 f.data s1
  else match s.canCtx f.port node with
    | none => s
    | some c =>
      if seq ≠ c.seq || c.at_ + 50000 < s.aon.nowUs then canDrop f.port node s else canTake c (bit h 6) 1 f.data s

/-- CAN_SEGMENT_TIMEOUT (R49). -/
def canTimeout (p node : Nat) (s : State) : State :=
  match s.canCtx p node with
  | some c => if s.due (c.at_ + 50000) then canDrop p node s else s
  | none => s

/-- CAN_BUS_OFF (R38, R40, R50). -/
def canBusOff (p : Nat) (s : State) : State :=
  if !(p == 3 || p == 4) || !s.portOn p || s.net.busOff.contains p then s
  else
    let s1 := { s with net := { s.net with
      busOff := s.net.busOff ++ [p], can := s.net.can.filter (fun c => c.port != p) } }
    ttOccur 0 0x0183 0 [BitVec.ofNat 8 p] (linkRecord p false (dropQueued p s1))

/-- CAN_BUS_OFF_RECOVERY (R50). -/
def canRecover (p : Nat) (s : State) : State :=
  if !s.net.busOff.contains p then s
  else linkRecord p true { s with net := { s.net with busOff := s.net.busOff.filter (fun q => q != p) } }

/-! ## RS-485 (R51 to R53) -/

/-- A frame with its CRC (R51, R52). -/
def rsFrame (addr kind : Nat) (body : Bytes) : Bytes :=
  let inner := [BitVec.ofNat 8 addr, BitVec.ofNat 8 kind] ++ le 2 body.length ++ body
  [0xA5#8, 0x5A#8] ++ inner ++ le 4 (crc32 inner)

/-- The module's address on a port (R125). -/
def State.rsAddr (s : State) (p : Nat) : Nat := s.pdf p 8 1

/-- KIND and LEN go together (R51): of a frame for the module those of the host, of another's frame any. -/
def rsKindOk (mine : Bool) (kind len : Nat) : Bool :=
  let data := decide (40 ≤ len) && decide (len ≤ 8232)
  match kind with
  | 0x01 => data
  | 0x02 => len == 0
  | 0x81 => !mine && data
  | 0x83 => !mine && len == 0
  | _ => false

/-- A frame error is counted (R52). -/
def rsError (p : Nat) (s : State) : State := s.setPort p { s.port p with frameErrs := (s.port p).frameErrs + 1 }

/-- RS485_FRAME (R41, R51 to R53). -/
def rs485Frame (p : Nat) (f : Bytes) (s : State) : State :=
  let len := fld f 4 2
  let kind := fld f 3 1
  let mine := fld f 2 1 == s.rsAddr p
  let body := cut f 6 len
  if !(p == 5 || p == 6) || !s.portOn p || f.take 2 != [0xA5#8, 0x5A#8] then s
  else if f.length ≠ len + 10 || !rsKindOk mine kind len || fld f (6 + len) 4 ≠ crc32 (cut f 2 (4 + len)) then rsError p s
  else if !mine then s
  else
    let full := kind == 1 && !s.roomFor len
    let s1 := s.setPort p { s.port p with window := true, empty := full }
    if kind = 1 then arrive p 0 body [] s1 else s1

/-- RS485_GAP_TIMEOUT (R52). -/
def rs485Gap (p : Nat) (s : State) : State := if (p == 5 || p == 6) && s.portOn p then rsError p s else s

/-- RS485_REPLY_WINDOW (R53): the oldest queued packet, or EMPTY. -/
def rs485Window (p : Nat) (s : State) : State :=
  let q := s.port p
  if !(p == 5 || p == 6) || !s.portOn p || !q.window then s
  else
    let q1 := { q with window := false, empty := false }
    match q.outQ with
    | o :: t =>
      if q.empty then emit [Frame.rs485 p (rsFrame (s.rsAddr p) 0x83 [])] (s.setPort p q1)
      else resetIfDue (emit [Frame.rs485 p (rsFrame (s.rsAddr p) 0x81 (sealed o s))] (s.setPort p { q1 with outQ := t }))
    | [] => emit [Frame.rs485 p (rsFrame (s.rsAddr p) 0x83 [])] (s.setPort p q1)

/-! ## The SPI mailbox (R54 to R56) -/

/-- A refused access (R55). -/
def spiErr (s : State) : State :=
  { s with spi := { s.spi with irqStatus := s.spi.irqStatus ||| 4, errCount := satInc 0xFFFFFFFF s.spi.errCount } }

/-- IN_GO (R55). -/
def spiGo (s : State) : State :=
  if s.spi.inFree && 40 ≤ s.spi.inLen && s.spi.inLen ≤ 8232 then { s with spi := { s.spi with inFree := false } } else spiErr s

/-- OUT_DONE (R55). -/
def spiDone (s : State) : State :=
  if s.spi.outValid then { s with spi := { s.spi with outValid := false, outLen := 0 } } else spiErr s

/-- An address in the IN buffer. -/
def inBufAddr (a : Nat) : Bool := decide (4096 ≤ a) && decide (a < 12328)

/-- One byte is written to a register or to the IN buffer; a read-only or unlisted address takes nothing (R54). -/
def spiPut (a : Nat) (b : Byte) (s : State) : State :=
  let v := b.toNat
  if inBufAddr a then
    (if s.spi.inFree then { s with spi := { s.spi with inBuf := Memory.write s.spi.inBuf (a - 4096) [b] } } else s)
  else match a with
    | 8 =>
      let s1 := if bit v 0 then spiGo s else s
      if bit v 1 then spiDone s1 else s1
    | 12 => { s with spi := { s.spi with inLen := s.spi.inLen / 256 * 256 + v } }
    | 13 => { s with spi := { s.spi with inLen := v % 64 * 256 + s.spi.inLen % 256 } }
    | 16 => { s with spi := { s.spi with irqMask := v % 8 } }
    | 20 => { s with spi := { s.spi with irqStatus := s.spi.irqStatus - (s.spi.irqStatus &&& v) } }
    | _ => s

/-- The bytes of a write transaction in their order; whether one met the IN buffer while IN_FREE was 0. DESIGN CHOICE
(log 51): the address after 0xFFFF is 0. -/
def spiPuts : Nat → Bytes → State × Bool → State × Bool
  | _, [], r => r
  | a, b :: bs, r => spiPuts ((a + 1) % 65536) bs (spiPut a b r.1, r.2 || (inBufAddr a && !r.1.spi.inFree))

/-- A write transaction: the address advances by 1 for each byte. A write to the IN buffer that is refused counts once
(R55). -/
def spiWrite (a : Nat) (data : Bytes) (s : State) : State :=
  if !s.portOn 7 then s else
    let r := spiPuts (a % 65536) data (s, false)
    if r.2 then spiErr r.1 else r.1

/-- What one mailbox byte holds (R54). -/
def spiByte (s : State) (a : Nat) : Byte :=
  let x := s.spi
  let w (n v : Nat) : Byte := BitVec.ofNat 8 (v / 256 ^ n)
  if a < 4 then w a 0x4C580064
  else if a < 8 then w (a - 4) (b2n x.inFree + 2 * b2n x.outValid + 4 * b2n (bit x.irqStatus 2) + 65536 * x.outLen)
  else if 12 ≤ a && a < 16 then w (a - 12) x.inLen
  else if 16 ≤ a && a < 20 then w (a - 16) x.irqMask
  else if 20 ≤ a && a < 24 then w (a - 20) x.irqStatus
  else if 24 ≤ a && a < 28 then w (a - 24) x.errCount
  else if 16384 ≤ a && a < 24616 then Memory.byte x.outBuf (a - 16384)
  else 0#8

/-- What a read transaction finds on SPI_SDO for one mailbox byte (R54); none is high impedance (R36). -/
def spiRead (s : State) (a : Nat) : Option Byte := if s.portOn 7 then some (spiByte s a) else none

/-- nSPIIRQ is asserted (R56, R36). -/
def spiIrq (s : State) : Bool := s.portOn 7 && (s.spi.irqStatus &&& s.spi.irqMask) != 0

/-- SPI_IN_TAKEN (R55): the packet goes to admission and the IN buffer is free again. DESIGN CHOICE (log 51): IN_LEN is
read here, so that a write of it after IN_GO gives the length, even one outside 40 to 8,232. -/
def spiTaken (s : State) : State :=
  if !s.portOn 7 || s.spi.inFree then s
  else
    let bs := Memory.read s.spi.inBuf 0 s.spi.inLen
    arrive 7 0 bs [] { s with spi := { s.spi with inFree := true, irqStatus := s.spi.irqStatus ||| 2 } }

/-- SPI_OUT_PLACE (R55): the next queued packet. -/
def spiPlace (s : State) : State :=
  if !s.portOn 7 || s.spi.outValid then s
  else match (s.port 7).outQ with
    | [] => s
    | o :: t =>
      let s1 := s.setPort 7 { s.port 7 with outQ := t }
      let bs := sealed o s
      resetIfDue (emit [Frame.spi bs] { s1 with spi := { s1.spi with
        outValid := true, outLen := bs.length, irqStatus := s.spi.irqStatus ||| 1,
        outBuf := Memory.write s.spi.outBuf 0 bs } })

/-! ## Meanings -/

/-- UDP_DATAGRAM (R45). -/
def execUdpDatagram (d : UdpIn) (s : State) : Host.Outcome State Fault Refusal := .next (udpDatagram d s)
/-- IP_FRAGMENT (R46). -/
def execIpFragment (f : IpFrag) (s : State) : Host.Outcome State Fault Refusal := .next (ipFragment f s)
/-- FRAGMENT_TIMEOUT (R46). -/
def execFragmentTimeout (iface : Nat) (srcIp : BitVec 32) (ident : BitVec 16) (s : State) : Host.Outcome State Fault Refusal :=
  .next (fragTimeout iface srcIp.toNat ident.toNat s)
/-- ARP_REQUEST (R44). -/
def execArpRequest (iface : Nat) (targetIp senderIp : BitVec 32) (senderMac : BitVec 48) (s : State) :
    Host.Outcome State Fault Refusal := .next (arpRequest iface targetIp.toNat senderIp.toNat senderMac.toNat s)
/-- ICMP_ECHO (R44). -/
def execIcmpEcho (iface : Nat) (srcIp dstIp : BitVec 32) (data : Bytes) (s : State) : Host.Outcome State Fault Refusal :=
  .next (icmpEcho iface srcIp.toNat dstIp.toNat data s)
/-- CAN_SEGMENT (R48). -/
def execCanSegment (f : CanFrame) (s : State) : Host.Outcome State Fault Refusal := .next (canSegment f s)
/-- CAN_SEGMENT_TIMEOUT (R49). -/
def execCanSegmentTimeout (port node : Nat) (s : State) : Host.Outcome State Fault Refusal := .next (canTimeout port node s)
/-- CAN_BUS_OFF (R50). -/
def execCanBusOff (port : Nat) (s : State) : Host.Outcome State Fault Refusal := .next (canBusOff port s)
/-- CAN_BUS_OFF_RECOVERY (R50). -/
def execCanBusOffRecovery (port : Nat) (s : State) : Host.Outcome State Fault Refusal := .next (canRecover port s)
/-- RS485_FRAME (R51). -/
def execRs485Frame (port : Nat) (frame : Bytes) (s : State) : Host.Outcome State Fault Refusal := .next (rs485Frame port frame s)
/-- RS485_GAP_TIMEOUT (R52). -/
def execRs485GapTimeout (port : Nat) (s : State) : Host.Outcome State Fault Refusal := .next (rs485Gap port s)
/-- RS485_REPLY_WINDOW (R53). -/
def execRs485ReplyWindow (port : Nat) (s : State) : Host.Outcome State Fault Refusal := .next (rs485Window port s)
/-- T1L_LINK_CHANGE (R40). -/
def execT1lLinkChange (port : Nat) (up : Bool) (s : State) : Host.Outcome State Fault Refusal := .next (t1lLink port up s)
/-- RMII_LINK_POLL (R40). -/
def execRmiiLinkPoll (phys : List (Nat × Bool)) (s : State) : Host.Outcome State Fault Refusal := .next (rmiiPoll phys s)
/-- SPI_IN_GO (R55): a write to +8. -/
def execSpiInGo (word : BitVec 32) (s : State) : Host.Outcome State Fault Refusal := .next (spiWrite 8 (le 4 word.toNat) s)
/-- SPI_IN_TAKEN (R55). -/
def execSpiInTaken (s : State) : Host.Outcome State Fault Refusal := .next (spiTaken s)
/-- SPI_OUT_DONE (R55): a write to +8. -/
def execSpiOutDone (word : BitVec 32) (s : State) : Host.Outcome State Fault Refusal := .next (spiWrite 8 (le 4 word.toNat) s)
/-- SPI_OUT_PLACE (R55). -/
def execSpiOutPlace (s : State) : Host.Outcome State Fault Refusal := .next (spiPlace s)
/-- SPI_IN_BUFFER_WRITE (R55): a write transaction from a mailbox address. -/
def execSpiInBufferWrite (addr : Nat) (data : Bytes) (s : State) : Host.Outcome State Fault Refusal := .next (spiWrite addr data s)
/-- SPI_IRQ_STATUS_CLEAR (R56): a write to +20. -/
def execSpiIrqStatusClear (word : BitVec 32) (s : State) : Host.Outcome State Fault Refusal :=
  .next (spiWrite 20 (le 4 word.toNat) s)
/-- SPI_REGISTER_WRITE (R54): a write transaction from a mailbox address. -/
def execSpiRegisterWrite (addr : Nat) (data : Bytes) (s : State) : Host.Outcome State Fault Refusal := .next (spiWrite addr data s)

end Sys2Proof.Machine
end

