-- ==== Sys2Proof/Machine/Tick.lean ====
section
/-! DEFINITION. The 250 µs tick (R22) and the passing of time (log 1). -/
namespace Sys2Proof.Machine

/-- A supply reading, which an unpowered die does not need. -/
def supplyMeas (m : Meas) (s : State) : State :=
  match m with
  | .vbb b cV => { s with pwr := { s.pwr with vbb := Tbl.wr 0 s.pwr.vbb b cV } }
  | .vdio g cV => { s with pwr := { s.pwr with vdio := Tbl.wr 0 s.pwr.vdio g cV } }
  | .vhal g cV => { s with pwr := { s.pwr with vhal := Tbl.wr 0 s.pwr.vhal g cV } }
  | .vsup cV => { s with pwr := { s.pwr with vsup := cV } }
  | .vio cV => { s with pwr := { s.pwr with vio := cV } }
  | _ => s

/-- A reading of the field (R158, R289, R296, R301, R303, R319, R320, R323). -/
def fieldMeas (m : Meas) (s : State) : State :=
  match m with
  | .dioCurrent i mA => dioCurrent i mA s
  | .loadCurrent i mA => loadCurrent i mA s
  | .loadSense i cV => loadSense i cV s
  | .bankAvg b cA => s.setBank b { s.bank b with cA := cA }
  | .lineCurrent p dmA => s.setHp p { s.hp p with dmA := dmA }
  | .lineVoltage p cV => s.setHp p { s.hp p with cV := cV }
  | .aoReadback i v => s.setAo i { s.ao i with back := v.toNat }
  | .dioLand i cV => dioReading i cV s
  | .dioHot i hot => s.setDio i { s.dio i with hot := hot }
  | .loadHot i hot => s.setLoad i { s.load i with hot := hot }
  | _ => s

/-- New readings, as the registers take them. -/
def takeMeas (l : List Meas) (s : State) : State :=
  forAll l (fun m st => if st.pwr.phase == .cold then supplyMeas m st else fieldMeas m (supplyMeas m st)) s

/-- The dies leave the hold at the first output latch after adoption, where a change that the start made live takes its
version (R135, R385 step 7). -/
def endHold (s : State) : State :=
  rigResume false (forAll [1, 2, 3] (fun d st =>
    let x := st.die d
    if x.keeping || x.keepOver then st.setDie d { x with keeping := false, keepOver := false } else st) s)

/-- Steps 1 to 6 of a tick: loops, ring, the latch of every output, and the slack. -/
def tickWork (e : TickEnv) (s : State) : State :=
  if !s.up then s else
    let s1 := tickLoops e s
    sheaveSlack (if s1.up && s1.rdy 4 then latchAll (endHold s1) else s1)

/-- A DIO channel's first sample after a start sets its filtered state (R296). -/
def dioSampled (s : State) : State :=
  forAll ((s.enabled 0x0C).filter (fun i => s.dioLive i && (s.dio i).first)) (fun i st =>
    st.setDio i { st.dio i with first := false, agreeAt := st.aon.nowUs }) s

/-- RUN_S counts the time that a fan is driven (R341). -/
def fanTime (us : Nat) (s : State) : State :=
  forAll ((s.enabled 0x0A).filter (fun i => s.fanLive i && decide (0 < (s.fan i).driven))) (fun i st =>
    st.setFan i { st.fan i with runUs := (st.fan i).runUs + us }) s

/-- HALYARD is set once every enabled port is ready that no fault of its line holds back (R381). -/
def halyardEdge (s : State) : State := if s.up && s.rdy 5 && s.halReady then s.setRdy 11 else s

/-- 250 µs pass, outside a cold reset; a change of READY is seen (R384). -/
def pass (s : State) : State :=
  if s.pwr.phase == .cold then s else
    let s1 := domainTime 250 (fanTime 250 (dioSampled (readyEdge (halyardEdge s))))
    { s1 with aon := { s1.aon with nowUs := s1.aon.nowUs + 250 } }

/-- TICK (R22): the edge that stands at the present time, where the domains with work hoist, and the 250 µs to the next. -/
def tick (e : TickEnv) (s : State) : State :=
  pass (tickWork e (domainEdge (resetIfDue (portsIfDue (forAll [0, 1, 2, 3, 4] sendNext (holdErrors e.ecc (takeMeas e.meas s)))))))

/-- TICK (R22). -/
def execTick (e : TickEnv) (s : State) : Host.Outcome State Fault Refusal := .next (tick e s)

end Sys2Proof.Machine
end

