-- ==== Sys2Proof/Machine/Dispatch.lean ====
section
/-! DEFINITION. One arm per row of the opcode table: each calls its meaning. -/
namespace Sys2Proof.Machine

/-- The effect of a command on everything but the queue. -/
def exec (i : Instr) (s : State) : Host.Outcome State Fault Refusal :=
  match i with
  | .udpDatagram d => Sys2Proof.Machine.execUdpDatagram d s
  | .ipFragment f => Sys2Proof.Machine.execIpFragment f s
  | .fragmentTimeout iface srcIp ident => Sys2Proof.Machine.execFragmentTimeout iface srcIp ident s
  | .arpRequest iface targetIp senderIp senderMac => Sys2Proof.Machine.execArpRequest iface targetIp senderIp senderMac s
  | .icmpEcho iface srcIp dstIp data => Sys2Proof.Machine.execIcmpEcho iface srcIp dstIp data s
  | .canSegment f => Sys2Proof.Machine.execCanSegment f s
  | .canSegmentTimeout port node => Sys2Proof.Machine.execCanSegmentTimeout port node s
  | .canBusOff port => Sys2Proof.Machine.execCanBusOff port s
  | .canBusOffRecovery port => Sys2Proof.Machine.execCanBusOffRecovery port s
  | .rs485Frame port frame => Sys2Proof.Machine.execRs485Frame port frame s
  | .rs485GapTimeout port => Sys2Proof.Machine.execRs485GapTimeout port s
  | .rs485ReplyWindow port => Sys2Proof.Machine.execRs485ReplyWindow port s
  | .t1lLinkChange port up => Sys2Proof.Machine.execT1lLinkChange port up s
  | .rmiiLinkPoll phys => Sys2Proof.Machine.execRmiiLinkPoll phys s
  | .spiInGo word => Sys2Proof.Machine.execSpiInGo word s
  | .spiInTaken => Sys2Proof.Machine.execSpiInTaken s
  | .spiOutDone word => Sys2Proof.Machine.execSpiOutDone word s
  | .spiOutPlace => Sys2Proof.Machine.execSpiOutPlace s
  | .spiInBufferWrite addr data => Sys2Proof.Machine.execSpiInBufferWrite addr data s
  | .spiIrqStatusClear word => Sys2Proof.Machine.execSpiIrqStatusClear word s
  | .spiRegisterWrite addr data => Sys2Proof.Machine.execSpiRegisterWrite addr data s
  | .hello p => Sys2Proof.Machine.execHello p s
  | .helloContextExpiry nonce => Sys2Proof.Machine.execHelloContextExpiry nonce s
  | .auth p => Sys2Proof.Machine.execAuth p s
  | .keepalive p => Sys2Proof.Machine.execKeepalive p s
  | .bye p => Sys2Proof.Machine.execBye p s
  | .subscribe p => Sys2Proof.Machine.execSubscribe p s
  | .getReady p => Sys2Proof.Machine.execGetReady p s
  | .journalHead p => Sys2Proof.Machine.execJournalHead p s
  | .journalRead p => Sys2Proof.Machine.execJournalRead p s
  | .resultOf p => Sys2Proof.Machine.execResultOf p s
  | .stateDigest p => Sys2Proof.Machine.execStateDigest p s
  | .objectVersions p => Sys2Proof.Machine.execObjectVersions p s
  | .rigBegin p => Sys2Proof.Machine.execRigBegin p s
  | .rigPut p => Sys2Proof.Machine.execRigPut p s
  | .rigCommit p => Sys2Proof.Machine.execRigCommit p s
  | .rigCommitComplete => Sys2Proof.Machine.execRigCommitComplete s
  | .rigActivation => Sys2Proof.Machine.execRigActivation s
  | .rigAbort p => Sys2Proof.Machine.execRigAbort p s
  | .rigTxnTimeout => Sys2Proof.Machine.execRigTxnTimeout s
  | .rigGet p => Sys2Proof.Machine.execRigGet p s
  | .rigSave p => Sys2Proof.Machine.execRigSave p s
  | .rigSaveComplete => Sys2Proof.Machine.execRigSaveComplete s
  | .rigBankSelect p => Sys2Proof.Machine.execRigBankSelect p s
  | .pointRead p => Sys2Proof.Machine.execPointRead p s
  | .scanSetPeriod p => Sys2Proof.Machine.execScanSetPeriod p s
  | .scanExtraCycle p => Sys2Proof.Machine.execScanExtraCycle p s
  | .enumerateDiscover p => Sys2Proof.Machine.execEnumerateDiscover p s
  | .enumerateAssign p => Sys2Proof.Machine.execEnumerateAssign p s
  | .enumerateReport p => Sys2Proof.Machine.execEnumerateReport p s
  | .enumerateRunStart port => Sys2Proof.Machine.execEnumerateRunStart port s
  | .enumerateRunEnd port rx => Sys2Proof.Machine.execEnumerateRunEnd port rx s
  | .pointThreshSet p => Sys2Proof.Machine.execPointThreshSet p s
  | .frontRead p => Sys2Proof.Machine.execFrontRead p s
  | .trendOpen p => Sys2Proof.Machine.execTrendOpen p s
  | .trendRead p => Sys2Proof.Machine.execTrendRead p s
  | .trendClose p => Sys2Proof.Machine.execTrendClose p s
  | .trendStatus p => Sys2Proof.Machine.execTrendStatus p s
  | .frontLog p => Sys2Proof.Machine.execFrontLog p s
  | .loopSetSp p => Sys2Proof.Machine.execLoopSetSp p s
  | .loopMode p => Sys2Proof.Machine.execLoopMode p s
  | .loopRead p => Sys2Proof.Machine.execLoopRead p s
  | .loopClearFlags p => Sys2Proof.Machine.execLoopClearFlags p s
  | .injectStart p => Sys2Proof.Machine.execInjectStart p s
  | .captureRead p => Sys2Proof.Machine.execCaptureRead p s
  | .captureFree p => Sys2Proof.Machine.execCaptureFree p s
  | .mastMode p => Sys2Proof.Machine.execMastMode p s
  | .mastRead p => Sys2Proof.Machine.execMastRead p s
  | .ledgerRead p => Sys2Proof.Machine.execLedgerRead p s
  | .dryerMode p => Sys2Proof.Machine.execDryerMode p s
  | .dryerNext p => Sys2Proof.Machine.execDryerNext p s
  | .dryerPause p => Sys2Proof.Machine.execDryerPause p s
  | .dryerResume p => Sys2Proof.Machine.execDryerResume p s
  | .dryerAck p => Sys2Proof.Machine.execDryerAck p s
  | .dryerEmpty p => Sys2Proof.Machine.execDryerEmpty p s
  | .dryerRead p => Sys2Proof.Machine.execDryerRead p s
  | .routeClaim p => Sys2Proof.Machine.execRouteClaim p s
  | .routeRelease p => Sys2Proof.Machine.execRouteRelease p s
  | .routeStart p => Sys2Proof.Machine.execRouteStart p s
  | .routeStopNormal p => Sys2Proof.Machine.execRouteStopNormal p s
  | .routeStopQuick p => Sys2Proof.Machine.execRouteStopQuick p s
  | .routeAck p => Sys2Proof.Machine.execRouteAck p s
  | .routeRead p => Sys2Proof.Machine.execRouteRead p s
  | .dioWrite p => Sys2Proof.Machine.execDioWrite p s
  | .dioRead p => Sys2Proof.Machine.execDioRead p s
  | .loadWrite p => Sys2Proof.Machine.execLoadWrite p s
  | .loadRead p => Sys2Proof.Machine.execLoadRead p s
  | .aoWrite p => Sys2Proof.Machine.execAoWrite p s
  | .fanSet p => Sys2Proof.Machine.execFanSet p s
  | .fanRead p => Sys2Proof.Machine.execFanRead p s
  | .faultClear p => Sys2Proof.Machine.execFaultClear p s
  | .afeRead p => Sys2Proof.Machine.execAfeRead p s
  | .threshRead p => Sys2Proof.Machine.execThreshRead p s
  | .ttOpen p => Sys2Proof.Machine.execTtOpen p s
  | .ttClose p => Sys2Proof.Machine.execTtClose p s
  | .ttNotify p => Sys2Proof.Machine.execTtNotify p s
  | .ttRead p => Sys2Proof.Machine.execTtRead p s
  | .ttPin p => Sys2Proof.Machine.execTtPin p s
  | .ttUnpin p => Sys2Proof.Machine.execTtUnpin p s
  | .ttClear p => Sys2Proof.Machine.execTtClear p s
  | .ttLimitsSet p => Sys2Proof.Machine.execTtLimitsSet p s
  | .ttLimitsGet p => Sys2Proof.Machine.execTtLimitsGet p s
  | .sysInfo p => Sys2Proof.Machine.execSysInfo p s
  | .timeMark p => Sys2Proof.Machine.execTimeMark p s
  | .resetWarm p => Sys2Proof.Machine.execResetWarm p s
  | .resetCold p => Sys2Proof.Machine.execResetCold p s
  | .powerPlanGet p => Sys2Proof.Machine.execPowerPlanGet p s
  | .powerPlanClear p => Sys2Proof.Machine.execPowerPlanClear p s
  | .powerPlanSet p => Sys2Proof.Machine.execPowerPlanSet p s
  | .quotaSet p => Sys2Proof.Machine.execQuotaSet p s
  | .roleLower p => Sys2Proof.Machine.execRoleLower p s
  | .roleEvict p => Sys2Proof.Machine.execRoleEvict p s
  | .roleRelease p => Sys2Proof.Machine.execRoleRelease p s
  | .keySet p => Sys2Proof.Machine.execKeySet p s
  | .fwBegin p => Sys2Proof.Machine.execFwBegin p s
  | .fwData p => Sys2Proof.Machine.execFwData p s
  | .fwEnd p => Sys2Proof.Machine.execFwEnd p s
  | .fwEndComplete => Sys2Proof.Machine.execFwEndComplete s
  | .fwActivate p => Sys2Proof.Machine.execFwActivate p s
  | .fwAbort p => Sys2Proof.Machine.execFwAbort p s
  | .fwUpdateTimeout => Sys2Proof.Machine.execFwUpdateTimeout s
  | .commandExecution ecc => Sys2Proof.Machine.execCommandExecution ecc s
  | .hostSilence => Sys2Proof.Machine.execHostSilence s
  | .sessionExpiry slot => Sys2Proof.Machine.execSessionExpiry slot s
  | .orphanHoldExpiry owner => Sys2Proof.Machine.execOrphanHoldExpiry owner s
  | .readyNotice => Sys2Proof.Machine.execReadyNotice s
  | .scanCycleStart => Sys2Proof.Machine.execScanCycleStart s
  | .halyardSlotEnd port phase slot rx => Sys2Proof.Machine.execHalyardSlotEnd port phase slot rx s
  | .scheduleEnd port dmA => Sys2Proof.Machine.execScheduleEnd port dmA s
  | .pointRecord ecc => Sys2Proof.Machine.execPointRecord ecc s
  | .frontJob ecc => Sys2Proof.Machine.execFrontJob ecc s
  | .trendSnapshot late => Sys2Proof.Machine.execTrendSnapshot late s
  | .trendSpill stream => Sys2Proof.Machine.execTrendSpill stream s
  | .switchOnProbe port shorted => Sys2Proof.Machine.execSwitchOnProbe port shorted s
  | .poweringEnd port => Sys2Proof.Machine.execPoweringEnd port s
  | .lineShort port => Sys2Proof.Machine.execLineShort port s
  | .shortRetry port => Sys2Proof.Machine.execShortRetry port s
  | .lineForeign port => Sys2Proof.Machine.execLineForeign port s
  | .lowSupply grp cV => Sys2Proof.Machine.execLowSupply grp cV s
  | .lowSupplyRecovery grp cV => Sys2Proof.Machine.execLowSupplyRecovery grp cV s
  | .lowLine port cV => Sys2Proof.Machine.execLowLine port cV s
  | .lowLineClear port cV => Sys2Proof.Machine.execLowLineClear port cV s
  | .tick e => Sys2Proof.Machine.execTick e s
  | .loopOverrun loop => Sys2Proof.Machine.execLoopOverrun loop s
  | .mastEvaluation => Sys2Proof.Machine.execMastEvaluation s
  | .mastTimedCheck => Sys2Proof.Machine.execMastTimedCheck s
  | .ledgerSave => Sys2Proof.Machine.execLedgerSave s
  | .dryerEvaluation => Sys2Proof.Machine.execDryerEvaluation s
  | .dryerSaveRefresh => Sys2Proof.Machine.execDryerSaveRefresh s
  | .routeEvaluation => Sys2Proof.Machine.execRouteEvaluation s
  | .lockoutChange dies => Sys2Proof.Machine.execLockoutChange dies s
  | .lockoutRelease => Sys2Proof.Machine.execLockoutRelease s
  | .lockoutDisagree dies => Sys2Proof.Machine.execLockoutDisagree dies s
  | .scanPlaneStep conv => Sys2Proof.Machine.execScanPlaneStep conv s
  | .conversionResult r => Sys2Proof.Machine.execConversionResult r s
  | .scanSwitchStuck conv => Sys2Proof.Machine.execScanSwitchStuck conv s
  | .excOpen ref => Sys2Proof.Machine.execExcOpen ref s
  | .excShort ref => Sys2Proof.Machine.execExcShort ref s
  | .excRetry ref => Sys2Proof.Machine.execExcRetry ref s
  | .inputCommonMode ref => Sys2Proof.Machine.execInputCommonMode ref s
  | .shuntOvercurrent ref => Sys2Proof.Machine.execShuntOvercurrent ref s
  | .rangeClip ref second => Sys2Proof.Machine.execRangeClip ref second s
  | .channelStale ref => Sys2Proof.Machine.execChannelStale ref s
  | .afeCalibration => Sys2Proof.Machine.execAfeCalibration s
  | .aoShort ch => Sys2Proof.Machine.execAoShort ch s
  | .aoOpen ch compliance => Sys2Proof.Machine.execAoOpen ch compliance s
  | .dioInputChange ch land => Sys2Proof.Machine.execDioInputChange ch land s
  | .dioOverload ch mA => Sys2Proof.Machine.execDioOverload ch mA s
  | .dioThermal ch mA => Sys2Proof.Machine.execDioThermal ch mA s
  | .dioRetry ch hot => Sys2Proof.Machine.execDioRetry ch hot s
  | .dioGroupShed grp mA => Sys2Proof.Machine.execDioGroupShed grp mA s
  | .dioReadbackHigh ch => Sys2Proof.Machine.execDioReadbackHigh ch s
  | .dioExtSupplyEnd ch => Sys2Proof.Machine.execDioExtSupplyEnd ch s
  | .dioOpenFlag ch open_ => Sys2Proof.Machine.execDioOpenFlag ch open_ s
  | .dioSupplyLow grp cV => Sys2Proof.Machine.execDioSupplyLow grp cV s
  | .fuseModelStep meanSq => Sys2Proof.Machine.execFuseModelStep meanSq s
  | .lampDutyUpdate vbb => Sys2Proof.Machine.execLampDutyUpdate vbb s
  | .loadShort ch hit => Sys2Proof.Machine.execLoadShort ch hit s
  | .loadThermal ch mA => Sys2Proof.Machine.execLoadThermal ch mA s
  | .loadRetry ch hot => Sys2Proof.Machine.execLoadRetry ch hot s
  | .loadReverse ch mA => Sys2Proof.Machine.execLoadReverse ch mA s
  | .loadExtSupply ch high => Sys2Proof.Machine.execLoadExtSupply ch high s
  | .loadOpenFlag ch open_ => Sys2Proof.Machine.execLoadOpenFlag ch open_ s
  | .bankShed bank cA => Sys2Proof.Machine.execBankShed bank cA s
  | .moduleShedCheck cA => Sys2Proof.Machine.execModuleShedCheck cA s
  | .bankHold bank cV => Sys2Proof.Machine.execBankHold bank cV s
  | .bankHoldExit bank cV => Sys2Proof.Machine.execBankHoldExit bank cV s
  | .bankUndervoltage bank cV => Sys2Proof.Machine.execBankUndervoltage bank cV s
  | .bankRestart bank cV => Sys2Proof.Machine.execBankRestart bank cV s
  | .channelRestartDelay ch => Sys2Proof.Machine.execChannelRestartDelay ch s
  | .fanDutyUpdate => Sys2Proof.Machine.execFanDutyUpdate s
  | .tachEdge ch cycles => Sys2Proof.Machine.execTachEdge ch cycles s
  | .tachTimeout ch => Sys2Proof.Machine.execTachTimeout ch s
  | .kickEnd ch => Sys2Proof.Machine.execKickEnd ch s
  | .provingTimeout ch => Sys2Proof.Machine.execProvingTimeout ch s
  | .retryWaitEnd ch => Sys2Proof.Machine.execRetryWaitEnd ch s
  | .tachLoss ch => Sys2Proof.Machine.execTachLoss ch s
  | .tachLossClear ch => Sys2Proof.Machine.execTachLossClear ch s
  | .pwmShort ch => Sys2Proof.Machine.execPwmShort ch s
  | .fanTableUpdate ch => Sys2Proof.Machine.execFanTableUpdate ch s
  | .fullOnWatchdogExpiry => Sys2Proof.Machine.execFullOnWatchdogExpiry s
  | .ttOccurrence o => Sys2Proof.Machine.execTtOccurrence o s
  | .ttRecordWrite => Sys2Proof.Machine.execTtRecordWrite s
  | .ttTokenRefill code => Sys2Proof.Machine.execTtTokenRefill code s
  | .vsupSag cV => Sys2Proof.Machine.execVsupSag cV s
  | .vsupSagEnd cV => Sys2Proof.Machine.execVsupSagEnd cV s
  | .powerFail cV => Sys2Proof.Machine.execPowerFail cV s
  | .vioLow cV => Sys2Proof.Machine.execVioLow cV s
  | .vioRecovery cV => Sys2Proof.Machine.execVioRecovery cV s
  | .xt25Fail => Sys2Proof.Machine.execXt25Fail s
  | .xt32Fail => Sys2Proof.Machine.execXt32Fail s
  | .crystalRecovery xt25 => Sys2Proof.Machine.execCrystalRecovery xt25 s
  | .optimeSave => Sys2Proof.Machine.execOptimeSave s
  | .coldStart cV => Sys2Proof.Machine.execColdStart cV s
  | .nrstAssert => Sys2Proof.Machine.execNrstAssert s
  | .lockstepMismatch => Sys2Proof.Machine.execLockstepMismatch s
  | .bosunWatchdog => Sys2Proof.Machine.execBosunWatchdog s
  | .adoption => Sys2Proof.Machine.execAdoption s
  | .keepWindowExpiry die => Sys2Proof.Machine.execKeepWindowExpiry die s
  | .bosunRefresh => Sys2Proof.Machine.execBosunRefresh s
  | .logicSilence die => Sys2Proof.Machine.execLogicSilence die s
  | .scrubBlock bad => Sys2Proof.Machine.execScrubBlock bad s
  | .domainHoist domain => Sys2Proof.Machine.execDomainHoist domain s
  | .domainFurl domain => Sys2Proof.Machine.execDomainFurl domain s
  | .pllStop domain => Sys2Proof.Machine.execPllStop domain s
  | .nrstRelease => Sys2Proof.Machine.execNrstRelease s
  | .sessionSilent slot => Sys2Proof.Machine.execSessionSilent slot s
  | .phaseSlotMark phase => Sys2Proof.Machine.execPhaseSlotMark phase s
  | .enumerateExchange port rx => Sys2Proof.Machine.execEnumerateExchange port rx s
  | .parallelTestPulse ch fell => Sys2Proof.Machine.execParallelTestPulse ch fell s
  | .dioRetrySeriesEnd ch => Sys2Proof.Machine.execDioRetrySeriesEnd ch s
  | .loadRetrySeriesEnd ch => Sys2Proof.Machine.execLoadRetrySeriesEnd ch s

end Sys2Proof.Machine
end

