-- ==== Sys2Proof/WellFormed.lean ====
section
/-! DEFINITION. Well-formed commands: every operand within what the rows' rules give it (ports, channels, lengths). The
meanings are total; these checks say which terms name something the spec speaks of. -/
namespace Sys2Proof

/-- A packet as R58 and R59 lay it out: one of the eight ports, 6 reserved bytes, at most 8,192 bytes of payload, a tag of
16 bytes. -/
def Packet.wf (p : Packet) : Bool :=
  decide (p.port < 8) && p.rsvd18.length == 6 && decide (p.payload.length ≤ 8192) && p.mac.length == 16

/-- Host opcodes carry a packet. -/
def Instr.packet : Instr → Option Packet
  | .hello p | .auth p | .keepalive p | .bye p | .subscribe p | .getReady p | .journalHead p | .journalRead p | .resultOf p
  | .stateDigest p | .objectVersions p | .rigBegin p | .rigPut p | .rigCommit p | .rigAbort p | .rigGet p | .rigSave p
  | .rigBankSelect p | .pointRead p | .scanSetPeriod p | .scanExtraCycle p | .enumerateDiscover p | .enumerateAssign p
  | .enumerateReport p | .pointThreshSet p | .frontRead p | .trendOpen p | .trendRead p | .trendClose p | .trendStatus p
  | .frontLog p | .loopSetSp p | .loopMode p | .loopRead p | .loopClearFlags p | .injectStart p | .captureRead p
  | .captureFree p | .mastMode p | .mastRead p | .ledgerRead p | .dryerMode p | .dryerNext p | .dryerPause p
  | .dryerResume p | .dryerAck p | .dryerEmpty p | .dryerRead p | .routeClaim p | .routeRelease p | .routeStart p
  | .routeStopNormal p | .routeStopQuick p | .routeAck p | .routeRead p | .dioWrite p | .dioRead p | .loadWrite p
  | .loadRead p | .aoWrite p | .fanSet p | .fanRead p | .faultClear p | .afeRead p | .threshRead p | .ttOpen p | .ttClose p
  | .ttNotify p | .ttRead p | .ttPin p | .ttUnpin p | .ttClear p | .ttLimitsSet p | .ttLimitsGet p | .sysInfo p
  | .timeMark p | .resetWarm p | .resetCold p | .powerPlanGet p | .powerPlanClear p | .powerPlanSet p | .quotaSet p
  | .roleLower p | .roleEvict p | .roleRelease p | .keySet p | .fwBegin p | .fwData p | .fwEnd p | .fwActivate p
  | .fwAbort p => some p
  | _ => none

/-- A reading names a channel, group or port that exists (R158, R291, R303, R323, R374). -/
def Meas.wf : Meas → Bool
  | .dioCurrent i _ | .dioLand i _ | .dioHot i _ => decide (i < 96)
  | .loadCurrent i _ | .loadSense i _ | .loadHot i _ => decide (i < 48)
  | .bankAvg b _ | .vbb b _ => decide (b < 4)
  | .vdio g _ => decide (g < 4)
  | .vhal g _ => decide (g < 8)
  | .lineCurrent p _ | .lineVoltage p _ => decide (p < 128)
  | .aoReadback i _ => decide (i < 16)
  | .vsup _ | .vio _ => true

/-- What a tick meets names loops and groups that exist (R195, R212). -/
def TickEnv.wf (e : TickEnv) : Bool :=
  e.late.all (fun l => decide (l < 4096)) && e.ringParity.all (fun g => decide (g < 512))
    && e.slotEcc.all (fun l => decide (l < 4096)) && e.meas.all Meas.wf

/-- A reply slot: six bytes of cells when 48 were decoded (R156). -/
def SlotRx.wf (x : SlotRx) : Bool := match x.cells with | some b => b.length == 6 | none => true

/-- The windows of a SEARCH are sixteen (R154). -/
def EnumRx.wf : EnumRx → Bool
  | .search l => l.length == 16
  | _ => true

/-- A command whose operands lie in their ranges. -/
def Instr.wf (i : Instr) : Bool :=
  match i.packet with
  | some p => p.wf
  | none => match i with
    | .udpDatagram d => decide (d.iface < 3)
    | .ipFragment f => decide (f.iface < 3)
    | .fragmentTimeout n _ _ | .arpRequest n _ _ _ | .icmpEcho n _ _ _ => decide (n < 3)
    | .canSegment f => (f.port == 3 || f.port == 4) && decide (f.data.length ≤ 64)
    | .canSegmentTimeout p n => (p == 3 || p == 4) && decide (n < 128)
    | .canBusOff p | .canBusOffRecovery p => p == 3 || p == 4
    | .rs485Frame p _ | .rs485GapTimeout p | .rs485ReplyWindow p => p == 5 || p == 6
    | .t1lLinkChange p _ => decide (p < 2)
    | .spiInBufferWrite a _ | .spiRegisterWrite a _ => decide (a < 65536)
    | .sessionExpiry k | .sessionSilent k => decide (k < 8)
    | .enumerateRunEnd p rx => decide (p < 128) && rx.all (fun e => decide (e.1 < 1024) && e.2.wf)
    | .rmiiLinkPoll l => l.all (fun e => decide (e.1 < 32))
    | .enumerateRunStart p | .scheduleEnd p _ | .switchOnProbe p _ | .poweringEnd p | .lineShort p
    | .shortRetry p | .lineForeign p | .lowLine p _ | .lowLineClear p _ => decide (p < 128)
    | .enumerateExchange p rx => decide (p < 128) && rx.wf
    | .halyardSlotEnd p k n rx => decide (p < 128) && decide (k < 4) && decide (n < 256) && rx.wf
    | .phaseSlotMark k => decide (k < 4)
    | .trendSpill n => decide (n < 128)
    | .lowSupply g _ | .lowSupplyRecovery g _ => decide (g < 8)
    | .tick e => e.wf
    | .loopOverrun l => decide (l < 4096)
    | .lockoutChange m | .lockoutDisagree m => decide (m < 8)
    | .scanPlaneStep c | .scanSwitchStuck c => decide (c < 8)
    | .aoShort c | .aoOpen c _ => decide (c < 16)
    | .dioInputChange c _ | .dioOverload c _ | .dioThermal c _ | .dioRetry c _ | .dioReadbackHigh c | .dioExtSupplyEnd c
    | .dioOpenFlag c _ | .parallelTestPulse c _ | .dioRetrySeriesEnd c => decide (c < 96)
    | .dioGroupShed g _ | .dioSupplyLow g _ => decide (g < 4)
    | .loadShort c _ | .loadThermal c _ | .loadRetry c _ | .loadReverse c _ | .loadExtSupply c _ | .loadOpenFlag c _
    | .channelRestartDelay c | .loadRetrySeriesEnd c => decide (c < 48)
    | .bankShed b _ | .bankHold b _ | .bankHoldExit b _ | .bankUndervoltage b _ | .bankRestart b _ => decide (b < 4)
    | .lampDutyUpdate l | .moduleShedCheck l => l.length == 4
    | .tachEdge c _ | .tachTimeout c | .kickEnd c | .provingTimeout c | .retryWaitEnd c | .tachLoss c | .tachLossClear c
    | .pwmShort c | .fanTableUpdate c => decide (c < 192)
    | .ttOccurrence o => decide (o.die < 4) && decide (o.data.length ≤ 12)
    | .keepWindowExpiry d | .logicSilence d => decide (1 ≤ d) && decide (d ≤ 3)
    | .domainHoist d | .domainFurl d | .pllStop d => decide (d < 14)
    | _ => true

end Sys2Proof
end

