-- ==== Sys2Proof/Safety.lean ====
section
/-! DEFINITION. What a safe state is, in the terms that claims use: rows 1 and 2 of R26 over every output, the limits that the
spec gives the control registers, and when a command is served and an event occurs. -/
namespace Sys2Proof

open Machine

/-! ## Safe states -/

/-- Nothing is driven: what row 1 of R26 asks of a cold reset (R390). -/
def Safety.allOff (s : State) : Prop :=
  (∀ k, s.out k = OutC.dflt) ∧ (∀ i, (s.fan i).driven = 0) ∧ (∀ i, (s.load i).on = false) ∧ (∀ i, (s.dio i).on = false)
    ∧ (∀ i, (s.ao i).value = 0)

/-- The mailbox registers read zero in their reserved bits, ERR_COUNT holds at its end (R54), and both buffers keep their
canonical form. -/
def Safety.spiInRange (x : Spi) : Prop :=
  (x.inLen < 2 ^ 14 ∧ x.irqMask < 2 ^ 3 ∧ x.irqStatus < 2 ^ 3 ∧ x.errCount ≤ 0xFFFFFFFF)
    ∧ x.inBuf.wf = true ∧ x.outBuf.wf = true

/-- WARM_RUN never reaches 3 (R388): the third warm reset of a run is a cold one. -/
def Safety.warmRunHeld (s : State) : Prop := s.start.warmRun < 3

/-- The invariant of the whole block: WARM_RUN and the mailbox. -/
def Safety.Inv (s : State) : Prop := Safety.warmRunHeld s ∧ Safety.spiInRange s.spi

/-! ## A command that is served (R61, R68, R69, R111) -/

/-- A packet meets a module that takes it: its port works, no reset is asked for, the region has room, and R61 passes it. -/
def Safety.arrives (op : Nat) (p : Packet) (s : State) : Bool :=
  p.wf && decide (op < 65536) && s.portOn p.port && s.start.resetReq.isNone && s.roomFor (packetBytes op p).length
    && p.ecc.isEmpty && s.host.queue.isEmpty && s.host.running.isEmpty

/-- A packet of a live session that R61 passes and R68 admits, with nothing before it and no error of the Hold on its way. -/
def Safety.servable (op : Nat) (p : Packet) (s : State) : Bool :=
  Safety.arrives op p s && (discardReason (packetBytes op p) s).isNone && p.session != 0xFF#8
    && admission p.session.toNat op p.hostTag.toNat (headerRsv (packetBytes op p)) p.payload
        (heard p.session.toNat p.port p.addr s) == 0

/-- The command that the packet of a session makes. -/
def Safety.cmdOf (op : Nat) (p : Packet) (s : State) : Cmd :=
  newCmd p.session.toNat op p.hostTag.toNat p.port p.addr p.payload [] (heard p.session.toNat p.port p.addr s)

/-- The state in which it runs: heard, its tag and tokens taken, its entry ADMITTED, and no longer waiting; a rig opcode
restarts the 600 s of its session's transaction (R128). -/
def Safety.before (op : Nat) (p : Packet) (s : State) : State :=
  let c := Safety.cmdOf op p s
  let s1 := enqueue c (heard p.session.toNat p.port p.addr s)
  let s2 := { s1 with host := { s1.host with queue := [] } }
  if op / 256 = 3 then txnHeard c.sess s2 else s2

/-- What `run` leaves: its result is durable and the reply goes out, or its work goes on (R69, R101). -/
def Safety.served (run : Cmd → State → State × Res) (op : Nat) (p : Packet) (s : State) : State :=
  let c := Safety.cmdOf op p s
  let r := run c (Safety.before op p s)
  if r.2.deferred then { r.1 with host := { r.1.host with running := r.1.host.running ++ [c] } } else finish c r.2 r.1

/-! ## An AUTH that opens a session (R63, R64) -/

/-- The refilled aggregate bucket (R104). -/
def Safety.aggNow (s : State) : Nat := refill s.host.aggTok 10000 1000 (s.aon.nowUs - s.host.aggAt)

/-- The context of the packet, and K_S for its role. -/
def Safety.authKey (p : Packet) (s : State) : Option (HelloCtx × Bytes) :=
  match s.ctxOf p.payload with
  | some x => (sessionKey (fld p.payload 16 1) x s).map (fun ks => (x, ks))
  | none => none

/-- An AUTH with a live context, a set role, a right tag, a free slot and no live predecessor. -/
def Safety.authOpens (p : Packet) (s : State) : Bool :=
  Safety.arrives 0x0102 p s && (discardReason (packetBytes 0x0102 p) s).isNone && p.session == 0xFF#8
    && headerRsv (packetBytes 0x0102 p) && p.payload.length == 32 && rsv p.payload 17 7 && opReady 0x0102 s
    && (slots.find? (fun k => !(s.ses k).live)).isSome && decide (1000000 ≤ Safety.aggNow s)
    && (s.slotOf (fld p.payload 24 8)).isNone
    && (match Safety.authKey p s with
      | some e => let b := packetBytes 0x0102 p
                  (hmac e.2 (b.take (b.length - 16))).take 16 == b.drop (b.length - 16)
      | none => false)

/-! ## When an event occurs -/

/-- A HELLO that is answered (R63): its bucket has a token. -/
def Safety.helloAnswered (p : Packet) (s : State) : Bool :=
  Safety.arrives 0x0101 p s && (discardReason (packetBytes 0x0101 p) s).isNone && p.session == 0xFF#8
    && headerRsv (packetBytes 0x0101 p) && p.payload.length == 16
    && decide (1000000 ≤ refill s.auth.tok 100 100 (s.aon.nowUs - s.auth.tokAt))

/-- The first of several segments of a packet (R48, R49). -/
def Safety.canFirst (f : CanFrame) (s : State) : Bool :=
  let h := fld f.data 0 1
  let plen := fld f.data 1 2
  let node := f.ident.toNat / 65536 % 128
  s.canMine f && bit h 7 && !bit h 6 && h % 64 == 0 && decide (40 ≤ plen) && decide (plen ≤ 8232) && decide (3 ≤ f.data.length)
    && decide (f.data.length - 3 ≤ plen)
    && decide (((canDrop f.port node s).net.can.filter (fun c => c.port == f.port)).length < 16)

/-- A POLL for the module's address, with a right CRC (R51). -/
def Safety.rsPoll (p : Nat) (f : Bytes) (s : State) : Bool :=
  (p == 5 || p == 6) && s.portOn p && f.take 2 == [0xA5#8, 0x5A#8] && f.length == 10 && fld f 3 1 == 2 && fld f 4 2 == 0
    && fld f 6 4 == crc32 (cut f 2 4) && fld f 2 1 == s.rsAddr p

/-- The scan channel a converter makes next (R277). -/
def Safety.nextScan (c : Nat) (s : State) : Option Nat :=
  match (s.conv c).cur with
  | some i => ((s.scanList c).find? (fun j => decide (i < j))).orElse (fun _ => (s.scanList c).head?)
  | none => (s.scanList c).head?

/-- A channel's result comes (R277, R279): the front end converts it, a scan channel's step ends, and no short holds its
source off. -/
def Safety.converts (r : Nat) (s : State) : Bool :=
  s.afeLive r && s.inStep r && !(keyType r == 0x0F && (s.afe r).shortAt.isSome && (s.afe r).exc == 3)
    && !(keyType r == 0x10 && !s.due ((s.conv (afeConv (s.afd r))).t0 + stepNs (s.afd r) / 1000))

/-- A current loop's result is no fault (R279): the shunt is closed, or 25 mA are not passed, and a 4 to 20 mA form is within
3.6 to 21 mA. -/
def Safety.loopFits (r : Nat) (x : Rat) (s : State) : Bool :=
  !(afeMeas (s.afd r) == 3) || (!((s.afe r).shuntOpen && decide (25 ≤ ratMag x))
    && !(fld (s.d 0x22 (fld (s.afd r) 18 2)) 1 1 == 9 && (decide (x < 36 / 10) || decide (21 < x))))

/-- What a GOOD result leaves (R275, R276, R279, R281): the bits of x, the magnitude of its reading, the value and OVER_RANGE
of its curve. No fault stands against it, its readings lie within the range, and its curve gives a value. -/
def Safety.goodValue (y : ConvIn) (s : State) : Option (Nat × Rat × Int × Bool) :=
  let r := y.ref
  let d := s.afd r
  let curve := s.d 0x22 (fld d 18 2)
  let form := fld curve 1 1
  let cjRef := fld d 20 4
  let full := afeFull d (s.afe r).range
  match f32 y.first.toNat, (if afeSwap d then f32 y.second.toNat else some 0) with
  | some a, some b =>
    let v := afeHalves d a b
    let x := afeX d v
    if Safety.converts r s && !(s.testRuns r && s.pinOpen r y.moved) && Safety.loopFits r x s && decide (ratMag a ≤ full)
        && !(afeSwap d && decide (full < ratMag b)) && !(s.afe r).settle
        && !(decide (2 ≤ form) && decide (form ≤ 6) && cjRef != 0 && s.afeQual cjRef != 1)
    then (sensorCurve curve (f32Of x) (if cjRef = 0 then y.landTemp else (s.afe cjRef).value)).map (fun o => (f32Of x, ratMag v, o))
    else none
  | _, _ => none

/-- The line has been off, or its reading low, for the times of R298 and R319: 1 s each. -/
def Safety.longOff (offAt highAt : Nat) (s : State) : Bool := s.due (offAt + 1000000) && s.due (highAt + 1000000)

/-- The state and the operands under which the event of a row comes about, by its rule; a host opcode is served. -/
def Safety.occurs (i : Instr) (s : State) : Bool :=
  match i with
  | .udpDatagram d => !d.tagged && s.ethOn d.iface && d.dstIp.toNat == s.ipOf d.iface && d.dstPort.toNat == 18430
    && (d.cksum.toNat == 0
        || d.cksum.toNat == udpSum d.srcIp.toNat d.dstIp.toNat d.srcPort.toNat d.dstPort.toNat d.data)
  | .ipFragment f => !f.tagged && s.ethOn f.iface && f.dstIp.toNat == s.ipOf f.iface && f.more
    && decide (f.offset + f.data.length ≤ 8240) && decide ((s.net.frags.filter (fun c => c.iface == f.iface)).length < 8)
    && s.net.frags.all (fun c =>
        !c.same f.iface f.srcIp.toNat f.dstIp.toNat (f.proto.toNat * 65536 + f.ident.toNat))
  | .fragmentTimeout n src ident => s.net.frags.any (fun c =>
    c.iface == n && c.src == src.toNat && c.ident % 65536 == ident.toNat && s.due (c.at_ + 500000))
  | .arpRequest n target _ _ => s.ethOn n && target.toNat == s.ipOf n
  | .icmpEcho n _ dst _ => s.ethOn n && dst.toNat == s.ipOf n
    && decide (((s.net.icmp.filter (fun e => decide (s.aon.nowUs < e.2 + 1000000))).filter (fun e => e.1 == n)).length < 10)
  | .canSegment f => Safety.canFirst f s
  | .canSegmentTimeout p n => match s.canCtx p n with
    | some c => s.due (c.at_ + 50000)
    | none => false
  | .canBusOff p => (p == 3 || p == 4) && s.portOn p && !s.net.busOff.contains p
  | .canBusOffRecovery p => s.net.busOff.contains p
  | .rs485Frame p f => Safety.rsPoll p f s
  | .rs485GapTimeout p => (p == 5 || p == 6) && s.portOn p
  | .rs485ReplyWindow p => (p == 5 || p == 6) && s.portOn p && (s.port p).window && (s.port p).outQ.isEmpty
  | .t1lLinkChange p up => decide (p < 2) && s.pwr.phase != .cold && s.portEn p && (s.port p).up != up
  | .rmiiLinkPoll l => s.portOn 2 && (s.port 2).up != l.any (fun e => e.1 == s.phyAddr && e.2)
  | .spiInGo w => s.portOn 7 && w == 1#32 && s.spi.inFree && decide (40 ≤ s.spi.inLen) && decide (s.spi.inLen ≤ 8232)
  | .spiInTaken => s.portOn 7 && !s.spi.inFree
  | .spiOutDone w => s.portOn 7 && w == 2#32 && s.spi.outValid
  | .spiOutPlace => s.portOn 7 && !s.spi.outValid && !(s.port 7).outQ.isEmpty
  | .spiInBufferWrite a bs => s.portOn 7 && s.spi.inFree && decide (4096 ≤ a) && decide (a + bs.length ≤ 12328)
  | .spiIrqStatusClear _ => s.portOn 7
  | .spiRegisterWrite a bs => s.portOn 7 && (a == 12 || a == 16) && bs.length == 4
  | .hello p => Safety.helloAnswered p s
  | .helloContextExpiry n => s.auth.ctxs.any (fun x => x.devNonce == n && s.due (x.at_ + 5000000))
  | .auth p => Safety.authOpens p s
  | .rigCommitComplete => s.up && s.host.running.any (fun c => c.op == 0x0303)
  | .rigActivation => s.up && s.leadPast && !s.scanBound
  | .rigTxnTimeout => match s.rig.txn with
    | some t => s.up && !t.waiting && !s.working 0x0303 && s.due (t.at_ + 600000000)
    | none => false
  | .rigSaveComplete => s.up && s.host.running.any (fun c => c.op == 0x0306)
  | .fwEndComplete => s.up && s.host.running.any (fun c => c.op == 0x0C08)
  | .fwUpdateTimeout => match s.fw.upd with
    | some u => !s.working 0x0C08 && s.due (u.at_ + 60000000)
    | none => false
  | .enumerateRunStart p => s.up && (match (s.hp p).run with
    | some r => r.wait == .power && s.due (r.startUs + 50000)
    | none => (s.hp p).asked.isSome && !(s.hp p).taking && s.en 0x01 p)
  | .enumerateRunEnd p _ => s.up && (match (s.hp p).run with
    | some r => r.wait == .ended
    | none => false)
  | .commandExecution ecc => s.up && ecc.isEmpty && (match s.nextCmd with
    | some c => c.ecc.isEmpty
    | none => false)
  | .hostSilence => s.up && s.rdy 2 && !s.host.silence && s.due (s.host.opHeard + s.hostTimeout * 1000000)
  | .sessionExpiry k => (s.ses k).live && (s.ses k).ending.isNone && s.due ((s.ses k).heardAt + s.sessionExpiry * 1000000)
  | .orphanHoldExpiry o => s.up && s.rdy 0 && s.own.any (fun e =>
    e.2.own == 2 && e.2.owner == o && s.due ((e.2.orphanMs + s.orphanHold * 1000) * 1000))
  | .readyNotice => s.up && s.readyChanged && (match s.start.readyAt with | some t => s.due (t + 10000) | none => false)
  | .scanCycleStart => s.startDue
  | .halyardSlotEnd p k n _ => s.halRuns && s.scan.active && s.en 0x01 p && decide (p < 128) && decide (k < 4) && decide (n < 256)
    && decide ((s.hp p).slotPos ≤ k * 256 + n) && s.due (s.scan.startUs + slotEndUs k n)
  | .scheduleEnd p _ => s.halRuns && s.scan.active && s.due (s.scan.startUs + 506496) && (s.hp p).taking
    && decide (p < 128)
  | .pointRecord ecc => s.up && ecc.isEmpty && decide (s.scan.jobs.length < 256) && !(drainRegs s).scan.intake.isEmpty
  | .frontJob ecc => s.up && ecc.isEmpty && !s.scan.jobs.isEmpty
  | .trendSnapshot _ => s.up && s.scan.snap.isSome
  | .trendSpill n => let v := s.stream n
    s.up && v.sess != 0 && v.spill && decide (v.spilledTo + 4096 ≤ v.written)
  | .switchOnProbe p _ => s.halRuns && (s.hp p).line == .powering && (s.hp p).probing && s.due ((s.hp p).since + 2000)
  | .poweringEnd p => s.halRuns && (s.hp p).line == .powering && !(s.hp p).probing && s.due ((s.hp p).since + 100000)
  | .lineShort p => s.halRuns && (s.hp p).isOn && (s.hp p).base != .powering
  | .shortRetry p => s.halRuns && s.en 0x01 p && ((s.hp p).line == .short || (s.hp p).line == .foreign)
    && s.due ((s.hp p).since + retryWait (s.hp p).retries)
  | .lineForeign p => s.halRuns && (s.hp p).isOn
  | .lowSupply _ cV => s.halRuns && decide (cV < 950)
  | .lowSupplyRecovery _ cV => s.halRuns && decide (1000 ≤ cV)
  | .lowLine p cV => s.halRuns && (s.hp p).isOn && decide (cV < s.df 0x01 p 8 2) && decide ((s.hp p).dmA < 10 * s.df 0x01 p 2 2)
  | .lowLineClear p cV => s.halRuns && decide (s.df 0x01 p 8 2 < cV)
  | .tick e => s.up && s.start.resetReq.isNone && e.ecc.isEmpty
  | .loopOverrun l => (s.loop l).late != 0
  | .mastEvaluation => s.up && s.scan.frontsDone && !s.scan.mastDone
  | .mastTimedCheck => s.up && s.rdy 17 && s.due ((s.masts.checkS + 1) * 1000000)
  | .ledgerSave => s.up && s.rdy 17 && s.due (s.masts.saveUs + 60000000)
  | .dryerEvaluation => s.up && s.rdy 4 && s.aon.nowUs / 100000 != s.dryers.evalAt / 100000
  | .dryerSaveRefresh => s.up && s.rdy 14 && s.due (s.dryers.saveAt + 10000000)
  | .routeEvaluation => s.up && s.rdy 4 && s.aon.nowUs / 10000 != s.routes.evalAt / 10000
  | .lockoutChange _ => !s.pwr.vioLow
  | .lockoutRelease => [1, 2, 3].any (fun d => (s.die d).force && !(s.die d).sense && s.due ((s.die d).senseAt + 100000))
  | .lockoutDisagree m => (match s.io.disagreeAt with
    | some t => !s.io.disagreed && m == s.lockMask && s.due (t + 10000)
    | none => false)
  | .scanPlaneStep c => s.afeUp && !(s.conv c).stuck && !(s.conv c).busy && (Safety.nextScan c s).isSome
  | .conversionResult x => (Safety.goodValue x s).isSome
  | .scanSwitchStuck c => s.afeUp && !(s.conv c).stuck && (s.conv c).cur.isSome
  | .excOpen r => s.afeLive r && s.inStep r && fld (s.afd r) 2 1 != 0xFF && !(keyType r == 0x0F && (s.afe r).exc == 3)
  | .excShort r => s.afeLive r && s.inStep r && fld (s.afd r) 2 1 != 0xFF && !(keyType r == 0x0F && (s.afe r).exc == 3)
  | .excRetry r => match (s.afe r).shortAt with
    | some (t, again) => s.afeLive r && keyType r == 0x0F && (s.afe r).exc == 3
      && s.due (t + (if again then 1000000 else 100000))
    | none => false
  | .inputCommonMode r => s.afeLive r && s.inStep r && (s.afe r).range != 8
  | .shuntOvercurrent r => s.afeLive r && afeMeas (s.afd r) == 3 && !(s.afe r).shuntOpen
  | .rangeClip r _ => s.afeLive r && s.inStep r && !afeAuto (s.afd r)
  | .channelStale r => match (s.afe r).goodAt with
    | some t => s.afeLive r && fld (s.afd r) 30 2 != 0 && [1, 2, 3].contains (s.afe r).qual
      && s.due (t + fld (s.afd r) 30 2 * 1000)
    | none => false
  | .afeCalibration => s.pwr.phase != .cold && s.start.afeCalibrating
    && s.due ((Tbl.rd Domain.dflt s.pwr.domains 9).at_ + 60000)
  | .aoShort i => s.aoLive i && s.db 0x0D i 0 1 1 == 0 && (s.ao i).value != 0
  | .aoOpen i b => s.aoLive i && s.db 0x0D i 0 1 1 != 0 && (s.ao i).open_ != b
  | .dioInputChange i land => s.dioLive i && (s.dio i).land != land && !(s.dio i).first
    && s.due ((s.dio i).agreeAt + s.dioFilterUs i)
  | .dioOverload i mA => s.dioOut i && (s.dio i).on && decide (750 ≤ mA) && s.due ((s.dio i).onAt + 1000 * s.df 0x0C i 8 2)
  | .dioThermal i _ => s.dioOut i && !dioHeld (s.dio i)
  | .dioRetry i _ => s.dioOut i && !(s.dio i).latched && ((s.dio i).fault == 1 || (s.dio i).fault == 2)
    && s.due ((s.dio i).tripAt + 1000000)
  | .dioGroupShed g mA => s.pwr.phase != .cold && decide (g < 4) && decide (6000 < mA) && (s.dgrp g).shedAt.isNone
  | .dioReadbackHigh i => s.dioOut i && !(s.dio i).on && s.due ((s.dio i).offAt + 10000)
  | .dioExtSupplyEnd i => s.pwr.phase != .cold && !(s.dio i).on && Safety.longOff (s.dio i).offAt (s.dio i).highAt s
  | .dioOpenFlag i o => let c := s.dio i
    let long := s.due (max c.onAt c.mAAt + 100000)
    s.dioOut i && (if o then c.on && s.db 0x0C i 1 5 1 == 1 && decide (c.mA < 2) && long
      else !c.on || (decide (2 ≤ c.mA) && long))
  | .dioSupplyLow g cV => s.pwr.phase != .cold && decide (g < 4) && (decide (cV < 1000) || decide (1050 ≤ cV))
  | .parallelTestPulse i _ => match (s.dio i).test with
    | some (_ :: _) => s.due ((s.dio i).pulseAt + 300)
    | _ => false
  | .dioRetrySeriesEnd i => match (s.dio i).seriesAt with
    | some t => s.due (t + 60000000)
    | none => false
  | .fuseModelStep _ => s.pwr.phase != .cold && s.due (s.io.fuseAt + 1000)
  | .lampDutyUpdate _ => true
  | .loadShort i c => s.loadLive i && (s.load i).on && decide (13500 ≤ c.mA)
  | .loadThermal i _ => s.loadLive i && !loadHeld (s.load i)
  | .loadRetry i _ => s.loadLive i && !(s.load i).latched && ((s.load i).fault == 1 || (s.load i).fault == 3)
    && s.due ((s.load i).tripAt + 1000000)
  | .loadReverse i _ => s.loadLive i && (s.load i).on
  | .loadExtSupply i high => s.loadLive i && !(s.load i).on
    && (if high then (s.bank (i / 12)).st != 1 && s.due ((s.load i).offAt + 20000) && (s.load i).fault == 0
        && !((s.out (dkey 0x0B i)).sel == 1 && (s.out (dkey 0x0B i)).row != 1)
      else Safety.longOff (s.load i).offAt (s.load i).highAt s)
  | .loadOpenFlag i o => let c := s.load i
    let few := decide (c.mA < fld (s.ld i) 12 2)
    let long := s.due (max c.onAt c.mAAt + 100000)
    s.loadLive i && (s.bank (i / 12)).st == 0 && (if o then c.on && s.db 0x0B i 0 4 1 == 1 && few && long
      else !c.on || (!few && long))
  | .bankShed b cA => s.pwr.phase != .cold && decide (b < 4) && (s.die (if b < 2 then 2 else 3)).conf
    && (s.bank b).shedAt.isNone && decide (2000 < cA)
  | .moduleShedCheck _ => s.up && s.due (s.io.modAt + 100000) && !(s.noBosun 2 && s.noBosun 3)
  | .bankHold b cV => s.bankLive b && (s.bank b).st == 0 && decide (cV < 1000)
  | .bankHoldExit b cV => s.bankLive b && (s.bank b).st == 1 && decide (1050 ≤ cV)
  | .bankUndervoltage b cV => s.bankLive b && (s.bank b).st == 1 && (decide (cV < 600) || s.due ((s.bank b).at_ + 500000))
  | .bankRestart b cV => s.bankLive b && decide (1100 ≤ cV) && (s.bank b).st == 2
  | .channelRestartDelay i => s.loadLive i
  | .loadRetrySeriesEnd i => match (s.load i).seriesAt with
    | some t => s.due (t + 60000000)
    | none => false
  | .fanDutyUpdate => s.pwr.phase != .cold && (s.die 1).conf && s.due (s.io.fanAt + 10000)
  | .tachEdge i _ => s.fanLive i
  | .tachTimeout i => s.fanLive i && (s.fan i).edged && s.due ((s.fan i).edgeAt + 2000000)
  | .kickEnd i => s.fanLive i && (s.fan i).st == 1 && s.due ((s.fan i).kickAt + fld (s.fd i) 14 2 * 1000)
  | .provingTimeout i => s.fanLive i && s.tachEn i && ((s.fan i).st == 1 || (s.fan i).st == 2)
    && s.due ((s.fan i).kickAt + fld (s.fd i) 16 2 * 1000)
  | .retryWaitEnd i => s.fanLive i && (s.fan i).st == 4 && s.due ((s.fan i).waitAt + fld (s.fd i) 24 2 * 1000000)
  | .tachLoss i => match (s.fan i).lowAt with
    | some t => s.fanLive i && s.due (max t ((s.fan i).kickAt + fld (s.fd i) 16 2 * 1000) + fld (s.fd i) 22 2 * 1000)
    | none => false
  | .tachLossClear i => match (s.fan i).okAt with
    | some t => s.fanLive i && s.due (t + 1000000)
    | none => false
  | .pwmShort i => s.fanLive i && (s.fan i).fault != 3
  | .fanTableUpdate i => s.fanLive i && s.fanClass i == 1 && (s.afe (fld (s.fd i) 48 4)).qual == 1
    && !(s.afe (fld (s.fd i) 48 4)).overR
  | .fullOnWatchdogExpiry => s.pwr.phase != .cold && (s.die 1).conf && !s.io.wdZero
    && s.due (s.io.wdAt + s.io.wdLoad * 1000000)
  | .ttOccurrence o => ttCodes.contains o.code && o.code != 0x0B01 && o.code != 0x0B81 && decide (o.die < 4)
  | .ttRecordWrite => s.up && (s.tt.lost != 0 || !s.tt.fifo.isEmpty)
  | .ttTokenRefill c => s.up && !s.tt.lx20 && ttLimited.contains c && decide (b2n (s.ttBkt c).heldAt.isSome < (s.ttBkt c).spent)
    && s.due ((s.ttBkt c).refillAt + (s.ttLim c).refillMs * 1000)
  | .vsupSag cV => s.pwr.phase != .cold && !s.pwr.sag && decide (cV < 850)
  | .vsupSagEnd cV => s.pwr.sag && decide (900 ≤ cV)
  | .powerFail cV => s.up && (decide (cV < 550) || (s.pwr.sag && s.due (s.pwr.sagAt + 500000)))
  | .vioLow cV => decide (cV < 270) && !s.pwr.vioLow
  | .vioRecovery cV => decide (290 ≤ cV) && s.pwr.vioLow
  | .xt25Fail | .xt32Fail | .crystalRecovery _ => true
  | .optimeSave => s.up && s.due (s.aon.optimeSavedAt + 60000000)
  | .coldStart cV => s.mayStart cV
  | .nrstAssert => s.pwr.phase != .cold
  | .lockstepMismatch => s.up && decide (s.start.warmRun < 2)
  | .bosunWatchdog => s.up && decide (s.start.warmRun < 2) && s.due (s.start.refreshAt + 2 * s.safeTimeout * 1000)
  | .adoption => s.pwr.phase == .warm
  | .keepWindowExpiry d => (s.die d).keeping && s.due ((s.die d).keepAt + (s.die d).keepWindow * 1000)
  | .bosunRefresh => s.up && s.rdy 4 && s.due (s.start.refreshAt + s.safeTimeout * 250)
  | .logicSilence d => s.up && (s.die d).conf && !(s.die d).frozen && s.due ((s.die d).refreshAt + (s.die d).safeTimeout * 1000)
  | .scrubBlock _ => s.up && s.due (s.aon.scrubAt + s.scrubWait)
  | .domainHoist d => s.pwr.phase != .cold && d != 0 && decide (d ≤ 13) && (s.domainWanted d || d == 1 || d == 12)
    && !(s.domain d).hoisted
  | .domainFurl d => d != 0 && decide (d ≤ 13) && s.domainDone d && (s.domain d).hoisted
  | .pllStop d => !(s.domain d).hoisted && (s.domain d).pll && !((d == 7 || d == 8) && s.halfKept d)
    && s.due ((s.domain d).at_ + 10000)
  | .nrstRelease => s.pwr.nrstLow && s.pwr.phase == .cold && decide (850 ≤ s.pwr.vsup)
  | .sessionSilent k => (s.ses k).live && s.due ((s.ses k).heardAt + s.hostTimeout * 1000000)
  | .phaseSlotMark k => s.halRuns && s.scan.active && decide (k < 4) && decide (s.scan.marks ≤ k) && s.due (s.scan.startUs + markUs k)
  | .enumerateExchange p _ => match (s.hp p).run with
    | some r => (match r.wait with
      | .ended => false
      | _ => true)
    | none => false
  | .keepalive p => Safety.servable 0x0103 p s
  | .bye p => Safety.servable 0x0104 p s
  | .subscribe p => Safety.servable 0x0105 p s
  | .getReady p => Safety.servable 0x0106 p s
  | .journalHead p => Safety.servable 0x0201 p s
  | .journalRead p => Safety.servable 0x0202 p s
  | .resultOf p => Safety.servable 0x0203 p s
  | .stateDigest p => Safety.servable 0x0204 p s
  | .objectVersions p => Safety.servable 0x0205 p s
  | .rigBegin p => Safety.servable 0x0301 p s
  | .rigPut p => Safety.servable 0x0302 p s
  | .rigCommit p => Safety.servable 0x0303 p s
  | .rigAbort p => Safety.servable 0x0304 p s
  | .rigGet p => Safety.servable 0x0305 p s
  | .rigSave p => Safety.servable 0x0306 p s
  | .rigBankSelect p => Safety.servable 0x0307 p s
  | .pointRead p => Safety.servable 0x0401 p s
  | .scanSetPeriod p => Safety.servable 0x0402 (withByte 4 0#8 p) s
  | .scanExtraCycle p => Safety.servable 0x0402 (withByte 4 1#8 p) s
  | .enumerateDiscover p => Safety.servable 0x0403 (withByte 4 0#8 p) s
  | .enumerateAssign p => Safety.servable 0x0403 (withByte 4 1#8 p) s
  | .enumerateReport p => Safety.servable 0x0403 (withByte 4 2#8 p) s
  | .pointThreshSet p => Safety.servable 0x0404 p s
  | .frontRead p => Safety.servable 0x0405 p s
  | .trendOpen p => Safety.servable 0x0406 (withByte 0 1#8 p) s
  | .trendRead p => Safety.servable 0x0406 (withByte 0 2#8 p) s
  | .trendClose p => Safety.servable 0x0406 (withByte 0 3#8 p) s
  | .trendStatus p => Safety.servable 0x0406 (withByte 0 4#8 p) s
  | .frontLog p => Safety.servable 0x0406 (withByte 0 5#8 p) s
  | .loopSetSp p => Safety.servable 0x0501 p s
  | .loopMode p => Safety.servable 0x0502 p s
  | .loopRead p => Safety.servable 0x0503 p s
  | .loopClearFlags p => Safety.servable 0x0504 p s
  | .injectStart p => Safety.servable 0x0505 p s
  | .captureRead p => Safety.servable 0x0506 (withByte 1 0#8 p) s
  | .captureFree p => Safety.servable 0x0506 (withByte 1 1#8 p) s
  | .mastMode p => Safety.servable 0x0601 p s
  | .mastRead p => Safety.servable 0x0602 p s
  | .ledgerRead p => Safety.servable 0x0603 p s
  | .dryerMode p => Safety.servable 0x0701 p s
  | .dryerNext p => Safety.servable 0x0702 (withByte 4 1#8 p) s
  | .dryerPause p => Safety.servable 0x0702 (withByte 4 2#8 p) s
  | .dryerResume p => Safety.servable 0x0702 (withByte 4 3#8 p) s
  | .dryerAck p => Safety.servable 0x0702 (withByte 4 4#8 p) s
  | .dryerEmpty p => Safety.servable 0x0702 (withByte 4 5#8 p) s
  | .dryerRead p => Safety.servable 0x0703 p s
  | .routeClaim p => Safety.servable 0x0801 (withByte 4 1#8 p) s
  | .routeRelease p => Safety.servable 0x0801 (withByte 4 0#8 p) s
  | .routeStart p => Safety.servable 0x0802 p s
  | .routeStopNormal p => Safety.servable 0x0803 (withByte 4 0#8 p) s
  | .routeStopQuick p => Safety.servable 0x0803 (withByte 4 1#8 p) s
  | .routeAck p => Safety.servable 0x0803 (withByte 4 2#8 p) s
  | .routeRead p => Safety.servable 0x0804 p s
  | .dioWrite p => Safety.servable 0x0901 p s
  | .dioRead p => Safety.servable 0x0902 p s
  | .loadWrite p => Safety.servable 0x0903 p s
  | .loadRead p => Safety.servable 0x0904 p s
  | .aoWrite p => Safety.servable 0x0905 p s
  | .fanSet p => Safety.servable 0x0906 p s
  | .fanRead p => Safety.servable 0x0907 p s
  | .faultClear p => Safety.servable 0x0908 p s
  | .afeRead p => Safety.servable 0x0A01 p s
  | .threshRead p => Safety.servable 0x0A02 p s
  | .ttOpen p => Safety.servable 0x0B01 (withByte 0 1#8 p) s
  | .ttClose p => Safety.servable 0x0B01 (withByte 0 2#8 p) s
  | .ttNotify p => Safety.servable 0x0B01 (withByte 0 3#8 p) s
  | .ttRead p => Safety.servable 0x0B02 p s
  | .ttPin p => Safety.servable 0x0B03 (withByte 1 1#8 p) s
  | .ttUnpin p => Safety.servable 0x0B03 (withByte 1 0#8 p) s
  | .ttClear p => Safety.servable 0x0B04 p s
  | .ttLimitsSet p => Safety.servable 0x0B05 (withByte 0 1#8 p) s
  | .ttLimitsGet p => Safety.servable 0x0B05 (withByte 0 2#8 p) s
  | .sysInfo p => Safety.servable 0x0C01 p s
  | .timeMark p => Safety.servable 0x0C02 p s
  | .resetWarm p => Safety.servable 0x0C03 (withByte 0 1#8 p) s
  | .resetCold p => Safety.servable 0x0C03 (withByte 0 2#8 p) s
  | .powerPlanGet p => Safety.servable 0x0C04 (withByte 0 1#8 p) s
  | .powerPlanClear p => Safety.servable 0x0C04 (withByte 0 2#8 p) s
  | .powerPlanSet p => Safety.servable 0x0C04 (withByte 0 3#8 p) s
  | .quotaSet p => Safety.servable 0x0C05 p s
  | .roleLower p => Safety.servable 0x0C06 (withByte 0 1#8 p) s
  | .roleEvict p => Safety.servable 0x0C06 (withByte 0 2#8 p) s
  | .roleRelease p => Safety.servable 0x0C06 (withByte 0 3#8 p) s
  | .keySet p => Safety.servable 0x0C07 p s
  | .fwBegin p => Safety.servable 0x0C08 (withByte 0 1#8 p) s
  | .fwData p => Safety.servable 0x0C08 (withByte 0 2#8 p) s
  | .fwEnd p => Safety.servable 0x0C08 (withByte 0 3#8 p) s
  | .fwActivate p => Safety.servable 0x0C08 (withByte 0 4#8 p) s
  | .fwAbort p => Safety.servable 0x0C08 (withByte 0 5#8 p) s

/-! ## The opcode rows, and where they take effect -/

/-- Opcode rows: the opcode, the packet with the byte that the row fixes (log 7), the row. -/
def Safety.opRowsA : List (Nat × (Packet → Packet) × (Packet → Instr)) :=
  [(0x0103, id, .keepalive), (0x0104, id, .bye), (0x0105, id, .subscribe), (0x0106, id, .getReady),
   (0x0201, id, .journalHead), (0x0202, id, .journalRead), (0x0203, id, .resultOf), (0x0204, id, .stateDigest),
   (0x0205, id, .objectVersions), (0x0301, id, .rigBegin), (0x0302, id, .rigPut), (0x0303, id, .rigCommit),
   (0x0304, id, .rigAbort), (0x0305, id, .rigGet), (0x0306, id, .rigSave), (0x0307, id, .rigBankSelect),
   (0x0401, id, .pointRead), (0x0402, withByte 4 0#8, .scanSetPeriod), (0x0402, withByte 4 1#8, .scanExtraCycle),
   (0x0403, withByte 4 0#8, .enumerateDiscover), (0x0403, withByte 4 1#8, .enumerateAssign),
   (0x0403, withByte 4 2#8, .enumerateReport)]

/-- Opcode rows: the opcode, the packet with the byte that the row fixes (log 7), the row. -/
def Safety.opRowsB : List (Nat × (Packet → Packet) × (Packet → Instr)) :=
  [(0x0404, id, .pointThreshSet), (0x0405, id, .frontRead), (0x0406, withByte 0 1#8, .trendOpen),
   (0x0406, withByte 0 2#8, .trendRead), (0x0406, withByte 0 3#8, .trendClose), (0x0406, withByte 0 4#8, .trendStatus),
   (0x0406, withByte 0 5#8, .frontLog), (0x0501, id, .loopSetSp), (0x0502, id, .loopMode), (0x0503, id, .loopRead),
   (0x0504, id, .loopClearFlags), (0x0505, id, .injectStart), (0x0506, withByte 1 0#8, .captureRead),
   (0x0506, withByte 1 1#8, .captureFree), (0x0601, id, .mastMode), (0x0602, id, .mastRead), (0x0603, id, .ledgerRead),
   (0x0701, id, .dryerMode), (0x0702, withByte 4 1#8, .dryerNext), (0x0702, withByte 4 2#8, .dryerPause),
   (0x0702, withByte 4 3#8, .dryerResume), (0x0702, withByte 4 4#8, .dryerAck)]

/-- Opcode rows: the opcode, the packet with the byte that the row fixes (log 7), the row. -/
def Safety.opRowsC : List (Nat × (Packet → Packet) × (Packet → Instr)) :=
  [(0x0702, withByte 4 5#8, .dryerEmpty), (0x0703, id, .dryerRead), (0x0801, withByte 4 1#8, .routeClaim),
   (0x0801, withByte 4 0#8, .routeRelease), (0x0802, id, .routeStart), (0x0803, withByte 4 0#8, .routeStopNormal),
   (0x0803, withByte 4 1#8, .routeStopQuick), (0x0803, withByte 4 2#8, .routeAck), (0x0804, id, .routeRead),
   (0x0901, id, .dioWrite), (0x0902, id, .dioRead), (0x0903, id, .loadWrite), (0x0904, id, .loadRead),
   (0x0905, id, .aoWrite), (0x0906, id, .fanSet), (0x0907, id, .fanRead), (0x0908, id, .faultClear),
   (0x0A01, id, .afeRead), (0x0A02, id, .threshRead), (0x0B01, withByte 0 1#8, .ttOpen),
   (0x0B01, withByte 0 2#8, .ttClose), (0x0B01, withByte 0 3#8, .ttNotify)]

/-- Opcode rows: the opcode, the packet with the byte that the row fixes (log 7), the row. -/
def Safety.opRowsD : List (Nat × (Packet → Packet) × (Packet → Instr)) :=
  [(0x0B02, id, .ttRead), (0x0B03, withByte 1 1#8, .ttPin), (0x0B03, withByte 1 0#8, .ttUnpin), (0x0B04, id, .ttClear),
   (0x0B05, withByte 0 1#8, .ttLimitsSet), (0x0B05, withByte 0 2#8, .ttLimitsGet), (0x0C01, id, .sysInfo),
   (0x0C02, id, .timeMark), (0x0C03, withByte 0 1#8, .resetWarm), (0x0C03, withByte 0 2#8, .resetCold),
   (0x0C04, withByte 0 1#8, .powerPlanGet), (0x0C04, withByte 0 2#8, .powerPlanClear),
   (0x0C04, withByte 0 3#8, .powerPlanSet), (0x0C05, id, .quotaSet), (0x0C06, withByte 0 1#8, .roleLower),
   (0x0C06, withByte 0 2#8, .roleEvict), (0x0C06, withByte 0 3#8, .roleRelease), (0x0C07, id, .keySet),
   (0x0C08, withByte 0 1#8, .fwBegin), (0x0C08, withByte 0 2#8, .fwData), (0x0C08, withByte 0 3#8, .fwEnd),
   (0x0C08, withByte 0 4#8, .fwActivate)]

/-- Opcode rows: the opcode, the packet with the byte that the row fixes (log 7), the row. -/
def Safety.opRowsE : List (Nat × (Packet → Packet) × (Packet → Instr)) :=
  [(0x0C08, withByte 0 5#8, .fwAbort)]

/-- Every opcode row but HELLO and AUTH. -/
def Safety.opRows : List (Nat × (Packet → Packet) × (Packet → Instr)) :=
  Safety.opRowsA ++ Safety.opRowsB ++ Safety.opRowsC ++ Safety.opRowsD ++ Safety.opRowsE

/-- PORT_ENUMERATE runs on port `p` (R157, R159): enabled, not busy, its line not in fault, and no open transaction names it. -/
def Safety.mayEnumerate (b : State) (p : Nat) : Bool :=
  let h := b.hp p
  b.en 0x01 p && h.asked.isNone && h.run.isNone && !txnNamesPort b p && h.line != .short && h.line != .foreign
    && h.line != .lowSupply

/-- The port is asked for an enumeration, and its command goes on. -/
def Safety.asked (b : State) (p : Nat) (assign : Bool) (c : Cmd) : State :=
  let b1 := b.setHp p { b.hp p with asked := some assign }
  { b1 with host := { b1.host with running := b1.host.running ++ [c] } }

/-- DRYER_STEP of ACTION `a` is taken: the dryer is enabled, the session may operate it, and the action is valid in its
state; ACK waits until the cause has gone (R244). -/
def Safety.stepTaken (q : Packet) (a : Nat) (s : State) : Bool :=
  let c := Safety.cmdOf 0x0702 q s
  let b := Safety.before 0x0702 q s
  let k := fld c.payload 0 4
  let i := keyIdx k
  let w := (b.dryer i).w
  fld c.payload 4 1 == a && b.mayOperate k c.sess && b.en 0x07 i && dryValid a w.st
    && !(a == 4 && dryCauseHolds (b.d 0x07 i) (dryEnv b i) w.fault)

/-- The action waits for the dryer's next evaluation. -/
def Safety.stepped (q : Packet) (a : Nat) (s : State) : State :=
  let c := Safety.cmdOf 0x0702 q s
  let b := Safety.before 0x0702 q s
  let k := fld c.payload 0 4
  let x := b.dryer (keyIdx k)
  finish c (Res.ok []) (commitItem k c.jseq c.sess c.role
    (b.setDryer (keyIdx k) { x with items := x.items ++ [{ action := a, mode := 0, st := x.w.st }] }))

/-- A route's command passes its gate: claimed, enabled, and the session may operate it (R258 to R263). -/
def Safety.routeTaken (op : Nat) (q : Packet) (s : State) : Bool :=
  let c := Safety.cmdOf op q s
  let b := Safety.before op q s
  let k := fld c.payload 0 4
  b.mayOperate k c.sess && (b.ownOf k).own != 0 && b.en 0x08 (keyIdx k)

/-- The item waits for the route's next evaluation. -/
def Safety.routed (op : Nat) (q : Packet) (it : Nat) (s : State) : State :=
  let c := Safety.cmdOf op q s
  let b := Safety.before op q s
  let k := fld c.payload 0 4
  let x := b.route (keyIdx k)
  finish c (Res.ok []) (commitItem k c.jseq c.sess c.role (b.setRoute (keyIdx k) { x with items := x.items ++ [it] }))

/-- A write of one item is taken (R97): ready, the session may operate the output, it is enabled with SRC_KIND 0, and no
LOCKOUT holds it. -/
def Safety.writeTaken (op : Nat) (p : Packet) (s : State) : Bool :=
  let c := Safety.cmdOf op p s
  let b := Safety.before op p s
  let k := fld c.payload 4 4
  fld c.payload 0 2 == 1 && b.fieldReady k && b.mayOperate k c.sess && b.outOn k && b.srcKind k == 0 && !b.lockForces k

/-- The output's host value is what the item carries: a VALUE of two bytes for fans and analogue outputs, of one for loads
and DIO (R81). -/
def Safety.wrote (op : Nat) (p : Packet) (s : State) : State :=
  let c := Safety.cmdOf op p s
  let b := Safety.before op p s
  let k := fld c.payload 4 4
  let v := if keyType k = 0x0A || keyType k = 0x0D then fld c.payload 8 2 else fld c.payload 8 1
  finish c (Res.multi [0] []) (commitItem k c.jseq c.sess c.role { b with io := { b.io with host := Tbl.wr 0 b.io.host k v } })

/-- The reply of TT_LIMITS for a code (R352). -/
def Safety.limitPage (u : State) (code : Nat) : Bytes :=
  let lim := ttLimited.contains code
  let l := u.ttLim code
  let b := u.ttBkt code
  [BitVec.ofNat 8 (b2n u.tt.lx20), BitVec.ofNat 8 (if lim then l.burst - b.spent + b2n b.heldAt.isSome else 0)] ++ zeros 2
    ++ (if lim then le 4 b.supp ++ [BitVec.ofNat 8 l.burst] ++ zeros 3 ++ le 4 l.refillMs else zeros 12)

end Sys2Proof
end

