-- ==== Sys2Proof/Certificates/Slice0/Obligations.lean ====
section
/-! DEFINITION. The statements about the LX-100. Each names the rules of spec/ it formalises; a row's own condition is
`Safety.occurs`, and a host opcode is served when it is `Safety.servable`. -/
open Sys2Proof Sys2Proof.Machine


/-! ## The whole block -/

/-- A step runs the command at the front of the queue with the queue's rest; on an empty queue the block idles, which is the
model's choice (log 4). -/
def Obligations.StepRunsFront : Prop :=
  (∀ c q s, s.pending = c :: q → step s = exec c { s with pending := q }) ∧ (∀ s, s.pending = [] → step s = .next s)

/-- At reset nothing is driven, no session is live, nothing is ready, only the Maintainer key is set (R88), and the mailbox
holds MB_ID, IN_FREE 1 and zeros (R54, R390), with SPI_SDO high impedance (R36). -/
def Obligations.ResetLeaves : Prop :=
  State.reset.pwr.phase = .cold ∧ Safety.allOff State.reset ∧ State.reset.sess = [] ∧ State.reset.start.ready = 0
  ∧ (∀ role, (Tbl.rd none State.reset.auth.keys role).isSome = true ↔ role = 4)
  ∧ (spiByte State.reset 0, spiByte State.reset 1, spiByte State.reset 2, spiByte State.reset 3) = (0x64#8, 0x00#8, 0x58#8, 0x4C#8)
  ∧ (∀ a, 4 ≤ a → a < 28 → spiByte State.reset a = if a = 4 then 1#8 else 0#8)
  ∧ (∀ a, spiRead State.reset a = none)

/-- The invariant of the block holds at reset: WARM_RUN below 3 (R388), the mailbox registers within their fields and both
its buffers in canonical form (R54; log 18). -/
def Obligations.InvariantAtReset : Prop := Safety.Inv State.reset

/-- Every step keeps the invariant of the block, in every state and for every command (R54, R388). -/
def Obligations.StepKeepsInvariant : Prop := ∀ s t, Safety.Inv s → step s = .next t → Safety.Inv t

/-- No command touches the queue of waiting commands: a step takes one, and that is all. -/
def Obligations.ExecKeepsQueue : Prop := ∀ c s t, exec c s = .next t → t.pending = s.pending

/-- No command lowers SEC_FLOOR (R84, R86). -/
def Obligations.FloorNeverFalls : Prop := ∀ c s t, exec c s = .next t → s.fw.floor ≤ t.fw.floor

/-- POWERCYCLE changes only at COLD_START and at the release of nRST, where it rises by one (R380). -/
def Obligations.PowercycleOnlyAtStarts : Prop :=
  ∀ c s t, exec c s = .next t → t.aon.powercycle = s.aon.powercycle
    ∨ (t.aon.powercycle = (s.aon.powercycle + 1) % 4294967296 ∧ ((∃ cV, c = .coldStart cV) ∨ c = .nrstRelease))

/-- Nothing but the rows of the mailbox writes it, and the resets put it at its reset values (R54, R55). -/
def Obligations.MailboxOnlyBySpi : Prop :=
  ∀ c s t, exec c s = .next t → (t.spi = s.spi ∨ t.spi = Spi.reset)
    ∨ (∃ w, c = .spiInGo w) ∨ c = .spiInTaken ∨ (∃ w, c = .spiOutDone w) ∨ c = .spiOutPlace
    ∨ (∃ a bs, c = .spiInBufferWrite a bs) ∨ (∃ w, c = .spiIrqStatusClear w) ∨ (∃ a bs, c = .spiRegisterWrite a bs)

/-- A cold reset ends only at COLD_START and at the release of nRST (R378, R380). -/
def Obligations.ColdEndsOnlyAtStarts : Prop :=
  ∀ c s t, exec c s = .next t → s.pwr.phase = .cold → t.pwr.phase ≠ .cold → (∃ cV, c = .coldStart cV) ∨ c = .nrstRelease

/-! ## Packets that do nothing -/

/-- R61: a packet of a wrong length, with a wrong MAGIC or VERSION, with FROM_DEVICE set, of a PLEN that its length does not
bear, for a slot that is not live, or with a wrong tag where its opcode is neither HELLO nor AUTH, is discarded: only the Telltale
counts it. Its transport has
delivered it: the port works, no reset is asked for, and the region has room. -/
def Obligations.DiscardsAreSilent : Prop :=
  ∀ port addr bs ecc s, s.portOn port = true → s.start.resetReq = none → s.roomFor bs.length = true →
    (bs.length < 40 ∨ 8232 < bs.length ∨ fld bs 0 2 ≠ 0x4C58 ∨ fld bs 2 1 ≠ 1 ∨ bit (fld bs 3 1) 0 = true
      ∨ 40 + fld bs 16 2 ≠ bs.length
      ∨ (¬ (fld bs 4 1 = 0xFF ∧ (fld bs 6 2 = 0x0101 ∨ fld bs 6 2 = 0x0102))
          ∧ (8 ≤ fld bs 4 1 ∨ (s.ses (fld bs 4 1)).live = false))
      ∨ (fld bs 6 2 ≠ 0x0101 ∧ fld bs 6 2 ≠ 0x0102
          ∧ (hmac (s.ses (fld bs 4 1)).ks (bs.take (bs.length - 16))).take 16 ≠ bs.drop (bs.length - 16))) →
    ∃ r, 1 ≤ r ∧ r ≤ 6 ∧ arrive port addr bs ecc s = ttDiscard r port (fld bs 4 1) s
      ∧ ttDiscard r port (fld bs 4 1) s = { s with tt := (ttDiscard r port (fld bs 4 1) s).tt }

/-- A command that a check of R68 refuses writes no journal entry, takes no tag and no object, and changes no setting: only
its session is heard and a reply goes out. -/
def Obligations.RefusalsChangeNothing : Prop :=
  ∀ e ∈ Safety.opRows, ∀ p s, Safety.arrives e.1 (e.2.1 p) s = true → discardReason (packetBytes e.1 (e.2.1 p)) s = none →
    p.session ≠ 0xFF#8 →
    (let h := heard p.session.toNat p.port p.addr s
     let a := admission p.session.toNat e.1 p.hostTag.toNat (headerRsv (packetBytes e.1 (e.2.1 p))) (e.2.1 p).payload h
     a ≠ 0 → a ≠ 0x0500 →
     ∃ t, exec (e.2.2 p) s = .next t ∧ t = refuse p.session.toNat e.1 p.hostTag.toNat p.port p.addr a h
       ∧ t.jrnl = s.jrnl ∧ t.own = s.own ∧ t.rig = s.rig ∧ t.fw = s.fw ∧ t.shv = s.shv ∧ t.masts = s.masts
       ∧ t.dryers = s.dryers ∧ t.routes = s.routes ∧ t.io.host = s.io.host ∧ t.io.outs = s.io.outs
       ∧ t.host.queue = s.host.queue ∧ (t.ses p.session.toNat).highTag = (s.ses p.session.toNat).highTag)

/-- A command whose HOST_TAG is not above the session's highest executes nothing (R67): nothing waits and no object, setting
or output changes; it is answered with DUPLICATE at once, since nothing is before it. -/
def Obligations.ResendsExecuteNothing : Prop :=
  ∀ e ∈ Safety.opRows, ∀ p s, Safety.arrives e.1 (e.2.1 p) s = true → discardReason (packetBytes e.1 (e.2.1 p)) s = none →
    p.session ≠ 0xFF#8 → headerRsv (packetBytes e.1 (e.2.1 p)) = true →
    p.hostTag.toNat ≤ (s.ses p.session.toNat).highTag →
    ∃ t, exec (e.2.2 p) s = .next t
      ∧ t = dupReply p.session.toNat e.1 p.hostTag.toNat p.port p.addr (heard p.session.toNat p.port p.addr s)
      ∧ t.jrnl = s.jrnl ∧ t.own = s.own ∧ t.rig = s.rig ∧ t.fw = s.fw ∧ t.shv = s.shv ∧ t.masts = s.masts
      ∧ t.dryers = s.dryers ∧ t.routes = s.routes ∧ t.io.host = s.io.host ∧ t.io.outs = s.io.outs
      ∧ t.host.queue = s.host.queue

/-! ## The mailbox -/

/-- A write transaction to the free IN buffer stores its bytes at their offsets, and every other byte of both buffers reads
as before (R54, R55). -/
def Obligations.InBufferHoldsWrites : Prop :=
  ∀ a data s, Safety.occurs (.spiInBufferWrite a data) s = true → Safety.Inv s →
    ∃ t, exec (.spiInBufferWrite a data) s = .next t ∧ Memory.read t.spi.inBuf (a - 4096) data.length = data
      ∧ (∀ b, (b < a - 4096 ∨ a - 4096 + data.length ≤ b) → t.spi.inBuf.byte b = s.spi.inBuf.byte b)
      ∧ t.spi.outBuf = s.spi.outBuf ∧ t = { s with spi := { s.spi with inBuf := t.spi.inBuf } }

/-- Accesses that R55 refuses change no buffer, set IRQ_STATUS.ERR and count once: a write to the IN buffer while IN_FREE is
0, IN_GO while IN_FREE is 0 or with IN_LEN outside 40 to 8,232. ERR_COUNT holds at its end (R54). -/
def Obligations.RefusedAccessesCount : Prop :=
  (∀ a data s, s.portOn 7 = true → s.spi.inFree = false → 4096 ≤ a → a + data.length ≤ 12328 → data ≠ [] →
    exec (.spiInBufferWrite a data) s = .next { s with spi := { s.spi with
      irqStatus := s.spi.irqStatus ||| 4, errCount := min (s.spi.errCount + 1) 0xFFFFFFFF } })
  ∧ (∀ s, s.portOn 7 = true → (s.spi.inFree = false ∨ s.spi.inLen < 40 ∨ 8232 < s.spi.inLen) →
    exec (.spiInGo 1#32) s = .next { s with spi := { s.spi with
      irqStatus := s.spi.irqStatus ||| 4, errCount := min (s.spi.errCount + 1) 0xFFFFFFFF } })

/-! ## Outputs -/

/-- R26: the first condition of its list that applies gives an output its value: off in cold reset (and where its die is not
configured or it is not enabled); the forced value; the safe state of a die in logic silence, or whose keeper window has
ended; the keeper value, which is the level of row 5 as it stood; else the level of row 5. A loop that is overridden keeps
computing, since no output latch touches the loops; and where no condition of its die keeps it, the level of row 5 takes the
value of the source at the latch. -/
def Obligations.FirstConditionSelects : Prop :=
  (∀ s k,
    (s.pwr.phase = .cold ∨ (s.die (dieOf k)).conf = false ∨ s.outOn k = false → select s k = (0, 1))
    ∧ (s.pwr.phase ≠ .cold → (s.die (dieOf k)).conf = true → s.outOn k = true →
      (∀ v, s.forced k = some v → select s k = (v, 2))
      ∧ (s.forced k = none →
        ((s.die (dieOf k)).silent = true ∨ (s.die (dieOf k)).keepOver = true → select s k = (safeValue s k, 3))
        ∧ ((s.die (dieOf k)).silent = false → (s.die (dieOf k)).keepOver = false →
          ((s.die (dieOf k)).keeping = true → select s k = ((s.out k).row5, 4))
          ∧ ((s.die (dieOf k)).keeping = false → select s k = ((s.out k).row5, 5))))))
  ∧ (∀ s k, (latchOut k s).shv = s.shv)
  ∧ (∀ s k v, (s.die (dieOf k)).silent = false → (s.die (dieOf k)).keepOver = false → (s.die (dieOf k)).keeping = false →
    sourceValue s k = some v → latchSource k s = s.setOut k { s.out k with src := v, row5 := s.row5 k v })

/-- A digital output at the output latch takes what R26 selects over its new source value, and no other output moves
(R22 step 5, R26). -/
def Obligations.LatchFollowsSelection : Prop :=
  ∀ s i, i < 96 → s.outOn (dkey 0x0C i) = true → s.pwr.phase ≠ .cold → (s.die (dieOf (dkey 0x0C i))).conf = true →
    (let k := dkey 0x0C i
     let t := latchOut k s
     (t.out k).sel = (select (latchSource k s) k).1 ∧ (t.out k).row = (select (latchSource k s) k).2
     ∧ (∀ j, j ≠ k → t.out j = s.out j))

/-- R25: a host write to an output whose source is not host writes is refused with CONFLICT and changes nothing. The item
has passed the checks that R97 puts before this one. An activation that gives an output host writes as its source, or
enables one that has them, makes its committed value zero; one that leaves it that source keeps the value; and the committed
value is the value of such a source. -/
def Obligations.WriteNeedsHostSource : Prop :=
  (∀ c i s, (let k := fld (cut c.payload (4 + 8 * i) 8) 0 4
    s.fieldReady k = true → s.mayOperate k c.sess = true → s.outOn k = true → s.srcKind k ≠ 0 → writeItem c i s = (s, 0x0403)))
  ∧ (∀ old k s, s.outOn k = true → s.srcKind k = 0 → old.outOn k = false ∨ old.srcKind k ≠ 0 →
    (outActivate old k s).io.host = Tbl.wr 0 s.io.host k 0)
  ∧ (∀ old k s, old.outOn k = true → old.srcKind k = 0 → s.outOn k = true → s.srcKind k = 0 →
    (outActivate old k s).io.host = s.io.host)
  ∧ (∀ k s, s.srcKind k = 0 → sourceValue s k = some (s.hostVal k))

/-- An item on an object that another session owns is NOT_OWNER and changes nothing (R95, R97). -/
def Obligations.NotOwnerChangesNothing : Prop :=
  ∀ c i s, (let k := fld (cut c.payload (4 + 8 * i) 8) 0 4
    s.mayOperate k c.sess = false →
    spItem c i s = (s, 0x0201) ∧ modeItem c i s = (s, 0x0201) ∧ flagItem c i s = (s, 0x0201) ∧ mastItem c i s = (s, 0x0201)
    ∧ (s.fieldReady k = true → writeItem c i s = (s, 0x0201)))

/-! ## Resets -/

/-- R388: WARM_RUN counts the warm resets since the last adoption, the one that would bring it to 3 becomes a cold reset
of kind ESCALATED, and a later notice of a run does not restart a die's KEEP_WINDOW, at whose end the die holds no more. -/
def Obligations.WarmRunEscalates : Prop :=
  (∀ kind s, s.pwr.phase ≠ .cold → s.start.warmRun + 1 ≠ 3 →
    (warmReset kind s).pwr.phase = .warm ∧ (warmReset kind s).start.warmRun = s.start.warmRun + 1)
  ∧ (∀ kind s, s.pwr.phase ≠ .cold → s.start.warmRun + 1 = 3 →
    (warmReset kind s).pwr.phase = .cold ∧ (warmReset kind s).pwr.coldKind = 5 ∧ Safety.allOff (warmReset kind s))
  ∧ (∀ s, s.pwr.phase = .warm → (adoption s).start.warmRun = 0)
  ∧ (∀ d s, (s.die d).keeping = true → (notice d s) = s)
  ∧ (∀ d s, d ≤ 3 → Safety.occurs (.keepWindowExpiry d) s = true →
    ((keepExpiry d s).die d).keeping = false)

/-- RIG_ABORT (R131): its request is empty; from the session that holds the transaction, or from a Maintainer, it discards the
staged items and closes the transaction, and an aborted UPLOAD leaves its bank EMPTY. From another session, with no
transaction open, and once the commit is durable it fails with CONFLICT. -/
def Obligations.AbortClosesTransaction : Prop :=
  (∀ p s, Safety.servable 0x0304 p s = true → p.payload = [])
  ∧ (∀ c s t, s.rig.txn = some t → t.waiting = false → (t.sess = c.sess ∨ 4 ≤ c.role) →
    (runRigAbort c s).2 = Res.ok [] ∧ (runRigAbort c s).1.rig.txn = none
    ∧ (t.mode = 1 → (runRigAbort c s).1.rigBank t.bank = Bank.empty)
    ∧ (t.mode ≠ 1 → (runRigAbort c s).1 = { s with rig := { s.rig with txn := none } }))
  ∧ (∀ c s, s.rig.txn = none → runRigAbort c s = (s, Res.conflict))
  ∧ (∀ c s t, s.rig.txn = some t → t.waiting = true ∨ (t.sess ≠ c.sess ∧ c.role < 4) → runRigAbort c s = (s, Res.conflict))

/-! ## The transports (chapter 02) -/

/-- Ethernet (R40, R44 to R46): what each row leaves when it occurs. -/
def Obligations.EthernetRowsComplete : Prop :=
  (∀ d s, Safety.occurs (.udpDatagram d) s = true →
    exec (.udpDatagram d) s = .next (arrive d.iface (d.srcIp.toNat * 65536 + d.srcPort.toNat) d.data [] s))
  ∧ (∀ f s, Safety.occurs (.ipFragment f) s = true →
    exec (.ipFragment f) s = .next { s with net := { s.net with frags := s.net.frags ++
      [{ iface := f.iface, src := f.srcIp.toNat, dst := f.dstIp.toNat, ident := f.proto.toNat * 65536 + f.ident.toNat,
         at_ := s.aon.nowUs, parts := [(f.offset, f.data)], total := none }] } })
  ∧ (∀ n src ident s, Safety.occurs (.fragmentTimeout n src ident) s = true →
    exec (.fragmentTimeout n src ident) s = .next { s with net := { s.net with frags := s.net.frags.filter (fun c =>
      !(c.iface == n && c.src == src.toNat && c.ident % 65536 == ident.toNat && s.due (c.at_ + 500000))) } })
  ∧ (∀ n target sender mac s, Safety.occurs (.arpRequest n target sender mac) s = true →
    exec (.arpRequest n target sender mac) s
      = .next (emit [Frame.arp n (s.ipOf n) (s.macOf n) sender.toNat mac.toNat] s))
  ∧ (∀ n src dst data s, Safety.occurs (.icmpEcho n src dst data) s = true →
    (let body (ck : Nat) : Bytes := zeros 2 ++ be 2 ck ++ data
     exec (.icmpEcho n src dst data) s
       = .next (emit (ipFrames s n 1 src.toNat (body (65535 - fold16 (onesSum (body 0))))) { s with net := { s.net with
         icmp := s.net.icmp.filter (fun e => decide (s.aon.nowUs < e.2 + 1000000)) ++ [(n, s.aon.nowUs)] } })))

/-- Links (R38, R40): a link that comes up is recorded; one that goes down loses what its port was receiving, sending and had
queued. -/
def Obligations.LinkRowsComplete : Prop :=
  (∀ p s, Safety.occurs (.t1lLinkChange p true) s = true →
    exec (.t1lLinkChange p true) s = .next (linkRecord p true (s.setPort p { s.port p with up := true })))
  ∧ (∀ p s, Safety.occurs (.t1lLinkChange p false) s = true →
    (let s1 := dropQueued p (s.setPort p { s.port p with up := false })
     exec (.t1lLinkChange p false) s = .next (linkRecord p false { s1 with net := { s1.net with
       frags := s1.net.frags.filter (fun c => c.iface != p) } })))
  ∧ (∀ l s, Safety.occurs (.rmiiLinkPoll l) s = true → (s.phyAddr, true) ∈ l →
    exec (.rmiiLinkPoll l) s = .next (linkRecord 2 true (s.setPort 2 { s.port 2 with up := true })))
  ∧ (∀ l s, Safety.occurs (.rmiiLinkPoll l) s = true → (s.phyAddr, true) ∉ l →
    (let s1 := dropQueued 2 (s.setPort 2 { s.port 2 with up := false })
     exec (.rmiiLinkPoll l) s = .next (linkRecord 2 false { s1 with net := { s1.net with
       frags := s1.net.frags.filter (fun c => c.iface != 2) } })))
  ∧ (∀ p up s, linkRecord p up s = ttOccur 0 0x0142 0 [BitVec.ofNat 8 p, BitVec.ofNat 8 (b2n (!up))] s)
  ∧ (∀ p s, dropQueued p s = forAll (s.port p).outQ (fun o st => dropFor o.slot o.sess st)
      (s.setPort p { s.port p with outQ := [], sending := [] }))

/-- CAN FD (R38, R40, R48 to R50). -/
def Obligations.CanRowsComplete : Prop :=
  (∀ f s, Safety.occurs (.canSegment f) s = true →
    exec (.canSegment f) s = .next { s with net := { s.net with
      can := s.net.can.filter (fun c => !(c.port == f.port && c.node == f.ident.toNat / 65536 % 128))
        ++ [{ port := f.port, node := f.ident.toNat / 65536 % 128, seq := 1, plen := fld f.data 1 2,
              got := f.data.drop 3, at_ := s.aon.nowUs }] } })
  ∧ (∀ p n s, Safety.occurs (.canSegmentTimeout p n) s = true →
    exec (.canSegmentTimeout p n) s
      = .next { s with net := { s.net with can := s.net.can.filter (fun c => !(c.port == p && c.node == n)) } })
  ∧ (∀ p s, Safety.occurs (.canBusOff p) s = true →
    exec (.canBusOff p) s = .next (ttOccur 0 0x0183 0 [BitVec.ofNat 8 p] (linkRecord p false (dropQueued p { s with net := { s.net with
      busOff := s.net.busOff ++ [p], can := s.net.can.filter (fun c => c.port != p) } }))))
  ∧ (∀ p s, Safety.occurs (.canBusOffRecovery p) s = true →
    exec (.canBusOffRecovery p) s = .next (linkRecord p true { s with net := { s.net with
      busOff := s.net.busOff.filter (fun q => q != p) } }))

/-- RS-485 (R51 to R53): a POLL opens the reply window, and the window is answered with EMPTY when nothing is queued. -/
def Obligations.Rs485RowsComplete : Prop :=
  (∀ p f s, Safety.occurs (.rs485Frame p f) s = true →
    exec (.rs485Frame p f) s = .next (s.setPort p { s.port p with window := true, empty := false }))
  ∧ (∀ p s, Safety.occurs (.rs485GapTimeout p) s = true →
    exec (.rs485GapTimeout p) s = .next (s.setPort p { s.port p with frameErrs := (s.port p).frameErrs + 1 }))
  ∧ (∀ p s, Safety.occurs (.rs485ReplyWindow p) s = true →
    exec (.rs485ReplyWindow p) s = .next (emit [Frame.rs485 p (rsFrame (s.rsAddr p) 0x83 [])]
      (s.setPort p { s.port p with window := false, empty := false })))
  ∧ (∀ p o q s, (p = 5 ∨ p = 6) → s.portOn p = true → s.start.resetReq = none → (s.port p).window = true →
    (s.port p).empty = false → (s.port p).outQ = o :: q →
    exec (.rs485ReplyWindow p) s = .next (emit [Frame.rs485 p (rsFrame (s.rsAddr p) 0x81 (sealed o s))]
      (s.setPort p { s.port p with window := false, empty := false, outQ := q })))

/-- The SPI mailbox (R54 to R56). -/
def Obligations.SpiRowsComplete : Prop :=
  (∀ w s, Safety.occurs (.spiInGo w) s = true →
    exec (.spiInGo w) s = .next { s with spi := { s.spi with inFree := false } })
  ∧ (∀ s, Safety.occurs .spiInTaken s = true →
    exec .spiInTaken s = .next (arrive 7 0 (Memory.read s.spi.inBuf 0 s.spi.inLen) []
      { s with spi := { s.spi with inFree := true, irqStatus := s.spi.irqStatus ||| 2 } }))
  ∧ (∀ w s, Safety.occurs (.spiOutDone w) s = true →
    exec (.spiOutDone w) s = .next { s with spi := { s.spi with outValid := false, outLen := 0 } })
  ∧ (∀ s, Safety.occurs .spiOutPlace s = true → s.start.resetReq = none →
    ∃ o q, (s.port 7).outQ = o :: q ∧ exec .spiOutPlace s = .next (emit [Frame.spi (sealed o s)]
      { s.setPort 7 { s.port 7 with outQ := q } with
        spi := { s.spi with outValid := true, outLen := (sealed o s).length, irqStatus := s.spi.irqStatus ||| 1,
                            outBuf := Memory.write s.spi.outBuf 0 (sealed o s) } }))
  ∧ (∀ a data s, Safety.occurs (.spiInBufferWrite a data) s = true →
    exec (.spiInBufferWrite a data) s
      = .next { s with spi := { s.spi with inBuf := Memory.write s.spi.inBuf (a - 4096) data } })
  ∧ (∀ w s, Safety.occurs (.spiIrqStatusClear w) s = true →
    exec (.spiIrqStatusClear w) s = .next { s with spi := { s.spi with
      irqStatus := s.spi.irqStatus - (s.spi.irqStatus &&& w.toNat % 256) } })
  ∧ (∀ data s, Safety.occurs (.spiRegisterWrite 12 data) s = true →
    exec (.spiRegisterWrite 12 data) s = .next { s with spi := { s.spi with inLen := fld data 0 2 % 2 ^ 14 } })
  ∧ (∀ data s, Safety.occurs (.spiRegisterWrite 16 data) s = true →
    exec (.spiRegisterWrite 16 data) s = .next { s with spi := { s.spi with irqMask := fld data 0 1 % 8 } })

/-! ## Sessions, timers of the host side, and the background work of commands -/

/-- HELLO and AUTH (R62 to R64, R98): a HELLO that finds a token takes it, leaves a context with a fresh DEV_NONCE and is
answered with it. An AUTH that names a context under a set role's key opens a session in the first free slot, runs as its
first command with the next JSEQ, takes over what a dead predecessor of no higher role left, and replies OK with SESSION and
ROLE. -/
def Obligations.OpeningRowsComplete : Prop :=
  (∀ p s, Safety.occurs (.hello p) s = true →
    (let nonce := le 16 (Config.freeBits s.free).toNat
     let cs := s.auth.ctxs.filter s.ctxLive
     exec (.hello p) s = .next (send p.port p.addr 0xFF 0 false
       (packetOut 0xFF 0x0101 p.hostTag.toNat (replyBlock 0 0 0 0 0
         ++ (nonce ++ le 8 Config.deviceId.toNat ++ [BitVec.ofNat 8 s.liveCount] ++ zeros 7)) [])
       { s with
         free := s.free + 1
         auth := { s.auth with
           ctxs := cs.drop (cs.length - 7) ++ [{ hostNonce := p.payload, devNonce := nonce, at_ := s.aon.nowUs }]
           tok := refill s.auth.tok 100 100 (s.aon.nowUs - s.auth.tokAt) - 1000000
           tokAt := s.aon.nowUs } })))
  ∧ (∀ p s k x ks, Safety.occurs (.auth p) s = true → slots.find? (fun k => !(s.ses k).live) = some k →
    Safety.authKey p s = some (x, ks) →
    (let role := fld p.payload 16 1
     let pred := fld p.payload 24 8
     let j := s.jrnl.head + 1
     let c : Cmd := { jseq := j, slot := k, sess := j, role := role, op := 0x0102, tag := p.hostTag.toNat, payload := p.payload,
                      port := p.port, addr := p.addr, at_ := s.aon.nowUs, ecc := [] }
     let s1 := (dropCtx x s).setSes k (newSession role j p.hostTag.toNat p.port p.addr ks s)
     let s2 := heard k p.port p.addr (jAdmit c 0 false { s1 with host := { s1.host with
       queue := [c], aggTok := Safety.aggNow s - 1000000, aggAt := s.aon.nowUs } })
     let s3 : State := { s2 with host := { s2.host with queue := [] } }
     let keys := if pred = 0 || (s3.slotOf pred).isSome || decide (s3.roleOf j role < 2) then [] else
       (s3.own.filter (fun e => e.2.own != 0 && e.2.owner == pred && decide (e.2.role ≤ s3.roleOf j role))).map (fun e => e.1)
     exec (.auth p) s = .next (finish c (Res.ok ([BitVec.ofNat 8 k, BitVec.ofNat 8 role] ++ zeros 6))
       (forAll keys (passObj j j (s3.roleOf j role)) s3))))

/-- The timers of contexts, sessions and orphans, and host silence (R63, R90, R92, R94, R424). -/
def Obligations.SessionTimersComplete : Prop :=
  (∀ n s, Safety.occurs (.helloContextExpiry n) s = true →
    exec (.helloContextExpiry n) s = .next { s with auth := { s.auth with
      ctxs := s.auth.ctxs.filter (fun x => x.devNonce != n || !s.due (x.at_ + 5000000)) } })
  ∧ (∀ s, Safety.occurs .hostSilence s = true →
    exec .hostSilence s = .next (ttOccur 0 0x0141 0 [1#8] { s with host := { s.host with silence := true } }))
  ∧ (∀ k s, Safety.occurs (.sessionSilent k) s = true →
    exec (.sessionSilent k) s = .next (s.setSes k { s.ses k with silent := true }))
  ∧ (∀ k s, Safety.occurs (.sessionExpiry k) s = true →
    exec (.sessionExpiry k) s = .next (endIdle (s.setSes k { s.ses k with
      ending := some { reason := 1, orphan := true, jseq := 0 } })))
  ∧ (∀ o s, Safety.occurs (.orphanHoldExpiry o) s = true →
    exec (.orphanHoldExpiry o) s = .next (forAll ((s.own.filter (fun e => e.2.own == 2 && e.2.owner == o
        && s.due ((e.2.orphanMs + s.orphanHold * 1000) * 1000))).map (fun e => e.1))
      (releaseObj (jDevice 5 o 0xFF 1 s).jrnl.head) (jDevice 5 o 0xFF 1 s)))
  ∧ (∀ s, Safety.occurs .readyNotice s = true →
    exec .readyNotice s = .next (notify 0 0x8106
      (le 8 s.readyWord ++ le 8 (s.readyWord ^^^ s.start.seenReady) ++ le 16 s.start.ports)
      { s with start := { s.start with seenReady := s.readyWord, seenPorts := s.start.ports, readyAt := none } }))

/-- Queued commands and the ends of deferred ones (R69, R85, R100, R101, R128, R132, R133, R139). -/
def Obligations.CommandRowsComplete : Prop :=
  (∀ c s, Safety.occurs (.commandExecution []) s = true → s.nextCmd = some c → c.op ≠ 0x0102 →
    (let s1 : State := { s with host := { s.host with queue := s.host.queue.filter (fun d => d.jseq != c.jseq) } }
     let r := runCmd c (if c.op / 256 = 3 then txnHeard c.sess s1 else s1)
     exec (.commandExecution []) s = .next (if r.2.deferred then
       { r.1 with host := { r.1.host with running := r.1.host.running ++ [c] } } else finish c r.2 r.1)))
  ∧ (∀ c s, Safety.occurs (.commandExecution []) s = true → s.nextCmd = some c → c.op = 0x0102 →
    (let s1 := takeOver c { s with host := { s.host with queue := s.host.queue.filter (fun d => d.jseq != c.jseq) } }
     exec (.commandExecution []) s = .next (if s1.authWaits c then
       { s1 with host := { s1.host with queue := s.host.queue.map (fun d => if d.jseq = c.jseq then { d with ecc := [] } else d) } }
       else finish c (runAuth c s1).2 (runAuth c s1).1)))
  ∧ (∀ c s, Safety.occurs .rigCommitComplete s = true → s.host.running.find? (fun d => d.op == 0x0303) = some c →
    exec .rigCommitComplete s = .next (finishRun c (rigCommitEnd c s).2 (rigCommitEnd c s).1))
  ∧ (∀ c t s, Safety.occurs .rigCommitComplete s = true → s.host.running.find? (fun d => d.op == 0x0303) = some c →
    s.rig.txn = some t → t.sess = c.sess → t.waiting = false → t.mode = 0 →
    (let recs := t.commitSet.filter (fun f => !f.signer)
     let keys := stagedKeys t.commitSet
     let scan := keys.any (fun k => keyType k == 0x01 || keyType k == 0x02 || keyType k == 0x03 || keyType k == 0x22)
     let row (j : Nat) : Option Delta := recs[j]?.map (fun f =>
       { jseq := c.jseq, item := j, key := f.key, off := f.off, bytes := f.bytes })
     let t1 : Txn := { t with
       staged := t.commitSet, commitSet := [], scan := scan, waiting := true, commit := c.jseq, doneAt := s.aon.nowUs }
     let s1 : State := { s with rig := { s.rig with
       delta := ((List.range recs.length).filterMap row).foldl (fun l r => insertDelta r l) s.rig.delta
       live := putStaged s.rig.live (t.commitSet.filter Staged.signer)
       txn := some t1 } }
     validate { t := putStaged s.rig.live t.commitSet, s := s, named := keys } = [] → s.rig.delta.length + recs.length ≤ 4096 →
     exec .rigCommitComplete s = .next (finishRun c (Res.ok (commitData ((s.rig.version + 1) % 4294967296)
       (if scan && s1.scanRuns then 2 else 1) t.commitSet.length [])) (sheavePlls s1))))
  ∧ (∀ c s, Safety.occurs .rigSaveComplete s = true → s.host.running.find? (fun d => d.op == 0x0306) = some c →
    (let i := s.idleBank
     let s1 := s.setRigBank i { s.rigBank i with st := 2 }
     exec .rigSaveComplete s = .next (if sigOk s (s.rigBank i) then finishRun c (Res.ok (BitVec.ofNat 8 i :: zeros 3))
         { s1 with rig := { s1.rig with
           base := i, next := i, delta := s.rig.delta.filter (fun r => !s.rig.imaged.contains r), imaged := [] } }
       else finishRun c (Res.of 0x0600 []) s)))
  ∧ (∀ c u s, Safety.occurs .fwEndComplete s = true → s.host.running.find? (fun d => d.op == 0x0C08) = some c →
    s.fw.upd = some u →
    exec .fwEndComplete s = .next (finishRun c (Res.of (if fwEndOk u s then 0 else 0x0600) [])
      { s with fw := { s.fw with upd := some { u with endOk := fwEndOk u s } } }))
  ∧ (∀ s, Safety.occurs .fwUpdateTimeout s = true →
    exec .fwUpdateTimeout s = .next { s with fw := { s.fw with upd := none } })
  ∧ (∀ t s, Safety.occurs .rigTxnTimeout s = true → s.rig.txn = some t →
    exec .rigTxnTimeout s = .next (let s1 : State := { s with rig := { s.rig with txn := none } }
      if t.mode = 1 then s1.setRigBank t.bank Bank.empty else s1))
  ∧ (∀ t s, Safety.occurs .rigActivation s = true → s.rig.txn = some t →
    ∃ u, exec .rigActivation s = .next u ∧ u.rig.txn = none ∧ u.rig.live = s.staged t
      ∧ u.rig.version = (s.rig.version + 1) % 4294967296)

/-! ## Halyard lines, the scan and enumeration (chapters 06 and 07) -/

/-- Line states (R147, R162): each row leaves the port's state with its record, and no other port's. -/
def Obligations.LineRowsComplete : Prop :=
  (∀ p s, Safety.occurs (.switchOnProbe p true) s = true →
    exec (.switchOnProbe p true) s
      = .next (putLine p { s.hp p with line := .short, probing := false, since := s.aon.nowUs } s))
  ∧ (∀ p s, Safety.occurs (.switchOnProbe p false) s = true →
    exec (.switchOnProbe p false) s = .next (s.setHp p { s.hp p with probing := false, since := (s.hp p).since + 2000 }))
  ∧ (∀ p s, Safety.occurs (.poweringEnd p) s = true →
    exec (.poweringEnd p) s = .next (putLine p { s.hp p with line := .ok, retries := 0 } s))
  ∧ (∀ p s, Safety.occurs (.lineShort p) s = true →
    exec (.lineShort p) s = .next (putLine p { s.hp p with line := .short, probing := false, since := s.aon.nowUs } s))
  ∧ (∀ p s, Safety.occurs (.lineForeign p) s = true →
    exec (.lineForeign p) s = .next (putLine p { s.hp p with line := .foreign, probing := false, since := s.aon.nowUs } s))
  ∧ (∀ p s, Safety.occurs (.shortRetry p) s = true →
    (let s1 := s.setHp p { s.hp p with retries := (s.hp p).retries + 1 }
     exec (.shortRetry p) s = .next (putLine p { s.hp p with
       retries := (s.hp p).retries + 1, line := .powering, probing := true, since := s.aon.nowUs } s1)))
  ∧ (∀ g cV s, Safety.occurs (.lowSupply g cV) s = true →
    exec (.lowSupply g cV) s = .next (forAll (groupPorts g) (fun p st =>
        if st.en 0x01 p && (st.hp p).line ≠ .lowSupply then
          putLine p { st.hp p with line := .lowSupply, under := (st.hp p).line } st else st)
      { s with pwr := { s.pwr with vhal := Tbl.wr 0 s.pwr.vhal g cV } }))
  ∧ (∀ g cV s, Safety.occurs (.lowSupplyRecovery g cV) s = true →
    exec (.lowSupplyRecovery g cV) s = .next (forAll (groupPorts g) (fun p st =>
        if (st.hp p).line = .lowSupply then putLine p { st.hp p with
          line := if (st.hp p).under = .powering then .ok else (st.hp p).under, probing := false, under := .off } st else st)
      { s with pwr := { s.pwr with vhal := Tbl.wr 0 s.pwr.vhal g cV } }))
  ∧ (∀ p cV s, Safety.occurs (.lowLine p cV) s = true →
    exec (.lowLine p cV) s = .next (putLine p { s.hp p with cV := cV, lowLine := true } s))
  ∧ (∀ p cV s, Safety.occurs (.lowLineClear p cV) s = true →
    exec (.lowLineClear p cV) s = .next (putLine p { s.hp p with cV := cV, lowLine := false } s))
  ∧ (∀ p h s, putLine p h s = { s with hal := (putLine p h s).hal, tt := (putLine p h s).tt }
      ∧ (putLine p h s).hal = Tbl.wr HalPort.dflt s.hal p h)

/-- The scan cycle (R155, R156, R171, R172, R181, R188, R191, R193). -/
def Obligations.ScanRowsComplete : Prop :=
  (∀ s, Safety.occurs .scanCycleStart s = true →
    (let s1 := takeOvr (scanActivation s)
     let n := (s.scan.cycle + 1) % 4294967296
     let s2 : State := { s1 with scan := { s1.scan with
       cycle := n, portCycle := n, active := true, startUs := s.aon.nowUs, startMs := s.optime, extra := false, begun := false,
       old := [], marks := 0, thr := [], shed := 0, noticed := 0, frontsDone := false, mastDone := false } }
     exec .scanCycleStart s = .next ((forAll (s2.enabled 0x01) startPort s2).setRdy 10)))
  ∧ (∀ s, Safety.occurs .scanCycleStart s = true →
    ∃ t, exec .scanCycleStart s = .next t ∧ t.scan.active = true ∧ t.scan.cycle = (s.scan.cycle + 1) % 4294967296
      ∧ t.scan.portCycle = (s.scan.cycle + 1) % 4294967296 ∧ t.scan.startUs = s.aon.nowUs ∧ t.rdy 10 = true)
  ∧ (∀ k s, Safety.occurs (.phaseSlotMark k) s = true →
    exec (.phaseSlotMark k) s = .next (emit (((s.hal.filter (fun e => e.2.taking && (e.2.line == .ok || e.2.line == .open_))).map
      (fun e => e.1)).map (fun p => Frame.mark p k)) { s with scan := { s.scan with marks := k + 1 } }))
  ∧ (∀ p k n rx s, Safety.occurs (.halyardSlotEnd p k n rx) s = true →
    (let a := k * 256 + n
     let c := slotClass s p a rx
     let real := c.1 ≠ 5 && c.1 ≠ 4
     let enabled := s.db 0x02 (1024 * p + a) 8 0 1 = 1
     let s1 := putLine p { s.hp p with
       slotPos := a + 1, heard := (s.hp p).heard || real, badSlots := (s.hp p).badSlots + b2n (c.1 = 1 || c.1 = 2),
       collideNow := (s.hp p).collideNow || c.1 = 3, stray := (s.hp p).stray + b2n (real && !enabled),
       line := if (s.hp p).line = .open_ && real then .ok else (s.hp p).line } s
     exec (.halyardSlotEnd p k n rx) s
       = .next (noticesIfDue (if enabled then placeRecord p (intakeOf s p a c.1 c.2) s1 else s1))))
  ∧ (∀ p dmA s, Safety.occurs (.scheduleEnd p dmA) s = true →
    (let h : HalPort := { s.hp p with
       dmA := dmA, taking := false, slotPos := 1024, collide := (s.hp p).collideNow,
       noisy := decide (s.df 0x01 p 10 2 < (s.hp p).badSlots),
       line := if (s.hp p).line = .ok && !(s.hp p).heard && dmA = 0 then .open_ else (s.hp p).line }
     let s1 := if s.scan.cycle ≠ 0 && (h.line = .ok || h.line = .open_) then portReady p (putLine p h s) else putLine p h s
     let s2 : State := { s1 with scan := { s1.scan with active := false } }
     exec (.scheduleEnd p dmA) s = .next (if s1.hal.any (fun e => e.2.taking) then s1
       else if !s.up || s.scan.cycle = 0 then s2
       else cycleTail (if s2.halReady then s2.setRdy 11 else s2))))
  ∧ (∀ r q s, Safety.occurs (.pointRecord []) s = true → (drainRegs s).scan.intake = r :: q →
    exec (.pointRecord []) s = .next (cycleTail (noticesIfDue (drainRegs (takeRecord r { drainRegs s with
      scan := { (drainRegs s).scan with intake := q } })))))
  ∧ (∀ c q s, Safety.occurs (.frontJob []) s = true → s.scan.jobs = c :: q →
    exec (.frontJob []) s = .next (cycleTail (frontJob c { s with scan := { s.scan with jobs := q } })))
  ∧ (∀ late cyc ms s, Safety.occurs (.trendSnapshot late) s = true → s.scan.snap = some (cyc, ms) →
    exec (.trendSnapshot late) s = .next { s with
      trend := { s.trend with streams := s.trend.streams.map (fun e => if e.2.takes cyc then (e.1, e.2.snap cyc ms
        (late || (decide (s.scan.cycle ≠ cyc) && decide (s.scan.startUs + 20000 ≤ s.aon.nowUs))) s) else e) }
      scan := { s.scan with snap := none } })
  ∧ (∀ n s, Safety.occurs (.trendSpill n) s = true →
    (let v := s.stream n
     let sp := v.spilled ++ v.hold.filter (fun g => decide (v.spilledTo < g.seq * v.groupLen)
       && decide (g.seq * v.groupLen ≤ v.spilledTo + 4096))
     exec (.trendSpill n) s = .next (s.setStream n { v with
       spilledTo := v.spilledTo + 4096, spilled := sp.drop (sp.length - v.ringGroups) })))

/-- Enumeration (R154, R158, R159): a run starts with its first SEARCH, 50 ms after the switch-on of a line that was off; an
exchange moves the run on, and one without a good answer is repeated; the end of a run verifies an ASSIGN by a cycle of the
port and answers the command that asked. -/
def Obligations.EnumerationRowsComplete : Prop :=
  (∀ p asg s, Safety.occurs (.enumerateRunStart p) s = true → (s.hp p).run = none → (s.hp p).asked = some asg →
    (let r : EnumRun := { assign := asg, startUs := s.aon.nowUs, stack := [[]], windows := [], wait := .power }
     let s1 := putLine p { s.hp p with asked := none, run := some r, sum := EnumSum.zero, recs := [] } s
     ((s.hp p).isOn = true → exec (.enumerateRunStart p) s = .next (sendSearch p [] { r with stack := [] } s1))
     ∧ ((s.hp p).isOn = false → exec (.enumerateRunStart p) s = .next (switchOn p s1))))
  ∧ (∀ p r s, Safety.occurs (.enumerateRunStart p) s = true → (s.hp p).run = some r → r.stack = [[]] → r.windows = [] →
    exec (.enumerateRunStart p) s = .next (sendSearch p [] { r with stack := [] } s))
  ∧ (∀ p cl r pfx s, Safety.occurs (.enumerateExchange p (.search cl)) s = true → (s.hp p).run = some r → r.wait = .search pfx →
    exec (.enumerateExchange p (.search cl)) s = .next (enumGo enumFuel p (s.setHp p { s.hp p with run := some { r with
      windows := (List.range 16).map (fun i => (pfx ++ [i], ((cl[i]?).map presence).getD 0)) } })))
  ∧ (∀ p bs ident addr r q again s, Safety.occurs (.enumerateExchange p (.identify (some bs))) s = true →
    (s.hp p).run = some r → r.wait = .identify q again → bs.length = 11 → crc8 (bs.take 10) = fld bs 10 1 →
    ident = fld bs 0 8 → addr = fld bs 8 2 →
    exec (.enumerateExchange p (.identify (some bs))) s = .next (enumRecord p ident addr s))
  ∧ (∀ p reply r q s, Safety.occurs (.enumerateExchange p (.identify reply)) s = true → (s.hp p).run = some r →
    r.wait = .identify q false → identifyOf reply = none →
    exec (.enumerateExchange p (.identify reply)) s
      = .next (emit [depthFrame p 0x21 q] (s.setHp p { s.hp p with run := some { r with wait := .identify q true } })))
  ∧ (∀ p bs r ident want again s, Safety.occurs (.enumerateExchange p (.assign (some bs))) s = true →
    (s.hp p).run = some r → r.wait = .assign ident want again → bs.length = 3 →
    crc8 (le 2 ident ++ bs.take 2) = fld bs 2 1 →
    exec (.enumerateExchange p (.assign (some bs))) s = .next (assigned p ident want s))
  ∧ (∀ p ack r ident want s, Safety.occurs (.enumerateExchange p (.assign ack)) s = true → (s.hp p).run = some r →
    r.wait = .assign ident want false → ackGood ident ack = false →
    exec (.enumerateExchange p (.assign ack)) s
      = .next (emit [depthFrame p 0x21 (nibbles ident)] (s.setHp p { s.hp p with run := some { r with wait := .reidentify ident want } })))
  ∧ (∀ p rx r c s, Safety.occurs (.enumerateRunEnd p rx) s = true → (s.hp p).run = some r →
    s.host.running.find? (fun d => d.op == 0x0403 && keyIdx (fld d.payload 0 4) == p) = some c →
    (let h : HalPort := { s.hp p with
       run := none, recs := if r.assign then verifyRecs s p (goodAddrs s rx) (s.hp p).recs else (s.hp p).recs
       sum := { (s.hp p).sum with durationMs := (s.aon.nowUs - r.startUs) / 1000 } }
     let s1 := putLine p h (if r.assign then emit [convertFrame s p s.scan.portCycle, .mark p 0, .mark p 1, .mark p 2, .mark p 3] s else s)
     exec (.enumerateRunEnd p rx) s = .next (finishRun c (Res.ok (enumSummary s1 p)) s1)))

/-! ## The tick and the plant (chapters 08 to 11) -/

/-- TICK (R22): readings are taken, the ports send, the domains with work hoist, the loops and the latch do their steps, and
250 µs pass, whatever those do. -/
def Obligations.TickAdvancesTime : Prop :=
  ∀ e s, Safety.occurs (.tick e) s = true →
    ∃ t, exec (.tick e) s = .next t ∧ t.aon.nowUs = s.aon.nowUs + 250 ∧ t.up = true
      ∧ t = pass (tickWork e (domainEdge (portsIfDue (forAll [0, 1, 2, 3, 4] sendNext (takeMeas e.meas s)))))

/-- The rows that step the plant: overruns, Masts, the ledger, dryers and routes (R214, R231, R235, R242, R245, R260). -/
def Obligations.PlantRowsComplete : Prop :=
  (∀ l s, Safety.occurs (.loopOverrun l) s = true →
    (let lp := s.loop l
     let enter := decide (3 ≤ lp.consec + 1) && !lp.fbOver
     let n := satInc 0xFFFFFFFF lp.overruns
     let s1 := s.setLoop l { lp with
       overruns := n, consec := satInc 255 lp.consec, late := lp.late - 1, fbGood := 0, fbOver := lp.fbOver || enter,
       fb := lp.fb || enter }
     exec (.loopOverrun l) s = .next (if enter then abortInj l (raiseFlags l (fOverrun ||| fFallback) (if lp.fb then 0 else 1)
       (ttOccur 0 0x05C1 (dkey 0x05 l) (le 4 n) s1)) else raiseFlags l fOverrun 0 s1)))
  ∧ (∀ s, Safety.occurs .mastEvaluation s = true →
    (let s1 := forAll (s.enabled 0x04) mastEvaluate s
     exec .mastEvaluation s = .next ({ s1 with scan := { s1.scan with mastDone := true } }.setRdy 13)))
  ∧ (∀ s, Safety.occurs .mastTimedCheck s = true →
    (let s1 := forAll (s.enabled 0x04) mastCheck s
     exec .mastTimedCheck s = .next { s1 with masts := { s1.masts with checkS := (s.aon.nowUs + 249) / 1000000 } }))
  ∧ (∀ s, Safety.occurs .ledgerSave s = true →
    exec .ledgerSave s = .next { s with masts := { s.masts with
      saved := s.masts.led, savedAt := s.optime, saveUs := s.aon.nowUs } })
  ∧ (∀ s, Safety.occurs .dryerEvaluation s = true →
    (let s1 := forAll (s.enabled 0x07) (dryOne ((s.aon.nowUs - s.dryers.evalAt) / 1000)) s
     exec .dryerEvaluation s = .next ({ s1 with dryers := { s1.dryers with evalAt := s.aon.nowUs } }.setRdy 14)))
  ∧ (∀ s, Safety.occurs .dryerSaveRefresh s = true →
    (let s1 := forAll (s.enabled 0x07) drySave s
     exec .dryerSaveRefresh s = .next { s1 with dryers := { s1.dryers with saveAt := s.aon.nowUs } }))
  ∧ (∀ s, Safety.occurs .routeEvaluation s = true →
    (let es := s.enabled 0x09
     let s1 := forAll es elemRead s
     let s2 := forAll (s1.enabled 0x08) (routeOne s1 ((s.aon.nowUs - s.routes.evalAt) / 1000)) s1
     let s3 := forAll es elemDrive s2
     exec .routeEvaluation s = .next ({ s3 with routes := { s3.routes with evalAt := s.aon.nowUs } }.setRdy 15)))

/-- LOCKOUT (R234): the dies take what they sense, hold it for 100 ms after its end, and a disagreement is recorded. Analogue
outputs: SHORT forces 0 V, OPEN is a flag (R290). -/
def Obligations.LockoutAndAnalogueRowsComplete : Prop :=
  (∀ m s, Safety.occurs (.lockoutChange m) s = true →
    exec (.lockoutChange m) s = .next (lockoutSense (m % 8) { s with io := { s.io with lockLand := m % 8 } }))
  ∧ (∀ s, Safety.occurs .lockoutRelease s = true →
    exec .lockoutRelease s = .next (forcesNow (forAll [1, 2, 3] (fun d st =>
      if (st.die d).force && !(st.die d).sense && st.due ((st.die d).senseAt + 100000) then
        st.setDie d { st.die d with force := false } else st) s)))
  ∧ (∀ m s, Safety.occurs (.lockoutDisagree m) s = true →
    exec (.lockoutDisagree m) s = .next (lockRecord 0x0681 m { s with io := { s.io with disagreed := true } }))
  ∧ (∀ i s, Safety.occurs (.aoShort i) s = true →
    exec (.aoShort i) s = .next (ttOccur 1 0x09C4 (dkey 0x0D i) [1#8] (s.setAo i { s.ao i with short := true, value := 0 })))
  ∧ (∀ i s, Safety.occurs (.aoOpen i true) s = true →
    exec (.aoOpen i true) s = .next (ttOccur 1 0x09C4 (dkey 0x0D i) [2#8] (s.setAo i { s.ao i with open_ := true })))
  ∧ (∀ i s, Safety.occurs (.aoOpen i false) s = true →
    exec (.aoOpen i false) s = .next (s.setAo i { s.ao i with open_ := false }))

/-! ## The front end (chapter 12) -/

/-- Results, sources, wiring and the scan plane (R272, R277 to R281, R285). -/
def Obligations.FrontEndRowsComplete : Prop :=
  (∀ c i s, Safety.occurs (.scanPlaneStep c) s = true → Safety.nextScan c s = some i →
    exec (.scanPlaneStep c) s = .next ((s.setConv c { s.conv c with
        cur := some i, prev := (s.conv c).cur, t0 := s.aon.nowUs, busy := true }).setAfe (dkey 0x10 i)
      { s.afe (dkey 0x10 i) with restarts := 0, second := false }))
  ∧ (∀ y x sig v o s, Safety.occurs (.conversionResult y) s = true → Safety.goodValue y s = some (x, sig, v, o) →
    exec (.conversionResult y) s = .next (goodResult y.ref x sig v o (s.setAfe y.ref { s.afe y.ref with
      openIn := if s.testRuns y.ref then false else (s.afe y.ref).openIn, tests := ((s.afe y.ref).tests + 1) % 16,
      exc := if fld (s.afd y.ref) 2 1 = 0xFF then 0 else 1, shortAt := none })))
  ∧ (∀ c i s, Safety.occurs (.scanSwitchStuck c) s = true → (s.conv c).cur = some i →
    exec (.scanSwitchStuck c) s = .next (forAll (s.scanList c)
      (fun j st => judgeAll (dkey 0x10 j) (setQual (dkey 0x10 j) 5 st))
      (ttOccur 1 0x0AC1 (dkey 0x10 i) [BitVec.ofNat 8 c] (s.setConv c { s.conv c with stuck := true, busy := false }))))
  ∧ (∀ r s, Safety.occurs (.excOpen r) s = true →
    exec (.excOpen r) s = .next (faultResult r 4 (s.setAfe r { s.afe r with exc := 2 })))
  ∧ (∀ r s, Safety.occurs (.excShort r) s = true →
    exec (.excShort r) s = .next (forAll (s.sharers r) (fun k st => faultResult k 4 (st.setAfe k { st.afe k with
      exc := 3, shortAt := some (s.aon.nowUs, (s.afe r).exc == 4) })) s))
  ∧ (∀ r s, Safety.occurs (.excRetry r) s = true →
    exec (.excRetry r) s = .next (forAll (s.sharers r) (fun k st => st.setAfe k { st.afe k with exc := 4 }) s))
  ∧ (∀ r s, Safety.occurs (.inputCommonMode r) s = true → exec (.inputCommonMode r) s = .next (faultResult r 5 s))
  ∧ (∀ r s, Safety.occurs (.shuntOvercurrent r) s = true →
    exec (.shuntOvercurrent r) s = .next (faultResult r 5 (s.setAfe r { s.afe r with shuntOpen := true })))
  ∧ (∀ r second s, Safety.occurs (.rangeClip r second) s = true →
    exec (.rangeClip r second) s = .next (faultResult r 5 s))
  ∧ (∀ r s, Safety.occurs (.channelStale r) s = true → exec (.channelStale r) s = .next (judgeAll r (setQual r 6 s)))
  ∧ (∀ s, Safety.occurs .afeCalibration s = true →
    (let s1 : State := { s with start := { s.start with afeCalibrating := false }, io := { s.io with convs := [] } }
     exec .afeCalibration s = .next (if s1.up && s1.rdy 4 then s1.setRdy 9 else s1)))
  ∧ (∀ r q s, faultResult r q s = endStep r (judgeAll r (setQual r q (s.setAfe r { s.afe r with
      results := ((s.afe r).results + 1) % 4294967296, restarts := 0, second := false, settle := false
      range := if (s.afe r).toLowest then afeLowest (s.afd r) else (s.afe r).range
      arCount := if (s.afe r).toLowest then 0 else (s.afe r).arCount, toLowest := false }))))

/-! ## Outputs (chapters 12 to 15) -/

/-- 24 V channels (R296 to R301): a trip turns its switch off, keeps its fault and writes its record. -/
def Obligations.DioRowsComplete : Prop :=
  (∀ i land s, Safety.occurs (.dioInputChange i land) s = true →
    (let s1 := s.setDio i { s.dio i with land := land, comp := land, agreeAt := s.aon.nowUs }
     exec (.dioInputChange i land) s = .next (if !s.dioLand i && s1.dioLand i then
       s1.setDio i { s1.dio i with edges := ((s1.dio i).edges + 1) % 4294967296 } else s1)))
  ∧ (∀ i mA s, Safety.occurs (.dioOverload i mA) s = true → exec (.dioOverload i mA) s = .next (dioTrip i 1 mA s))
  ∧ (∀ i mA s, Safety.occurs (.dioThermal i mA) s = true →
    exec (.dioThermal i mA) s = .next ((dioTrip i 2 mA s).setDio i { (dioTrip i 2 mA s).dio i with hot := true }))
  ∧ (∀ i hot s, Safety.occurs (.dioRetry i hot) s = true →
    exec (.dioRetry i hot) s = .next (if (s.dio i).fault = 2 && hot then s.setDio i { s.dio i with hot := true }
      else (let run := seriesNow (s.dio i).seriesAt s.aon.nowUs
            driveDio i (s.setDio i { s.dio i with
              fault := 0, hot := hot, seriesAt := run, retries := if run.isSome then (s.dio i).retries + 1 else 0 }))))
  ∧ (∀ g mA i s, Safety.occurs (.dioGroupShed g mA) s = true →
    (((List.range 24).map (fun j => 24 * g + j)).filter (fun i => s.dioOut i && (s.dio i).on)) = [i] →
    exec (.dioGroupShed g mA) s
      = .next (dioTrip i 3 (s.dio i).mA (s.setDgrp g { s.dgrp g with shedAt := some s.aon.nowUs })))
  ∧ (∀ i s, Safety.occurs (.dioReadbackHigh i) s = true →
    (let s1 := s.setDio i { s.dio i with high := true, highAt := s.aon.nowUs }
     exec (.dioReadbackHigh i) s = .next (if (s.dio i).fault = 0 && (s.dio i).test.isNone then startTest i s1 else s1)))
  ∧ (∀ i s, Safety.occurs (.dioExtSupplyEnd i) s = true →
    exec (.dioExtSupplyEnd i) s = .next (s.setDio i { s.dio i with
      high := false, fault := if (s.dio i).fault = 4 || (s.dio i).fault = 5 then 0 else (s.dio i).fault, test := none }))
  ∧ (∀ i o s, Safety.occurs (.dioOpenFlag i o) s = true →
    exec (.dioOpenFlag i o) s = .next (s.setDio i { s.dio i with open_ := o }))
  ∧ (∀ g cV s, Safety.occurs (.dioSupplyLow g cV) s = true →
    (let s1 : State := { s with pwr := { s.pwr with vdio := Tbl.wr 0 s.pwr.vdio g cV } }
     exec (.dioSupplyLow g cV) s = .next (s1.setDgrp g { s1.dgrp g with low := decide (cV < 1000) })))
  ∧ (∀ i a rest fell s, Safety.occurs (.parallelTestPulse i fell) s = true → (s.dio i).test = some (a :: rest) →
    exec (.parallelTestPulse i fell) s = .next (if fell && !s.dioTestBar a then nextTest i (dioVerdict i (some a) s)
      else if rest.isEmpty then nextTest i (dioVerdict i none s)
      else s.setDio i { s.dio i with test := some rest, pulseAt := (s.dio i).pulseAt + 1300 }))
  ∧ (∀ i s, Safety.occurs (.dioRetrySeriesEnd i) s = true →
    exec (.dioRetrySeriesEnd i) s = .next (s.setDio i { s.dio i with seriesAt := none, retries := 0 }))
  ∧ (∀ i code mA s,
    (let now := s.aon.nowUs
     let auto := (code == 1 || code == 2) && s.db 0x0C i 1 6 1 == 1
     let run := seriesNow (s.dio i).seriesAt now
     let done := if run.isSome then (s.dio i).retries else 0
     dioTrip i code mA s = dioRecord2 i code mA none (endTests i (s.setDio i { (s.dio i).turnOff now with
       fault := code, tripAt := now, retries := done, latched := !auto || decide (3 ≤ done)
       seriesAt := if auto then some (run.getD now) else run }))))

/-- Loads (R309, R310, R314, R319, R320). -/
def Obligations.LoadRowsComplete : Prop :=
  (∀ q s, Safety.occurs (.fuseModelStep q) s = true →
    exec (.fuseModelStep q) s = .next (forAll (s.enabled 0x0B) (fun i st => fuseStep i (Tbl.rd 0 q i) st)
      { s with io := { s.io with fuseAt := s.io.fuseAt + 1000 } }))
  ∧ (∀ v s, v.length = 4 → exec (.lampDutyUpdate v) s = .next (forAll (s.enabled 0x0B) (fun i st =>
      if st.loadLive i && (st.load i).on && st.db 0x0B i 0 1 1 = 1 && decide (i / 12 < 4) then
        (let w := if (st.bank (i / 12)).st = 1 then 1024 else lampDuty (fld (st.ld i) 16 2) (v.getD (i / 12) 0)
         st.setLoad i { st.load i with duty := w })
      else st) s))
  ∧ (∀ i mA us s, Safety.occurs (.loadShort i { mA := mA, us := us }) s = true →
    exec (.loadShort i { mA := mA, us := us }) s = .next (if s.lampOpen i && (s.load i).clampUs + us < 5000 then
      s.setLoad i { s.load i with clampUs := (s.load i).clampUs + us } else loadTrip i 1 mA s))
  ∧ (∀ i mA s, Safety.occurs (.loadThermal i mA) s = true →
    exec (.loadThermal i mA) s = .next ((loadTrip i 3 mA s).setLoad i { (loadTrip i 3 mA s).load i with hot := true }))
  ∧ (∀ i hot s, Safety.occurs (.loadRetry i hot) s = true →
    exec (.loadRetry i hot) s = .next (if (s.load i).fault = 3 && hot then s.setLoad i { s.load i with hot := true }
      else (let run := seriesNow (s.load i).seriesAt s.aon.nowUs
            driveLoad i (s.setLoad i { s.load i with
              fault := 0, hot := hot, seriesAt := run, retries := if run.isSome then (s.load i).retries + 1 else 0 }))))
  ∧ (∀ i mA s, Safety.occurs (.loadReverse i mA) s = true →
    exec (.loadReverse i mA) s = .next ((loadTrip i 6 mA s).setLoad i { (loadTrip i 6 mA s).load i with
      senseCv := max ((loadTrip i 6 mA s).load i).senseCv (Tbl.rd 0 s.pwr.vbb (i / 12) + 51) }))
  ∧ (∀ i s, Safety.occurs (.loadExtSupply i true) s = true →
    exec (.loadExtSupply i true) s = .next (loadRecord2 i 5 (s.load i).rms (s.setLoad i { s.load i with
      fault := 5, ext := true, highAt := s.aon.nowUs, latched := true })))
  ∧ (∀ i s, Safety.occurs (.loadExtSupply i false) s = true →
    exec (.loadExtSupply i false) s = .next (s.setLoad i { s.load i with
      ext := false, fault := if (s.load i).fault = 5 then 0 else (s.load i).fault }))
  ∧ (∀ i o s, Safety.occurs (.loadOpenFlag i o) s = true →
    exec (.loadOpenFlag i o) s = .next (s.setLoad i { s.load i with open_ := o }))
  ∧ (∀ i s, Safety.occurs (.channelRestartDelay i) s = true → exec (.channelRestartDelay i) s = .next (driveLoad i s))
  ∧ (∀ i s, Safety.occurs (.loadRetrySeriesEnd i) s = true →
    exec (.loadRetrySeriesEnd i) s = .next (s.setLoad i { s.load i with seriesAt := none, retries := 0 }))
  ∧ (∀ i code mA s,
    (let now := s.aon.nowUs
     let auto := (code == 1 || code == 3) && s.db 0x0B i 0 5 1 == 1
     let run := seriesNow (s.load i).seriesAt now
     let done := if run.isSome then (s.load i).retries else 0
     loadTrip i code mA s = bankDone (i / 12) (loadRecord2 i code mA (s.setLoad i { (s.load i).turnOff now with
       fault := code, tripAt := now, retries := done, latched := !auto || decide (3 ≤ done)
       seriesAt := if auto then some (run.getD now) else run
       trips := if code ≤ 3 then ((s.load i).trips + 1) % 4294967296 else (s.load i).trips }))))

/-- Banks (R316 to R318). -/
def Obligations.BankRowsComplete : Prop :=
  (∀ b cA s, Safety.occurs (.bankShed b cA) s = true →
    (let s1 := shedLoad (bankChans b) (s.setBank b { s.bank b with cA := cA })
     exec (.bankShed b cA) s = .next (s1.setBank b { s1.bank b with shedAt := some s.aon.nowUs })))
  ∧ (∀ l s, Safety.occurs (.moduleShedCheck l) s = true →
    (let s1 := forAll [0, 1, 2, 3] (fun b st => st.setBank b { st.bank b with cA := l.getD b (st.bank b).cA })
       { s with io := { s.io with modAt := s.aon.nowUs } }
     let due := match s.io.modShedAt with | none => true | some t => s.due (t + 1000000)
     exec (.moduleShedCheck l) s = .next (if 6000 < ([0, 1, 2, 3].map (fun b => (s1.bank b).cA)).sum && due then
       (let s2 := shedLoad (List.range 48) s1
        { s2 with io := { s2.io with modShedAt := some s.aon.nowUs } }) else s1)))
  ∧ (∀ b cV s, Safety.occurs (.bankHold b cV) s = true →
    exec (.bankHold b cV) s = .next (forAll (bankChans b) (fun i st =>
      if (st.load i).on then st.setLoad i { st.load i with duty := 1024 } else st) (bankTo b 1 (setVbb b cV s))))
  ∧ (∀ b cV s, Safety.occurs (.bankHoldExit b cV) s = true →
    exec (.bankHoldExit b cV) s = .next (bankTo b 0 (setVbb b cV s)))
  ∧ (∀ b cV s, Safety.occurs (.bankUndervoltage b cV) s = true →
    exec (.bankUndervoltage b cV) s = .next (forAll (bankChans b) (fun i st =>
      st.setLoad i ((st.load i).turnOff st.aon.nowUs)) (bankTo b 2 (setVbb b cV s))))
  ∧ (∀ b cV s, Safety.occurs (.bankRestart b cV) s = true →
    (let s2 := bankTo b 3 (setVbb b cV (s.setBank b { s.bank b with risen := true }))
     exec (.bankRestart b cV) s = .next (bankDone b (forAll ((bankChans b).filter s2.loadLive) driveLoad s2))))

/-- Fans (R326, R331, R334 to R337, R339). -/
def Obligations.FanRowsComplete : Prop :=
  (∀ s, Safety.occurs .fanDutyUpdate s = true →
    exec .fanDutyUpdate s = .next (forAll (s.enabled 0x0A) (formFan true)
      { s with io := { s.io with fanAt := s.io.fanAt + 10000 } }))
  ∧ (∀ i n s, Safety.occurs (.tachEdge i n) s = true →
    (let c := s.fan i
     let iv := if c.edged && decide (n < 100000000) then (n :: c.ivals).take (s.df 0x0A i 8 1) else []
     exec (.tachEdge i n) s = .next (fanSettle i (fanProve i (s.setFan i { c with
       ivals := iv, edged := true, edgeAt := s.aon.nowUs,
       rpm := if iv.length < s.df 0x0A i 8 1 || iv.sum = 0 then 0 else min 30000 (divRound 3000000000 iv.sum).toNat })))))
  ∧ (∀ i s, Safety.occurs (.tachTimeout i) s = true →
    exec (.tachTimeout i) s = .next (fanSettle i (s.setFan i { s.fan i with ivals := [], rpm := 0, edged := false })))
  ∧ (∀ i s, Safety.occurs (.kickEnd i) s = true → exec (.kickEnd i) s = .next (fanSettle i (fanKicked i s)))
  ∧ (∀ i s, Safety.occurs (.provingTimeout i) s = true → (s.fan i).tries < 1 + fld (s.fd i) 9 1 →
    exec (.provingTimeout i) s = .next (fanSettle i (s.setFan i { s.fan i with st := 4, waitAt := s.aon.nowUs })))
  ∧ (∀ i s, Safety.occurs (.provingTimeout i) s = true → 1 + fld (s.fd i) 9 1 ≤ (s.fan i).tries →
    exec (.provingTimeout i) s = .next (fanSettle i ((fanFault i 1 s).setFan i { (fanFault i 1 s).fan i with
      st := if s.fanClass i = 2 then 3 else 5 })))
  ∧ (∀ i s, Safety.occurs (.retryWaitEnd i) s = true →
    exec (.retryWaitEnd i) s = .next (fanSettle i (fanKick i ((s.fan i).tries + 1) s)))
  ∧ (∀ i s, Safety.occurs (.tachLoss i) s = true →
    exec (.tachLoss i) s = .next (fanSettle i (if fanKeeps (s.fd i) then fanFault i 2 s
      else (fanFault i 2 s).setFan i { (fanFault i 2 s).fan i with st := 4, tries := 0, waitAt := s.aon.nowUs })))
  ∧ (∀ i s, Safety.occurs (.tachLossClear i) s = true →
    exec (.tachLossClear i) s = .next (fanSettle i (s.setFan i { s.fan i with fault := 0 })))
  ∧ (∀ i s, Safety.occurs (.pwmShort i) s = true →
    exec (.pwmShort i) s = .next (fanSettle i ((fanFault i 3 s).setFan i { (fanFault i 3 s).fan i with st := 0 })))
  ∧ (∀ i s, Safety.occurs (.fanTableUpdate i) s = true →
    (let e := s.afe (fld (s.fd i) 48 4)
     let up := tblAt (s.fd i) e.value
     let dn := tblAt (s.fd i) (e.value + fld (s.fd i) 54 2)
     exec (.fanTableUpdate i) s = .next (s.setFan i { s.fan i with
       tbl := (if ((s.fan i).tbl : Int) < up then up else if dn < (s.fan i).tbl then dn else ((s.fan i).tbl : Int)).toNat,
       tblVal := e.value })))
  ∧ (∀ s, Safety.occurs .fullOnWatchdogExpiry s = true →
    exec .fullOnWatchdogExpiry s = .next { s with io := { s.io with wdZero := true } })
  ∧ (∀ i code s, fanFault i code s = ttOccur 1 0x09C3 (dkey 0x0A i) ([BitVec.ofNat 8 code,
      BitVec.ofNat 8 (min (s.fan i).tries 255)] ++ le 2 (s.fan i).rpm ++ le 2 (s.fan i).driven)
      (s.setFan i { s.fan i with fault := code }))
  ∧ (∀ i s, fanSettle i s = s.setFan i (fanWatch (s.tachEn i) (s.fd i) s.aon.nowUs { s.fan i with
      driven := fanDriven (s.fd i) (s.fan i) }))

/-! ## The Telltale, supplies and domains (chapters 16 and 17) -/

/-- The Telltale's own rows (R347 to R350). -/
def Obligations.TelltaleRowsComplete : Prop :=
  (∀ o s, Safety.occurs (.ttOccurrence o) s = true → s.pwr.phase = .run →
    exec (.ttOccurrence o) s = .next (ttLimit s.optime o.code o.source (fit 12 o.data) s))
  ∧ (∀ s, Safety.occurs .ttRecordWrite s = true → s.tt.lost ≠ 0 → exec .ttRecordWrite s = .next (ttOverflow s))
  ∧ (∀ o q s, Safety.occurs .ttRecordWrite s = true → s.tt.lost = 0 → s.tt.fifo = o :: q →
    exec .ttRecordWrite s = .next (ttHeld (ttWriteOcc o { s with tt := { s.tt with fifo := q } })))
  ∧ (∀ code s, Safety.occurs (.ttTokenRefill code) s = true → (s.ttBkt code).supp = 0 →
    exec (.ttTokenRefill code) s = .next (s.setBkt code { s.ttBkt code with
      spent := (s.ttBkt code).spent - 1, refillAt := (s.ttBkt code).refillAt + (s.ttLim code).refillMs * 1000 }))
  ∧ (∀ code s, Safety.occurs (.ttTokenRefill code) s = true → (s.ttBkt code).supp ≠ 0 → (s.ttBkt code).heldAt = none →
    (let t := (s.ttBkt code).refillAt + (s.ttLim code).refillMs * 1000
     exec (.ttTokenRefill code) s = .next (ttSummary (t / 1000) code (s.setBkt code { s.ttBkt code with refillAt := t }))))

/-- Supplies, crystals and OPTIME (R362, R363, R365, R368). -/
def Obligations.SupplyRowsComplete : Prop :=
  (∀ cV s, Safety.occurs (.vsupSag cV) s = true →
    exec (.vsupSag cV) s = .next { s with pwr := { s.pwr with vsup := cV, sag := true, sagAt := s.aon.nowUs, sags := satInc 0xFFFFFFFF s.pwr.sags } })
  ∧ (∀ cV s, Safety.occurs (.vsupSagEnd cV) s = true →
    exec (.vsupSagEnd cV) s = .next { s with pwr := { s.pwr with vsup := cV, sag := false } })
  ∧ (∀ cV s, Safety.occurs (.vioLow cV) s = true →
    exec (.vioLow cV) s = .next (lockoutSense 7 { s with pwr := { s.pwr with vio := cV, vioLow := true } }))
  ∧ (∀ cV s, Safety.occurs (.vioRecovery cV) s = true →
    exec (.vioRecovery cV) s = .next (lockoutSense s.io.lockLand { s with pwr := { s.pwr with vio := cV, vioLow := false } }))
  ∧ (∀ s, exec .xt25Fail s = .next { s with pwr := { s.pwr with xt25Fail := true } })
  ∧ (∀ s, exec .xt32Fail s = .next { s with pwr := { s.pwr with xt32Fail := true } })
  ∧ (∀ s, exec (.crystalRecovery true) s = .next { s with pwr := { s.pwr with xt25Fail := false } })
  ∧ (∀ s, exec (.crystalRecovery false) s = .next { s with pwr := { s.pwr with xt32Fail := false } })
  ∧ (∀ s, Safety.occurs .optimeSave s = true →
    exec .optimeSave s = .next { s with aon := { s.aon with
      savedOptime := s.optime, savedAtFail := false, optimeSavedAt := s.aon.nowUs } })

/-- Clock domains (R31, R32): a hoist starts the PLL and counts, a furl keeps the PLL, which stops 10 ms later. -/
def Obligations.DomainRowsComplete : Prop :=
  (∀ d s, Safety.occurs (.domainHoist d) s = true →
    (let v := s.domain d
     let s1 := s.setDomain d { v with
       hoisted := true, pll := true, hoists := (v.hoists + 1) % 4294967296,
       locks := if v.pll then v.locks else (v.locks + 1) % 4294967296, at_ := s.aon.nowUs }
     let s2 : State := if d = 9 then { s1 with start := { s1.start with afeCalibrating := true } } else s1
     exec (.domainHoist d) s = .next (s2.setDomain d { s2.domain d with workAt := s.aon.nowUs })))
  ∧ (∀ d s, Safety.occurs (.domainFurl d) s = true →
    exec (.domainFurl d) s = .next (s.setDomain d { s.domain d with hoisted := false, at_ := s.aon.nowUs }))
  ∧ (∀ d s, Safety.occurs (.pllStop d) s = true →
    exec (.pllStop d) s = .next (s.setDomain d { s.domain d with pll := false }))

/-! ## Resets and starts (chapter 18) -/

/-- The refresh of the dies, logic silence, the keep window and the scrubber (R30, R387, R389, R421). -/
def Obligations.WatchRowsComplete : Prop :=
  (∀ s, Safety.occurs .bosunRefresh s = true →
    exec .bosunRefresh s = .next (forAll [1, 2, 3] (fun d st =>
      st.setDie d { st.die d with refreshAt := st.aon.nowUs, silent := false })
      { s with start := { s.start with refreshAt := s.aon.nowUs } }))
  ∧ (∀ d s, Safety.occurs (.logicSilence d) s = true →
    exec (.logicSilence d) s = .next (applyDie d (s.setDie d { s.die d with silent := true })))
  ∧ (∀ d s, Safety.occurs (.keepWindowExpiry d) s = true →
    exec (.keepWindowExpiry d) s = .next (applyDie d (s.setDie d { s.die d with keeping := false, keepOver := true })))
  ∧ (∀ l s, Safety.occurs (.scrubBlock l) s = true →
    exec (.scrubBlock l) s = .next (forAll l scrubBad { s with aon := { s.aon with
      scrubPos := (s.aon.scrubPos + 1) % 8192, scrubLeft := s.aon.scrubLeft - 1, scrubAt := s.aon.nowUs } }))

/-- Cold resets (R362, R376, R378, R390): every row that brings one leaves the block in it with nothing driven and no
session. -/
def Obligations.ColdResetRowsComplete : Prop :=
  (∀ cV s, Safety.occurs (.powerFail cV) s = true →
    ∃ t, exec (.powerFail cV) s = .next t ∧ t.pwr.phase = .cold ∧ Safety.allOff t ∧ t.sess = [] ∧ t.start.ready = 0
      ∧ t.pwr.coldKind = 0 ∧ t.pwr.saveDone = true ∧ t.aon.savedOptime = s.optime ∧ t.aon.savedAtFail = true
      ∧ t.masts.saved = s.masts.led)
  ∧ (∀ s, Safety.occurs .nrstAssert s = true →
    ∃ t, exec .nrstAssert s = .next t ∧ t.pwr.phase = .cold ∧ Safety.allOff t ∧ t.sess = [] ∧ t.start.ready = 0
      ∧ t.pwr.coldKind = 3 ∧ t.pwr.nrstLow = true)

/-- Warm resets (R17, R377, R379, R385, R388): the control die restarts and WARM_RUN rises. -/
def Obligations.WarmResetRowsComplete : Prop :=
  (∀ s, Safety.occurs .lockstepMismatch s = true →
    ∃ t, exec .lockstepMismatch s = .next t ∧ t.pwr.phase = .warm ∧ t.start.warmRun = s.start.warmRun + 1
      ∧ t.start.kind = 0x13 ∧ t.sess = [] ∧ t.start.ready = 0 ∧ t.host.queue = [])
  ∧ (∀ s, Safety.occurs .bosunWatchdog s = true →
    ∃ t, exec .bosunWatchdog s = .next t ∧ t.pwr.phase = .warm ∧ t.start.warmRun = s.start.warmRun + 1
      ∧ t.start.kind = 0x15 ∧ t.sess = [] ∧ t.start.ready = 0 ∧ t.host.queue = [])

/-- Starts (R376 to R378, R380, R381, R385, R388): the module runs, POWERCYCLE rises in a cold start only, a warm start ends
WARM_RUN. -/
def Obligations.StartRowsComplete : Prop :=
  (∀ cV s, Safety.occurs (.coldStart cV) s = true →
    ∃ t, exec (.coldStart cV) s = .next t ∧ t.pwr.phase = .run
      ∧ t.aon.powercycle = (s.aon.powercycle + 1) % 4294967296)
  ∧ (∀ s, Safety.occurs .nrstRelease s = true →
    ∃ t, exec .nrstRelease s = .next t ∧ t.pwr.phase = .run
      ∧ t.aon.powercycle = (s.aon.powercycle + 1) % 4294967296)
  ∧ (∀ s, Safety.occurs .adoption s = true →
    ∃ t, exec .adoption s = .next t ∧ t.pwr.phase = .run ∧ t.start.warmRun = 0
      ∧ t.aon.powercycle = s.aon.powercycle)

/-! ## The host opcodes -/

/-- Every opcode row completes: a packet that R61 passes and R68 admits gives its command the next JSEQ, takes its tag and
tokens, and its result is durable before the reply goes out, or its work goes on (R69, R76, R101, R111; log 6). HELLO and
AUTH, which open sessions, are in OpeningRowsComplete. -/
def Obligations.OpcodeRowsServed : Prop :=
  ∀ e ∈ Safety.opRows, ∀ p s, Safety.servable e.1 (e.2.1 p) s = true →
    exec (e.2.2 p) s = .next (Safety.served runCmd e.1 (e.2.1 p) s)

/-- KEEPALIVE (R79), BYE (R93), SUBSCRIBE (R83), GET_READY (R383): what the session's own opcodes leave and reply. -/
def Obligations.SessionOpcodesResult : Prop :=
  (∀ p s, Safety.occurs (.keepalive p) s = true →
    let c := Safety.cmdOf 0x0103 p s
    let b := Safety.before 0x0103 p s
    exec (.keepalive p) s = .next (finish c (Res.ok (le 6 b.optime ++ zeros 2 ++ le 4 (b.ses c.slot).drops ++ zeros 4)) b))
  ∧ (∀ p s, Safety.occurs (.bye p) s = true →
    let c := Safety.cmdOf 0x0104 p s
    let b := Safety.before 0x0104 p s
    exec (.bye p) s = .next (finish c (Res.ok []) (b.setSes c.slot { b.ses c.slot with
      ending := some ((b.ses c.slot).ending.getD { reason := 0, orphan := fld c.payload 0 1 == 1, jseq := c.jseq }) })))
  ∧ (∀ p s, Safety.occurs (.subscribe p) s = true →
    let c := Safety.cmdOf 0x0105 p s
    let b := Safety.before 0x0105 p s
    exec (.subscribe p) s = .next (finish c (Res.ok []) (b.setSes c.slot { b.ses c.slot with mask := fld c.payload 0 4 })))
  ∧ (∀ p s, Safety.occurs (.getReady p) s = true →
    let b := Safety.before 0x0106 p s
    exec (.getReady p) s = .next (finish (Safety.cmdOf 0x0106 p s)
      (Res.ok (le 8 b.readyWord ++ le 16 b.start.ports ++ le 6 b.start.startOptime ++ zeros 2 ++ le 8 b.start.startJseq
        ++ [BitVec.ofNat 8 b.start.kind, BitVec.ofNat 8 b.start.keep] ++ zeros 6)) b))

/-- JOURNAL_HEAD (R114), JOURNAL_READ (R115), RESULT_OF (R82), STATE_DIGEST (R117), OBJECT_VERSIONS (R116): the reads of the
journal change nothing but the session, the journal and the wire. -/
def Obligations.JournalOpcodesResult : Prop :=
  (∀ p s, Safety.occurs (.journalHead p) s = true →
    let b := Safety.before 0x0201 p s
    exec (.journalHead p) s = .next (finish (Safety.cmdOf 0x0201 p s)
      (Res.ok (le 8 b.jrnl.head ++ le 8 b.jOldest ++ le 8 b.start.startJseq ++ le 6 b.optime ++ zeros 2
        ++ le 4 b.aon.powercycle ++ le 4 b.rig.version ++ zeros 8)) b))
  ∧ (∀ p s, Safety.occurs (.journalRead p) s = true →
    let c := Safety.cmdOf 0x0202 p s
    let b := Safety.before 0x0202 p s
    let frm := max (fld c.payload 0 8) b.jOldest
    let n := min (fld c.payload 8 2) (b.jrnl.head + 1 - frm)
    exec (.journalRead p) s = .next (finish c (Res.ok (le 8 (frm + n) ++ le 2 n ++ zeros 6
      ++ (List.range n).flatMap (fun i => (b.jent (frm + i)).bytes (b.jrnl.bad.contains (frm + i))))) b))
  ∧ (∀ p s, Safety.occurs (.resultOf p) s = true →
    let c := Safety.cmdOf 0x0203 p s
    let b := Safety.before 0x0203 p s
    b.resultOf (if fld c.payload 0 8 = 0 then c.sess else fld c.payload 0 8) (fld c.payload 8 8) = none →
    exec (.resultOf p) s = .next (finish c (Res.ok (zeros 16)) b))
  ∧ (∀ p s e os, Safety.occurs (.resultOf p) s = true →
    let c := Safety.cmdOf 0x0203 p s
    let b := Safety.before 0x0203 p s
    b.resultOf (if fld c.payload 0 8 = 0 then c.sess else fld c.payload 0 8) (fld c.payload 8 8) = some (e, os) → e.state = 2 →
    exec (.resultOf p) s = .next (finish c (Res.ok ((1#8 :: zeros 15)
      ++ replyBlock e.status os.length 0 0 e.jseq ++ outcomeVec os)) b))
  ∧ (∀ p s, Safety.occurs (.stateDigest p) s = true →
    let c := Safety.cmdOf 0x0204 p s
    let b := Safety.before 0x0204 p s
    exec (.stateDigest p) s = .next (finish c (Res.ok (le 8 c.jseq ++ sha256 ((spanRefs c).flatMap (fun k =>
      le 4 k ++ le 4 (b.ownOf k).version ++ le 8 (b.ownOf k).owner)))) b))
  ∧ (∀ p s, Safety.occurs (.objectVersions p) s = true →
    let c := Safety.cmdOf 0x0205 p s
    let b := Safety.before 0x0205 p s
    exec (.objectVersions p) s = .next (finish c (Res.ok ((spanRefs c).flatMap (versionRecord b))) b))

/-- RIG_BEGIN (R128), RIG_PUT (R129, R130), RIG_COMMIT (R132), RIG_ABORT (R131), RIG_GET (R144), RIG_SAVE (R139),
RIG_BANK_SELECT (R140): what each does where the rig lets it. -/
def Obligations.RigOpcodesResult : Prop :=
  (∀ p s, Safety.occurs (.rigBegin p) s = true →
    let c := Safety.cmdOf 0x0301 p s
    let b := Safety.before 0x0301 p s
    let mode := fld c.payload 0 1
    let bank := fld c.payload 1 1
    let t : Txn := { slot := c.slot, sess := c.sess, mode := mode, bank := bank, length := fld c.payload 4 4, staged := [],
                     commitSet := [], at_ := b.aon.nowUs, waiting := false, commit := 0, doneAt := 0, scan := false, image := [] }
    let b1 : State := { b with rig := { b.rig with txn := some t } }
    b.rig.txn = none → (mode = 0 ∨ (mode = 1 ∧ b.rig.base ≠ bank) ∨ (mode = 2 ∧ (b.rigBank bank).st = 2)) →
    exec (.rigBegin p) s = .next (finish c (Res.ok [])
      (if mode = 1 then b1.setRigBank bank { Bank.empty with st := 1 } else b1)))
  ∧ (∀ p s t, Safety.occurs (.rigPut p) s = true →
    let c := Safety.cmdOf 0x0302 p s
    let b := Safety.before 0x0302 p s
    let it := cut c.payload 4 32
    let f : Staged := { key := itemKey it 0, off := fld it 6 2, bytes := cut it 16 (fld it 5 1), item := 0 }
    b.rig.txn = some t → t.sess = c.sess → t.waiting = false → t.mode = 0 → fld it 4 1 ≠ 0 → t.staged.length < 4096 →
    fld c.payload 0 2 = 1 →
    exec (.rigPut p) s = .next (finish c (Res.multi [0] []) (touchObj (itemKey it 0) c.jseq
      { b with rig := { b.rig with txn := some { t with staged := stage f t.staged } } })))
  ∧ (∀ p s t, Safety.occurs (.rigCommit p) s = true →
    let c := Safety.cmdOf 0x0303 p s
    let b := Safety.before 0x0303 p s
    b.rig.txn = some t → t.sess = c.sess → t.waiting = false →
    exec (.rigCommit p) s = .next { b with
      rig := { b.rig with txn := some { t with commitSet := t.staged } }, host := { b.host with running := b.host.running ++ [c] } })
  ∧ (∀ p s t, Safety.occurs (.rigAbort p) s = true →
    let c := Safety.cmdOf 0x0304 p s
    let b := Safety.before 0x0304 p s
    b.rig.txn = some t → t.waiting = false → (t.sess = c.sess ∨ 4 ≤ c.role) →
    exec (.rigAbort p) s = .next (finish c (Res.ok [])
      (let b1 : State := { b with rig := { b.rig with txn := none } }
       if t.mode = 1 then b1.setRigBank t.bank Bank.empty else b1)))
  ∧ (∀ p s, Safety.occurs (.rigGet p) s = true →
    let c := Safety.cmdOf 0x0305 p s
    let b := Safety.before 0x0305 p s
    let k := itemKey c.payload 4
    (fld c.payload 0 1 = 0 → exec (.rigGet p) s = .next (finish c (Res.ok (rigStatus b)) b))
    ∧ (fld c.payload 0 1 = 1 → exec (.rigGet p) s = .next (finish c
        (Res.ok (cut (b.d (keyType k) (keyIdx k)) (fld c.payload 16 2) (fld c.payload 2 2))) b)))
  ∧ (∀ p s, Safety.occurs (.rigSave p) s = true →
    let c := Safety.cmdOf 0x0306 p s
    let b := Safety.before 0x0306 p s
    b.rig.txn = none →
    exec (.rigSave p) s = .next (let u := (saveImage c b).2.setRigBank b.idleBank { st := 3, mem := memOf 0 (saveImage c b).1, bad := false }
      { u with rig := { u.rig with imaged := b.rig.delta }, host := { u.host with running := u.host.running ++ [c] } }))
  ∧ (∀ p s, Safety.occurs (.rigBankSelect p) s = true →
    let c := Safety.cmdOf 0x0307 p s
    let b := Safety.before 0x0307 p s
    (b.rigBank (fld c.payload 0 1)).st = 2 →
    exec (.rigBankSelect p) s = .next (finish c (Res.ok []) { b with rig := { b.rig with next := fld c.payload 0 1 } }))

/-- POINT_READ (R80), FRONT_READ (R187), SCAN_SET (R189), PORT_ENUMERATE (R157 to R159), POINT_THRESH_SET (R178),
TREND_READ's five actions (R192 to R194). -/
def Obligations.PointOpcodesResult : Prop :=
  (∀ p s, Safety.occurs (.pointRead p) s = true →
    let c := Safety.cmdOf 0x0401 p s
    let b := Safety.before 0x0401 p s
    exec (.pointRead p) s = .next (finish c (Res.ok ((List.range (fld c.payload 4 2)).flatMap (fun i =>
      (b.point (keyIdx (fld c.payload 0 4) + i)).bytes))) b))
  ∧ (∀ p s, Safety.occurs (.frontRead p) s = true →
    let c := Safety.cmdOf 0x0405 p s
    let b := Safety.before 0x0405 p s
    exec (.frontRead p) s = .next (finish c (Res.ok (le 4 b.scan.cycle ++ le 6 b.scan.startMs ++ zeros 6
      ++ (List.range (fld c.payload 4 2)).flatMap (fun i => (b.front (keyIdx (fld c.payload 0 4) + i)).bytes))) b))
  ∧ (∀ p s, Safety.occurs (.scanSetPeriod p) s = true →
    let c := Safety.cmdOf 0x0402 (withByte 4 0#8 p) s
    let b := Safety.before 0x0402 (withByte 4 0#8 p) s
    let v := le 4 (fld c.payload 0 4)
    let live := descPut b.rig.live (dkey 0x20 0) (patch (b.d 0x20 0) 0 v)
    fld c.payload 4 1 = 0 → b.held (dkey 0x20 0) 0 4 = false → b.deltaFull = false → estMwOf live ≤ estMwOf b.rig.live →
    exec (.scanSetPeriod p) s = .next (let u := periodChanged b.scanPeriod (rigWrite (dkey 0x20 0) 0 v c.jseq 0 b)
      finish c (Res.ok (le 4 u.scan.cycle ++ zeros 4 ++ le 6 u.nextStartMs ++ zeros 2)) u))
  ∧ (∀ p s, Safety.occurs (.scanExtraCycle p) s = true →
    let c := Safety.cmdOf 0x0402 (withByte 4 1#8 p) s
    let b := Safety.before 0x0402 (withByte 4 1#8 p) s
    fld c.payload 4 1 = 1 →
    exec (.scanExtraCycle p) s = .next (let u : State := { b with scan := { b.scan with extra := true } }
      finish c (Res.ok (le 4 u.scan.cycle ++ zeros 4 ++ le 6 u.nextStartMs ++ zeros 2)) u))
  ∧ (∀ p s, Safety.occurs (.enumerateDiscover p) s = true →
    let c := Safety.cmdOf 0x0403 (withByte 4 0#8 p) s
    let b := Safety.before 0x0403 (withByte 4 0#8 p) s
    fld c.payload 4 1 = 0 → Safety.mayEnumerate b (keyIdx (fld c.payload 0 4)) = true →
    exec (.enumerateDiscover p) s = .next (Safety.asked b (keyIdx (fld c.payload 0 4)) false c))
  ∧ (∀ p s, Safety.occurs (.enumerateAssign p) s = true →
    let c := Safety.cmdOf 0x0403 (withByte 4 1#8 p) s
    let b := Safety.before 0x0403 (withByte 4 1#8 p) s
    fld c.payload 4 1 = 1 → Safety.mayEnumerate b (keyIdx (fld c.payload 0 4)) = true →
    exec (.enumerateAssign p) s = .next (Safety.asked b (keyIdx (fld c.payload 0 4)) true c))
  ∧ (∀ p s, Safety.occurs (.enumerateReport p) s = true →
    let c := Safety.cmdOf 0x0403 (withByte 4 2#8 p) s
    let b := Safety.before 0x0403 (withByte 4 2#8 p) s
    fld c.payload 4 1 = 2 → Safety.mayEnumerate b (keyIdx (fld c.payload 0 4)) = true →
    exec (.enumerateReport p) s = .next (finish c (Res.ok (enumReport b (keyIdx (fld c.payload 0 4)) (fld c.payload 6 2))) b))
  ∧ (∀ p s, Safety.occurs (.pointThreshSet p) s = true →
    let c := Safety.cmdOf 0x0404 p s
    let b := Safety.before 0x0404 p s
    let k := fld (cut c.payload 4 8) 0 4
    fld c.payload 0 2 = 1 → b.ptEn (keyIdx k) = true → b.held k 12 4 = false → b.deltaFull = false →
    exec (.pointThreshSet p) s = .next (finish c (Res.multi [0] []) (rigWrite k 12 (cut (cut c.payload 4 8) 4 4) c.jseq 0 b)))
  ∧ (∀ p s i, Safety.occurs (.trendOpen p) s = true →
    let c := Safety.cmdOf 0x0406 (withByte 0 1#8 p) s
    let b := Safety.before 0x0406 (withByte 0 1#8 p) s
    let v : Stream := { Stream.dflt with
      sess := c.sess, fronts := decide (fld c.payload 1 1 = 1), first := keyIdx (fld c.payload 4 4),
      count := fld c.payload 8 2, every := fld c.payload 10 2, units := fld c.payload 12 2,
      spill := decide (fld c.payload 3 1 = 1), openCycle := b.scan.cycle, unitsAt := b.freeUnits (fld c.payload 12 2) }
    fld c.payload 0 1 = 1 → b.trendUsed c.sess + fld c.payload 12 2 ≤ (b.ses c.slot).quota.trend →
    (List.range 16).find? (fun i => (b.stream (c.slot * 16 + i)).sess == 0) = some i →
    exec (.trendOpen p) s = .next (finish c (Res.ok ([BitVec.ofNat 8 (c.slot * 16 + i)] ++ zeros 3 ++ le 4 v.ringGroups
      ++ le 4 (if v.spill then v.ringGroups else 0) ++ zeros 4)) (b.setStream (c.slot * 16 + i) v)))
  ∧ (∀ p s, Safety.occurs (.trendRead p) s = true →
    let c := Safety.cmdOf 0x0406 (withByte 0 2#8 p) s
    let b := Safety.before 0x0406 (withByte 0 2#8 p) s
    let v := b.stream (fld c.payload 2 1)
    let frm := max (fld c.payload 16 4) v.oldest
    let gs := (v.groups.filter (fun g => decide (frm ≤ g.seq))).take (8160 / v.groupLen)
    fld c.payload 0 1 = 2 → v.sess ≠ 0 →
    exec (.trendRead p) s = .next (finish c (Res.ok (le 4 ((gs.getLast?.map (fun g => g.seq + 1)).getD frm)
      ++ le 4 v.oldest ++ le 2 gs.length ++ zeros 6 ++ gs.flatMap TGroup.bytes)) b))
  ∧ (∀ p s, Safety.occurs (.trendClose p) s = true →
    let c := Safety.cmdOf 0x0406 (withByte 0 3#8 p) s
    let b := Safety.before 0x0406 (withByte 0 3#8 p) s
    fld c.payload 0 1 = 3 → (b.stream (fld c.payload 2 1)).sess = c.sess →
    exec (.trendClose p) s = .next (finish c (Res.ok []) (b.setStream (fld c.payload 2 1) Stream.dflt)))
  ∧ (∀ p s, Safety.occurs (.trendStatus p) s = true →
    let c := Safety.cmdOf 0x0406 (withByte 0 4#8 p) s
    let b := Safety.before 0x0406 (withByte 0 4#8 p) s
    let v := b.stream (fld c.payload 2 1)
    fld c.payload 0 1 = 4 → v.sess ≠ 0 →
    exec (.trendStatus p) s = .next (finish c (Res.ok (le 4 (v.seq - 1) ++ le 4 v.oldest ++ le 4 v.lost ++ zeros 4)) b))
  ∧ (∀ p s, Safety.occurs (.frontLog p) s = true →
    let c := Safety.cmdOf 0x0406 (withByte 0 5#8 p) s
    let b := Safety.before 0x0406 (withByte 0 5#8 p) s
    let l := Tbl.rd [] b.trend.logs (keyIdx (fld c.payload 4 4))
    fld c.payload 0 1 = 5 →
    exec (.frontLog p) s = .next (finish c (Res.ok (le 2 l.length ++ zeros 14 ++ l.flatMap FLog.bytes)) b))

/-- LOOP_SET_SP (R208), LOOP_MODE (R207), LOOP_READ (R219), LOOP_CLEAR_FLAGS (R81), the actions of CAPTURE_READ (R222): an
item of an enabled loop that the session may operate takes effect and touches its object. INJECT_START (R220): a signal
without a capture starts on a loop in AUTO, and one with SIGNAL 0 and no capture ends what runs. -/
def Obligations.LoopOpcodesResult : Prop :=
  (∀ p s, Safety.occurs (.loopSetSp p) s = true →
    let c := Safety.cmdOf 0x0501 p s
    let b := Safety.before 0x0501 p s
    let it := cut c.payload 4 8
    let k := fld it 0 4
    let b1 := b.setLoopInt (keyIdx k) { b.loopInt (keyIdx k) with target := some (sfld it 4 2) }
    fld c.payload 0 2 = 1 → b.mayOperate k c.sess = true → b.en 0x05 (keyIdx k) = true →
    exec (.loopSetSp p) s = .next (finish c (Res.multi [0] [])
      (commitItem k c.jseq c.sess c.role (b1.setLoop (keyIdx k) { b1.loop (keyIdx k) with pendSp := true }))))
  ∧ (∀ p s, Safety.occurs (.loopMode p) s = true →
    let c := Safety.cmdOf 0x0502 p s
    let b := Safety.before 0x0502 p s
    let it := cut c.payload 4 8
    let k := fld it 0 4
    let b1 := b.setLoopInt (keyIdx k) { b.loopInt (keyIdx k) with mode := fld it 4 1, manOut := sfld it 6 2 }
    fld c.payload 0 2 = 1 → b.mayOperate k c.sess = true → b.en 0x05 (keyIdx k) = true →
    exec (.loopMode p) s = .next (finish c (Res.multi [0] []) (commitItem k c.jseq c.sess c.role
      (abortInj (keyIdx k) (b1.setLoop (keyIdx k) { b1.loop (keyIdx k) with pendMode := true })))))
  ∧ (∀ p s, Safety.occurs (.loopClearFlags p) s = true →
    let c := Safety.cmdOf 0x0504 p s
    let b := Safety.before 0x0504 p s
    let it := cut c.payload 4 8
    let k := fld it 0 4
    fld c.payload 0 2 = 1 → b.mayOperate k c.sess = true → b.en 0x05 (keyIdx k) = true →
    exec (.loopClearFlags p) s = .next (finish c (Res.multi [0] []) (commitItem k c.jseq c.sess c.role
      (b.setLoop (keyIdx k) { b.loop (keyIdx k) with
        flags := (b.loop (keyIdx k)).flags - ((b.loop (keyIdx k)).flags &&& fld it 4 4) }))))
  ∧ (∀ p s, Safety.occurs (.loopRead p) s = true →
    let c := Safety.cmdOf 0x0503 p s
    let b := Safety.before 0x0503 p s
    exec (.loopRead p) s = .next (finish c (readRecords c (fun k => loopRecord b (keyIdx k))) b))
  ∧ (∀ p s, Safety.occurs (.captureRead p) s = true →
    let c := Safety.cmdOf 0x0506 (withByte 1 0#8 p) s
    let b := Safety.before 0x0506 (withByte 1 0#8 p) s
    let v := b.capBuf (fld c.payload 0 1)
    fld c.payload 1 1 = 0 → v.sess ≠ 0 →
    exec (.captureRead p) s = .next (finish c (Res.ok (capBytes v (fld c.payload 4 4))) b)
    ∧ (v.damaged = false →
      capBytes v (fld c.payload 4 4) = capHeader v ++ ((v.samples.drop (fld c.payload 4 4)).take 1014).flatten))
  ∧ (∀ p s, Safety.occurs (.captureFree p) s = true →
    let c := Safety.cmdOf 0x0506 (withByte 1 1#8 p) s
    let b := Safety.before 0x0506 (withByte 1 1#8 p) s
    let v := b.capBuf (fld c.payload 0 1)
    fld c.payload 1 1 = 1 → v.sess ≠ 0 → v.sess = c.sess → (b.loop v.loop).inj = none →
    exec (.captureFree p) s = .next (finish c (Res.ok []) (b.setCap (fld c.payload 0 1) CapBuf.dflt)))
  ∧ (∀ p s, Safety.occurs (.injectStart p) s = true →
    let c := Safety.cmdOf 0x0505 p s
    let b := Safety.before 0x0505 p s
    let k := fld c.payload 0 4
    fld c.payload 4 1 ≠ 0 → fld c.payload 6 1 = 0 → b.mayOperate k c.sess = true → b.en 0x05 (keyIdx k) = true →
    (b.loop (keyIdx k)).inj = none → (b.loopInt (keyIdx k)).mode = 0 → (b.loop (keyIdx k)).fb = false →
    (b.loop (keyIdx k)).fbOver = false → (b.loop (keyIdx k)).fbEcc = false →
    exec (.injectStart p) s = .next (finish c (Res.ok (0xFF#8 :: zeros 7)) (commitItem k c.jseq c.sess c.role
      (b.setLoop (keyIdx k) { b.loop (keyIdx k) with inj := some {
        signal := fld c.payload 4 1, at_ := fld c.payload 5 1, ampl := fld c.payload 10 2, length := fld c.payload 12 4,
        shape := fld c.payload 16 2, pre := fld c.payload 18 2, n := 0, buf := none, sess := c.sess, prbs := 0x7FFF } }))))
  ∧ (∀ p s, Safety.occurs (.injectStart p) s = true →
    let c := Safety.cmdOf 0x0505 p s
    let b := Safety.before 0x0505 p s
    let k := fld c.payload 0 4
    fld c.payload 4 1 = 0 → fld c.payload 6 1 ≠ 1 → b.mayOperate k c.sess = true → b.en 0x05 (keyIdx k) = true →
    exec (.injectStart p) s = .next (finish c (Res.ok (0xFF#8 :: zeros 7))
      (commitItem k c.jseq c.sess c.role (abortInj (keyIdx k) b))))

/-- MAST_MODE (R226): the mode, a new campaign where it changes to DRY or COOL, and the force that is asked, which no LOCKED
Mast takes while the land is active. MAST_READ (R237), LEDGER_READ (R236). -/
def Obligations.MastOpcodesResult : Prop :=
  (∀ p s, Safety.occurs (.mastMode p) s = true →
    let c := Safety.cmdOf 0x0601 p s
    let b := Safety.before 0x0601 p s
    let it := cut c.payload 4 8
    let k := fld it 0 4
    let m := keyIdx k
    let mode := fld it 4 1
    let x := b.mast m
    let camp := (mode = 1 || mode = 2) && mode ≠ b.mastMode m
    let b1 : State := { b with masts := { b.masts with mode := Tbl.wr 0 b.masts.mode m mode } }
    let b2 := if camp then b1.setLedger m { b1.ledger m with campaignS := 0 } else b1
    fld c.payload 0 2 = 1 → b.mayOperate k c.sess = true → b.en 0x04 m = true →
    exec (.mastMode p) s = .next (finish c (Res.multi [0] []) (commitItem k c.jseq c.sess c.role (b2.setMast m { x with
      campCycle := if camp then b.scan.cycle else x.campCycle
      newMode := x.newMode || ((x.st = 4 || x.maint) && (camp || mode = 3))
      lockItem := x.lockItem || (x.st = 6 && !(b.die 1).sense)
      forceMin := if fld it 6 2 = 0 then x.forceMin else if x.st = 6 && (b.die 1).sense then 0 else fld it 6 2 }))))
  ∧ (∀ p s, Safety.occurs (.mastRead p) s = true →
    let c := Safety.cmdOf 0x0602 p s
    let b := Safety.before 0x0602 p s
    exec (.mastRead p) s = .next (finish c (readRecords c (fun k => mastRecord b (keyIdx k))) b))
  ∧ (∀ p s, Safety.occurs (.ledgerRead p) s = true →
    let c := Safety.cmdOf 0x0603 p s
    let b := Safety.before 0x0603 p s
    exec (.ledgerRead p) s = .next (finish c (Res.ok (le 6 b.optime ++ zeros 2
      ++ [bandCode b (keyIdx (fld c.payload 0 4))] ++ zeros 7
      ++ (readRecords c (fun k => ledgerRecord b (keyIdx k))).data)) b))

/-- DRYER_MODE OFF and a start from IDLE (R243), DRYER_STEP's five actions (R244, R251) and DRYER_READ (R253): a step that is valid in the dryer's state is
queued for its next evaluation. -/
def Obligations.DryerOpcodesResult : Prop :=
  (∀ p s, Safety.occurs (.dryerMode p) s = true →
    let c := Safety.cmdOf 0x0701 p s
    let b := Safety.before 0x0701 p s
    let k := fld c.payload 0 4
    let i := keyIdx k
    fld c.payload 4 1 = 0 → b.mayOperate k c.sess = true → b.en 0x07 i = true →
    exec (.dryerMode p) s = .next (finish c (Res.ok []) (commitItem k c.jseq c.sess c.role
      (({ b with dryers := { b.dryers with mode := Tbl.wr 0 b.dryers.mode i (256 * fld c.payload 5 1) } } : State).setDryer i
        { b.dryer i with items := (b.dryer i).items ++ [{ action := 0, mode := 0, st := (b.dryer i).w.st }] }))))
  ∧ (∀ p s, Safety.occurs (.dryerMode p) s = true →
    let c := Safety.cmdOf 0x0701 p s
    let b := Safety.before 0x0701 p s
    let k := fld c.payload 0 4
    let i := keyIdx k
    let mode := fld c.payload 4 1
    mode ≠ 0 → b.mayOperate k c.sess = true → b.en 0x07 i = true → (b.dryer i).w.st = 0 → dryFit (b.d 0x07 i) mode = true →
    inAsserted b (b.d 0x07 i) 72 = false →
    exec (.dryerMode p) s = .next (finish c (Res.ok []) (commitItem k c.jseq c.sess c.role
      (({ b with dryers := { b.dryers with mode := Tbl.wr 0 b.dryers.mode i (mode + 256 * fld c.payload 5 1) } } : State).setDryer i
        { b.dryer i with items := (b.dryer i).items ++ [{ action := 0, mode := mode, st := 0 }] }))))
  ∧ (∀ p s, Safety.occurs (.dryerNext p) s = true → Safety.stepTaken (withByte 4 1#8 p) 1 s = true →
    exec (.dryerNext p) s = .next (Safety.stepped (withByte 4 1#8 p) 1 s))
  ∧ (∀ p s, Safety.occurs (.dryerPause p) s = true → Safety.stepTaken (withByte 4 2#8 p) 2 s = true →
    exec (.dryerPause p) s = .next (Safety.stepped (withByte 4 2#8 p) 2 s))
  ∧ (∀ p s, Safety.occurs (.dryerResume p) s = true → Safety.stepTaken (withByte 4 3#8 p) 3 s = true →
    exec (.dryerResume p) s = .next (Safety.stepped (withByte 4 3#8 p) 3 s))
  ∧ (∀ p s, Safety.occurs (.dryerAck p) s = true → Safety.stepTaken (withByte 4 4#8 p) 4 s = true →
    exec (.dryerAck p) s = .next (Safety.stepped (withByte 4 4#8 p) 4 s))
  ∧ (∀ p s, Safety.occurs (.dryerEmpty p) s = true → Safety.stepTaken (withByte 4 5#8 p) 5 s = true →
    exec (.dryerEmpty p) s = .next (Safety.stepped (withByte 4 5#8 p) 5 s))
  ∧ (∀ p s, Safety.occurs (.dryerRead p) s = true →
    let c := Safety.cmdOf 0x0703 p s
    let b := Safety.before 0x0703 p s
    exec (.dryerRead p) s = .next (finish c (readRecords c (fun k => dryerRecord b (keyIdx k))) b))

/-- ROUTE_CLAIM's two actions (R258, R259), ROUTE_START (R261), ROUTE_STOP's three modes (R263) and ROUTE_READ (R269). -/
def Obligations.RouteOpcodesResult : Prop :=
  (∀ p s, Safety.occurs (.routeClaim p) s = true →
    let c := Safety.cmdOf 0x0801 (withByte 4 1#8 p) s
    let b := Safety.before 0x0801 (withByte 4 1#8 p) s
    let k := fld c.payload 0 4
    fld c.payload 4 1 = 1 → b.mayOperate k c.sess = true → (b.ownOf k).own = 0 → b.en 0x08 (keyIdx k) = true →
    claimBlock b (keyIdx k) = none → 2 ≤ b.roleOf c.sess c.role →
    exec (.routeClaim p) s = .next (finish c (Res.ok (le 2 0xFFFF ++ le 2 0xFFFF ++ zeros 4))
      (passObj c.jseq c.sess (b.roleOf c.sess c.role) k b)))
  ∧ (∀ p s, Safety.occurs (.routeRelease p) s = true →
    let c := Safety.cmdOf 0x0801 (withByte 4 0#8 p) s
    let b := Safety.before 0x0801 (withByte 4 0#8 p) s
    let k := fld c.payload 0 4
    fld c.payload 4 1 = 0 → b.mayOperate k c.sess = true → (b.ownOf k).own ≠ 0 → (b.route (keyIdx k)).runs = false →
    exec (.routeRelease p) s = .next (finish c (Res.ok (le 2 0xFFFF ++ le 2 0xFFFF ++ zeros 4)) (releaseObj c.jseq k b)))
  ∧ (∀ p s, Safety.occurs (.routeStart p) s = true →
    let b := Safety.before 0x0802 p s
    let r := keyIdx (fld p.payload 0 4)
    Safety.routeTaken 0x0802 p s = true → (b.route r).w.st = 0 → inAsserted b (b.d 0x08 r) 88 = false →
    routeOutFault b r = false →
    exec (.routeStart p) s = .next (Safety.routed 0x0802 p 0 s))
  ∧ (∀ p s, Safety.occurs (.routeStopNormal p) s = true →
    let q := withByte 4 0#8 p
    Safety.routeTaken 0x0803 q s = true → fld q.payload 4 1 = 0 →
    ((Safety.before 0x0803 q s).route (keyIdx (fld q.payload 0 4))).w.st ≤ 5 →
    exec (.routeStopNormal p) s = .next (Safety.routed 0x0803 q 1 s))
  ∧ (∀ p s, Safety.occurs (.routeStopQuick p) s = true →
    let q := withByte 4 1#8 p
    Safety.routeTaken 0x0803 q s = true → fld q.payload 4 1 = 1 →
    ([1, 2, 3, 4, 5, 6].contains ((Safety.before 0x0803 q s).route (keyIdx (fld q.payload 0 4))).w.st) = true →
    exec (.routeStopQuick p) s = .next (Safety.routed 0x0803 q 2 s))
  ∧ (∀ p s, Safety.occurs (.routeAck p) s = true →
    let q := withByte 4 2#8 p
    let b := Safety.before 0x0803 q s
    let r := keyIdx (fld q.payload 0 4)
    Safety.routeTaken 0x0803 q s = true → fld q.payload 4 1 = 2 → (b.route r).w.st = 7 →
    inAsserted b (b.d 0x08 r) 88 = false → routeHolds b r = false →
    exec (.routeAck p) s = .next (Safety.routed 0x0803 q 3 s))
  ∧ (∀ p s, Safety.occurs (.routeRead p) s = true →
    let c := Safety.cmdOf 0x0804 p s
    let b := Safety.before 0x0804 p s
    exec (.routeRead p) s = .next (finish c (readRecords c (fun k => routeRecord b (keyIdx k))) b))

/-- DIO_WRITE, LOAD_WRITE, AO_WRITE, FAN_SET and FAULT_CLEAR (R81, R97), with the reads of the field side (R291, R292, R303,
R323, R341): a write of an enabled output whose source is the host sets its host value. -/
def Obligations.FieldOpcodesResult : Prop :=
  (∀ p s, Safety.occurs (.dioWrite p) s = true → Safety.writeTaken 0x0901 p s = true →
    exec (.dioWrite p) s = .next (Safety.wrote 0x0901 p s))
  ∧ (∀ p s, Safety.occurs (.loadWrite p) s = true → Safety.writeTaken 0x0903 p s = true →
    exec (.loadWrite p) s = .next (Safety.wrote 0x0903 p s))
  ∧ (∀ p s, Safety.occurs (.aoWrite p) s = true → Safety.writeTaken 0x0905 p s = true →
    exec (.aoWrite p) s = .next (Safety.wrote 0x0905 p s))
  ∧ (∀ p s, Safety.occurs (.fanSet p) s = true → Safety.writeTaken 0x0906 p s = true →
    exec (.fanSet p) s = .next (Safety.wrote 0x0906 p s))
  ∧ (∀ p s, Safety.occurs (.faultClear p) s = true →
    let c := Safety.cmdOf 0x0908 p s
    let b := Safety.before 0x0908 p s
    let k := fld c.payload 4 4
    fld c.payload 0 2 = 1 → b.fieldReady k = true → b.mayOperate k c.sess = true → b.lockForces k = false →
    (clearFault k b).1 = false →
    exec (.faultClear p) s = .next (finish c (Res.multi [0] []) (commitItem k c.jseq c.sess c.role (clearFault k b).2)))
  ∧ (∀ p s, Safety.occurs (.dioRead p) s = true →
    let c := Safety.cmdOf 0x0902 p s
    let b := Safety.before 0x0902 p s
    exec (.dioRead p) s = .next (finish c (readRecords c (fun k => dioRecord b (keyIdx k))) b))
  ∧ (∀ p s, Safety.occurs (.loadRead p) s = true →
    let c := Safety.cmdOf 0x0904 p s
    let b := Safety.before 0x0904 p s
    exec (.loadRead p) s = .next (finish c (readRecords c (fun k => loadRecord b (keyIdx k))) b))
  ∧ (∀ p s, Safety.occurs (.fanRead p) s = true →
    let c := Safety.cmdOf 0x0907 p s
    let b := Safety.before 0x0907 p s
    exec (.fanRead p) s = .next (finish c (readRecords c (fun k => fanRecord b (keyIdx k))) b))
  ∧ (∀ p s, Safety.occurs (.afeRead p) s = true →
    let c := Safety.cmdOf 0x0A01 p s
    let b := Safety.before 0x0A01 p s
    exec (.afeRead p) s = .next (finish c (readRecords c (fun k =>
      if keyType k = 0x0D then aoRecord b (keyIdx k) else afeRecord b k)) b))
  ∧ (∀ p s, Safety.occurs (.threshRead p) s = true →
    let c := Safety.cmdOf 0x0A02 p s
    let b := Safety.before 0x0A02 p s
    exec (.threshRead p) s = .next (finish c (readRecords c (fun k => swRecord b (keyIdx k))) b))

/-- The Telltale's opcodes: TT_OPEN's three actions (R353), TT_READ (R354), TT_PIN (R355), TT_CLEAR (R357), TT_LIMITS
(R352). -/
def Obligations.TelltaleOpcodesResult : Prop :=
  (∀ p s i, Safety.occurs (.ttOpen p) s = true →
    let c := Safety.cmdOf 0x0B01 (withByte 0 1#8 p) s
    let b := Safety.before 0x0B01 (withByte 0 1#8 p) s
    let frm := fld c.payload 8 8
    fld c.payload 0 1 = 1 → [0, 1, 2, 3, 4, 5, 6, 7].find? (fun i => (b.cursor i).sess == 0) = some i →
    ([0, 1, 2, 3, 4, 5, 6, 7].filter (fun i => (b.cursor i).sess == c.sess)).length < (b.ses c.slot).quota.cursor →
    exec (.ttOpen p) s = .next (finish c
      (Res.ok ([BitVec.ofNat 8 i] ++ zeros 7 ++ le 8 b.tt.oldest ++ le 8 b.newest))
      (b.setCursor i { sess := c.sess, pos := if frm = 0 then b.tt.oldest else if frm = 0xFFFFFFFFFFFFFFFF then b.tt.next else frm,
                       pin := none, lost := false })))
  ∧ (∀ p s, Safety.occurs (.ttClose p) s = true →
    let c := Safety.cmdOf 0x0B01 (withByte 0 2#8 p) s
    let b := Safety.before 0x0B01 (withByte 0 2#8 p) s
    fld c.payload 0 1 = 2 → (b.cursor (fld c.payload 1 1)).sess = c.sess →
    exec (.ttClose p) s = .next (finish c (Res.ok []) (b.setCursor (fld c.payload 1 1) Cursor.dflt)))
  ∧ (∀ p s, Safety.occurs (.ttNotify p) s = true →
    let c := Safety.cmdOf 0x0B01 (withByte 0 3#8 p) s
    let b := Safety.before 0x0B01 (withByte 0 3#8 p) s
    fld c.payload 0 1 = 3 →
    exec (.ttNotify p) s = .next (finish c (Res.ok []) (b.setSes c.slot { b.ses c.slot with fams := fld c.payload 2 2 })))
  ∧ (∀ p s, Safety.occurs (.ttRead p) s = true →
    let c := Safety.cmdOf 0x0B02 p s
    let b := Safety.before 0x0B02 p s
    let x := b.cursor (fld c.payload 0 1)
    let first := max x.pos b.tt.oldest
    let n := min (fld c.payload 2 2) (b.tt.next - first)
    let flags := b2n (decide (x.pos < first)) + 2 * b2n (b.tt.lx20 && decide (0 < n) && first + n == b.tt.next)
    x.sess = c.sess → x.lost = false →
    exec (.ttRead p) s = .next (finish c (Res.ok (le 8 first ++ le 2 n ++ [BitVec.ofNat 8 flags] ++ zeros 5 ++ le 8 b.tt.oldest
      ++ le 8 b.newest ++ (List.range n).flatMap (fun j => (b.trec (first + j)).bytes (first + j))))
      (b.setCursor (fld c.payload 0 1) { x with pos := first + n })))
  ∧ (∀ p s, Safety.occurs (.ttPin p) s = true →
    let c := Safety.cmdOf 0x0B03 (withByte 1 1#8 p) s
    let b := Safety.before 0x0B03 (withByte 1 1#8 p) s
    let x := b.cursor (fld c.payload 0 1)
    fld c.payload 1 1 = 1 → x.sess = c.sess → x.lost = false →
    exec (.ttPin p) s = .next (finish c (Res.ok (le 8 (max x.pos b.tt.oldest) ++ zeros 8))
      (b.setCursor (fld c.payload 0 1) { x with pin := some (max x.pos b.tt.oldest, fld c.payload 2 2) })))
  ∧ (∀ p s, Safety.occurs (.ttUnpin p) s = true →
    let c := Safety.cmdOf 0x0B03 (withByte 1 0#8 p) s
    let b := Safety.before 0x0B03 (withByte 1 0#8 p) s
    let x := b.cursor (fld c.payload 0 1)
    fld c.payload 1 1 = 0 → x.sess = c.sess → x.lost = false →
    exec (.ttUnpin p) s = .next (finish c (Res.ok (zeros 16)) (b.setCursor (fld c.payload 0 1) { x with pin := none })))
  ∧ (∀ p s, Safety.occurs (.ttClear p) s = true →
    let c := Safety.cmdOf 0x0B04 p s
    let d := ttDrain (Safety.before 0x0B04 p s)
    let d1 := dropPins 0xFFFFFFFFFFFFFFFFFF d
    exec (.ttClear p) s = .next (finish c (Res.ok (le 8 d.tt.next)) (ttDrain (ttOccur 0 0x0B04 0
      (le 8 c.sess ++ le 4 (d.tt.next - d.tt.oldest)) { d1 with tt := { d1.tt with oldest := d.tt.next, ring := [] } }))))
  ∧ (∀ p s, Safety.occurs (.ttLimitsSet p) s = true →
    let c := Safety.cmdOf 0x0B05 (withByte 0 1#8 p) s
    let b := Safety.before 0x0B05 (withByte 0 1#8 p) s
    fld c.payload 0 1 = 1 → fld c.payload 1 1 = 0xFF → fld c.payload 4 2 ≠ 0xFFFF → fld c.payload 6 1 ≠ 0 →
    exec (.ttLimitsSet p) s = .next (let u := ttSetLimit (fld c.payload 6 1) (fld c.payload 8 4) (fld c.payload 4 2) b
      finish c (Res.ok (Safety.limitPage u (fld c.payload 4 2))) u))
  ∧ (∀ p s, Safety.occurs (.ttLimitsGet p) s = true →
    let c := Safety.cmdOf 0x0B05 (withByte 0 2#8 p) s
    let b := Safety.before 0x0B05 (withByte 0 2#8 p) s
    fld c.payload 0 1 = 2 →
    exec (.ttLimitsGet p) s = .next (finish c (Res.ok (Safety.limitPage b (fld c.payload 4 2))) b))

/-- SYS_INFO (R392), the first TIME_MARK (R358), RESET (R391), POWER_PLAN (R373 to R375). -/
def Obligations.SystemOpcodesResult : Prop :=
  (∀ p s, Safety.occurs (.sysInfo p) s = true →
    let c := Safety.cmdOf 0x0C01 p s
    let b := Safety.before 0x0C01 p s
    exec (.sysInfo p) s = .next (finish c (Res.ok (le 8 Config.deviceId.toNat ++ le 4 b.fw.version ++ le 4 b.fw.floor
      ++ [BitVec.ofNat 8 b.fw.running, BitVec.ofNat 8 b.start.kind, BitVec.ofNat 8 b.start.keep, BitVec.ofNat 8 b.start.warmRun]
      ++ le 4 b.aon.powercycle ++ le 6 b.optime ++ zeros 2 ++ le 6 b.start.startOptime ++ zeros 2 ++ le 8 b.start.startJseq
      ++ le 4 b.start.warmResets ++ le 2 b.start.correctedN ++ zeros 2 ++ le 4 b.rig.version ++ zeros 4
      ++ le 44 b.start.corrected ++ zeros 20)) b))
  ∧ (∀ p s, Safety.occurs (.timeMark p) s = true →
    let c := Safety.cmdOf 0x0C02 p s
    let b := Safety.before 0x0C02 p s
    let off : Int := clampI (-2 ^ 63) (2 ^ 63 - 1) (((fld c.payload 0 8 * 1000 + fld c.payload 8 2 : Nat) : Int) - b.optime)
    b.tt.offset = none →
    exec (.timeMark p) s = .next (finish c (Res.ok (leInt 8 off ++ le 8 0x8000000000000000))
      (ttOccur 0 0x0B03 0 (leInt 8 off ++ leInt 4 0) { b with tt := { b.tt with offset := some off } })))
  ∧ (∀ p s, Safety.occurs (.resetWarm p) s = true →
    let c := Safety.cmdOf 0x0C03 (withByte 0 1#8 p) s
    let b := Safety.before 0x0C03 (withByte 0 1#8 p) s
    fld c.payload 0 1 = 1 →
    exec (.resetWarm p) s = .next (finish c (Res.ok [])
      { b with start := { b.start with resetReq := some { kind := 0x11, port := c.port, at_ := b.aon.nowUs } } }))
  ∧ (∀ p s, Safety.occurs (.resetCold p) s = true →
    let c := Safety.cmdOf 0x0C03 (withByte 0 2#8 p) s
    let b := Safety.before 0x0C03 (withByte 0 2#8 p) s
    fld c.payload 0 1 = 2 →
    exec (.resetCold p) s = .next (finish c (Res.ok [])
      { b with start := { b.start with resetReq := some { kind := 4, port := c.port, at_ := b.aon.nowUs } } }))
  ∧ (∀ p s, Safety.occurs (.powerPlanGet p) s = true →
    let c := Safety.cmdOf 0x0C04 (withByte 0 1#8 p) s
    let b := Safety.before 0x0C04 (withByte 0 1#8 p) s
    fld c.payload 0 1 = 1 →
    exec (.powerPlanGet p) s = .next (finish c (Res.ok (planData b)) b))
  ∧ (∀ p s, Safety.occurs (.powerPlanClear p) s = true →
    let c := Safety.cmdOf 0x0C04 (withByte 0 2#8 p) s
    let b := Safety.before 0x0C04 (withByte 0 2#8 p) s
    fld c.payload 0 1 = 2 →
    exec (.powerPlanClear p) s = .next (finish c (Res.ok (planData (clearStats b))) (clearStats b)))
  ∧ (∀ p s, Safety.occurs (.powerPlanSet p) s = true →
    let c := Safety.cmdOf 0x0C04 (withByte 0 3#8 p) s
    let b := Safety.before 0x0C04 (withByte 0 3#8 p) s
    let u : State := { b with pwr := { b.pwr with capMw := fld c.payload 2 2 } }
    fld c.payload 0 1 = 3 → u.overCap b.rig.live = false →
    exec (.powerPlanSet p) s = .next (finish c (Res.ok (planData u)) u))

/-- QUOTA_SET of the defaults (R105 to R107), ROLE_SET's three actions (R99), KEY_SET (R89). -/
def Obligations.SteerageOpcodesResult : Prop :=
  (∀ p s, Safety.occurs (.quotaSet p) s = true →
    let c := Safety.cmdOf 0x0C05 p s
    let b := Safety.before 0x0C05 p s
    let d := b.host.defQuota.patch c.payload
    fld c.payload 0 1 = 0xFF → poolsHold b d (fun i => (b.ses i).quota) = true →
    exec (.quotaSet p) s = .next (finish c (Res.ok []) { b with host := { b.host with defQuota := d } }))
  ∧ (∀ p s k, Safety.occurs (.roleLower p) s = true →
    let c := Safety.cmdOf 0x0C06 (withByte 0 1#8 p) s
    let b := Safety.before 0x0C06 (withByte 0 1#8 p) s
    fld c.payload 0 1 = 1 → b.slotOf (fld c.payload 8 8) = some k → fld c.payload 1 1 < (b.ses k).role →
    exec (.roleLower p) s = .next (finish c (Res.ok []) (lowerRole k (fld c.payload 1 1) c.jseq b)))
  ∧ (∀ p s k, Safety.occurs (.roleEvict p) s = true →
    let c := Safety.cmdOf 0x0C06 (withByte 0 2#8 p) s
    let b := Safety.before 0x0C06 (withByte 0 2#8 p) s
    fld c.payload 0 1 = 2 → b.slotOf (fld c.payload 8 8) = some k →
    exec (.roleEvict p) s = .next (finish c (Res.ok []) (b.setSes k { b.ses k with
      ending := some ((b.ses k).ending.getD { reason := 2, orphan := fld c.payload 2 1 == 1, jseq := c.jseq }) })))
  ∧ (∀ p s, Safety.occurs (.roleRelease p) s = true →
    let c := Safety.cmdOf 0x0C06 (withByte 0 3#8 p) s
    let b := Safety.before 0x0C06 (withByte 0 3#8 p) s
    fld c.payload 0 1 = 3 → b.knownSession (fld c.payload 8 8) = true →
    exec (.roleRelease p) s = .next (finish c (Res.ok []) (forAll (b.ownedBy (fld c.payload 8 8)) (releaseObj c.jseq) b)))
  ∧ (∀ p s, Safety.occurs (.keySet p) s = true →
    let c := Safety.cmdOf 0x0C07 p s
    let b := Safety.before 0x0C07 p s
    let k := unwrapKey (b.ses c.slot).ks c.tag c.payload
    exec (.keySet p) s = .next (finish c (Res.ok []) { b with auth := { b.auth with
      keys := Tbl.wr none b.auth.keys (fld c.payload 0 1) (if allZero k then none else some (beNat k)) } }))

/-- FW_UPDATE's five steps (R84, R85): BEGIN erases the idle slot, DATA appends at the offset reached, END is deferred,
ACTIVATE marks the slot and asks for a warm reset, ABORT closes the update. -/
def Obligations.FirmwareOpcodesResult : Prop :=
  (∀ p s, Safety.occurs (.fwBegin p) s = true →
    let c := Safety.cmdOf 0x0C08 (withByte 0 1#8 p) s
    let b := Safety.before 0x0C08 (withByte 0 1#8 p) s
    let b1 := b.setFwSlot (1 - b.fw.running) { factory := false, mem := [], bad := false }
    fld c.payload 0 1 = 1 → b.fw.upd = none →
    exec (.fwBegin p) s = .next (finish c (Res.ok []) { b1 with fw := { b1.fw with upd := some {
      slot := 1 - b.fw.running, sess := c.sess, length := fld c.payload 8 4, got := 0, at_ := b.aon.nowUs, endOk := false } } }))
  ∧ (∀ p s u, Safety.occurs (.fwData p) s = true →
    let c := Safety.cmdOf 0x0C08 (withByte 0 2#8 p) s
    let b := Safety.before 0x0C08 (withByte 0 2#8 p) s
    let x := b.fwSlot u.slot
    let b1 := b.setFwSlot u.slot { x with mem := Memory.write x.mem u.got (c.payload.drop 16) }
    fld c.payload 0 1 = 2 → b.fw.upd = some u → u.sess = c.sess → fld c.payload 4 4 = u.got →
    u.got + fld c.payload 8 4 ≤ u.length →
    exec (.fwData p) s = .next (finish c (Res.ok []) { b1 with fw := { b1.fw with upd := some { u with
      got := u.got + fld c.payload 8 4, at_ := b.aon.nowUs, endOk := false } } }))
  ∧ (∀ p s u, Safety.occurs (.fwEnd p) s = true →
    let c := Safety.cmdOf 0x0C08 (withByte 0 3#8 p) s
    let b := Safety.before 0x0C08 (withByte 0 3#8 p) s
    fld c.payload 0 1 = 3 → b.fw.upd = some u → u.sess = c.sess →
    exec (.fwEnd p) s = .next { b with
      fw := { b.fw with upd := some { u with at_ := b.aon.nowUs } }, host := { b.host with running := b.host.running ++ [c] } })
  ∧ (∀ p s u, Safety.occurs (.fwActivate p) s = true →
    let c := Safety.cmdOf 0x0C08 (withByte 0 4#8 p) s
    let b := Safety.before 0x0C08 (withByte 0 4#8 p) s
    fld c.payload 0 1 = 4 → b.fw.upd = some u → u.sess = c.sess → u.endOk = true →
    exec (.fwActivate p) s = .next (finish c (Res.ok []) { b with
      fw := { b.fw with upd := none, marked := u.slot }
      start := { b.start with resetReq := some { kind := 0x12, port := c.port, at_ := b.aon.nowUs } } }))
  ∧ (∀ p s u, Safety.occurs (.fwAbort p) s = true →
    let c := Safety.cmdOf 0x0C08 (withByte 0 5#8 p) s
    let b := Safety.before 0x0C08 (withByte 0 5#8 p) s
    fld c.payload 0 1 = 5 → b.fw.upd = some u → u.sess = c.sess →
    exec (.fwAbort p) s = .next (finish c (Res.ok []) { b with fw := { b.fw with upd := none } }))
end

