-- ==== Sys2Proof/Laws/Kept.lean ====
section
/-! SUPPORT. What no operation touches but the resets, the starts and the SPI mailbox: the queue of waiting commands, the mailbox,
WARM_RUN, POWERCYCLE, SEC_FLOOR, the time, and the phase of the block. One lemma for each operation. -/
namespace Sys2Proof.Machine

/-- The queue, the mailbox, WARM_RUN, POWERCYCLE, SEC_FLOOR, the time and the phase (R15, R54, R86, R376, R377, R388). -/
def State.kept (s : State) : List Instr × Spi × Nat × Nat × Nat × Nat × Phase :=
  (s.pending, s.spi, s.start.warmRun, s.aon.powercycle, s.fw.floor, s.aon.nowUs, s.pwr.phase)

@[simp] theorem kept_mk (p : List Instr) (fr : Nat) (w : List Frame) (a : Aon) (b : Pwr) (st : Start) (n : Net) (sp : Spi)
    (au : Auth) (se : Tbl Sess) (h : HostSt) (j : Jrnl) (o : Tbl Own) (fw : Fw) (r : Rig) (tt : Telltale) (ha : Tbl HalPort)
    (sc : Scan) (po : Tbl PointE) (fo : Tbl FrontE) (co : Tbl Nat) (tr : Trend) (sh : Shv) (io : Fld) (m : Masts) (d : Dryers)
    (ro : Routes) :
    (State.mk p fr w a b st n sp au se h j o fw r tt ha sc po fo co tr sh io m d ro).kept =
      (p, sp, st.warmRun, a.powercycle, fw.floor, a.nowUs, b.phase) := rfl

@[simp] theorem kept_eta (s : State) : 
    (s.pending, s.spi, s.start.warmRun, s.aon.powercycle, s.fw.floor, s.aon.nowUs, s.pwr.phase) = s.kept := rfl

@[simp] theorem kept_ite (c : Prop) [Decidable c] (s t : State) :
    (if c then s else t).kept = if c then s.kept else t.kept := by split <;> rfl

@[simp] theorem fst_ite_kept {α : Type} (c : Prop) [Decidable c] (s t : State × α) :
    (if c then s else t).1.kept = if c then s.1.kept else t.1.kept := by split <;> rfl

@[simp] theorem snd_ite_kept {α : Type} (c : Prop) [Decidable c] (s t : α × State) :
    (if c then s else t).2.kept = if c then s.2.kept else t.2.kept := by split <;> rfl

@[simp] theorem forAll_kept {α : Type} (l : List α) (f : α → State → State) (h : ∀ a s, (f a s).kept = s.kept) (s : State) :
    (forAll l f s).kept = s.kept := by
  unfold forAll
  induction l generalizing s with
  | nil => rfl
  | cons a l ih => rw [List.foldl_cons, ih, h]

theorem iter_kept (f : State → State) (h : ∀ s, (f s).kept = s.kept) (n : Nat) (s : State) : (iter f n s).kept = s.kept := by
  induction n generalizing s with
  | zero => rfl
  | succ n ih => rw [iter, ih, h]

@[simp] theorem runItems_kept (n : Nat) (f : Nat → State → State × Nat) (h : ∀ i s, (f i s).1.kept = s.kept) (s : State) :
    (runItems n f s).1.kept = s.kept := by
  suffices H : ∀ (l : List Nat) (a : State × List Nat),
      (l.foldl (fun acc i => let r := f i acc.1; (r.1, acc.2 ++ [r.2])) a).1.kept = a.1.kept from H _ _
  intro l
  induction l with
  | nil => intro a; rfl
  | cons i l ih => intro a; rw [List.foldl_cons, ih, h]

@[simp] theorem State.draw_kept (s : Sys2Proof.Machine.State) : (State.draw s).2.kept = s.kept := by rfl

@[simp] theorem State.scanView_kept (s : Sys2Proof.Machine.State) : (State.scanView s).kept = s.kept := by simp [State.scanView]

@[simp] theorem State.setAfe_kept (s : Sys2Proof.Machine.State) (r : Nat) (v : Sys2Proof.Machine.AfeCh) : (State.setAfe s r v).kept = s.kept := by rfl

@[simp] theorem State.setAo_kept (s : Sys2Proof.Machine.State) (i : Nat) (v : Sys2Proof.Machine.AoCh) : (State.setAo s i v).kept = s.kept := by rfl

@[simp] theorem State.setBank_kept (s : Sys2Proof.Machine.State) (b : Nat) (v : Sys2Proof.Machine.LBank) : (State.setBank s b v).kept = s.kept := by rfl

@[simp] theorem State.setBkt_kept (s : Sys2Proof.Machine.State) (code : Nat) (b : Sys2Proof.Machine.Bucket) : (State.setBkt s code b).kept = s.kept := by rfl

@[simp] theorem State.setCap_kept (s : Sys2Proof.Machine.State) (b : Nat) (v : Sys2Proof.Machine.CapBuf) : (State.setCap s b v).kept = s.kept := by rfl

@[simp] theorem State.setConv_kept (s : Sys2Proof.Machine.State) (c : Nat) (v : Sys2Proof.Machine.Conv) : (State.setConv s c v).kept = s.kept := by rfl

@[simp] theorem State.setCursor_kept (s : Sys2Proof.Machine.State) (c : Nat) (v : Sys2Proof.Machine.Cursor) : (State.setCursor s c v).kept = s.kept := by rfl

@[simp] theorem State.setDgrp_kept (s : Sys2Proof.Machine.State) (g : Nat) (v : Sys2Proof.Machine.DioGrp) : (State.setDgrp s g v).kept = s.kept := by rfl

@[simp] theorem State.setDie_kept (s : Sys2Proof.Machine.State) (d : Nat) (v : Sys2Proof.Machine.Die) : (State.setDie s d v).kept = s.kept := by rfl

@[simp] theorem State.setDio_kept (s : Sys2Proof.Machine.State) (i : Nat) (v : Sys2Proof.Machine.DioCh) : (State.setDio s i v).kept = s.kept := by rfl

@[simp] theorem State.setDomain_kept (s : Sys2Proof.Machine.State) (d : Nat) (v : Sys2Proof.Machine.Domain) : (State.setDomain s d v).kept = s.kept := by rfl

@[simp] theorem State.setDryer_kept (s : Sys2Proof.Machine.State) (d : Nat) (v : Sys2Proof.Machine.Dryer) : (State.setDryer s d v).kept = s.kept := by rfl

@[simp] theorem State.setElem_kept (s : Sys2Proof.Machine.State) (e : Nat) (v : Sys2Proof.Machine.Elem) : (State.setElem s e v).kept = s.kept := by rfl

@[simp] theorem State.setFan_kept (s : Sys2Proof.Machine.State) (i : Nat) (v : Sys2Proof.Machine.FanCh) : (State.setFan s i v).kept = s.kept := by rfl

@[simp] theorem State.setFront_kept (s : Sys2Proof.Machine.State) (c : Nat) (e : Sys2Proof.Machine.FrontE) : (State.setFront s c e).kept = s.kept := by rfl

@[simp] theorem State.setFwSlot_kept (s : Sys2Proof.Machine.State) (i : Nat) (v : Sys2Proof.Machine.FwSlot) : (State.setFwSlot s i v).kept = s.kept := by simp [State.setFwSlot]

@[simp] theorem State.setGrp_kept (s : Sys2Proof.Machine.State) (g : Nat) (v : Sys2Proof.Machine.Grp) : (State.setGrp s g v).kept = s.kept := by rfl

@[simp] theorem State.setHp_kept (s : Sys2Proof.Machine.State) (p : Nat) (h : Sys2Proof.Machine.HalPort) : (State.setHp s p h).kept = s.kept := by rfl

@[simp] theorem State.setLedger_kept (s : Sys2Proof.Machine.State) (m : Nat) (v : Sys2Proof.Machine.Ledger) : (State.setLedger s m v).kept = s.kept := by rfl

@[simp] theorem State.setLoad_kept (s : Sys2Proof.Machine.State) (i : Nat) (v : Sys2Proof.Machine.LoadCh) : (State.setLoad s i v).kept = s.kept := by rfl

@[simp] theorem State.setLoop_kept (s : Sys2Proof.Machine.State) (l : Nat) (v : Sys2Proof.Machine.Loop) : (State.setLoop s l v).kept = s.kept := by rfl

@[simp] theorem State.setLoopInt_kept (s : Sys2Proof.Machine.State) (l : Nat) (v : Sys2Proof.Machine.LoopInt) : (State.setLoopInt s l v).kept = s.kept := by rfl

@[simp] theorem State.setMast_kept (s : Sys2Proof.Machine.State) (m : Nat) (v : Sys2Proof.Machine.Mast) : (State.setMast s m v).kept = s.kept := by rfl

@[simp] theorem State.setOut_kept (s : Sys2Proof.Machine.State) (k : Nat) (v : Sys2Proof.Machine.OutC) : (State.setOut s k v).kept = s.kept := by rfl

@[simp] theorem State.setOwn_kept (s : Sys2Proof.Machine.State) (key : Nat) (o : Sys2Proof.Machine.Own) : (State.setOwn s key o).kept = s.kept := by rfl

@[simp] theorem State.setPoint_kept (s : Sys2Proof.Machine.State) (p : Nat) (e : Sys2Proof.Machine.PointE) : (State.setPoint s p e).kept = s.kept := by rfl

@[simp] theorem State.setPort_kept (s : Sys2Proof.Machine.State) (p : Nat) (v : Sys2Proof.Machine.PortSt) : (State.setPort s p v).kept = s.kept := by rfl

@[simp] theorem State.setRdy_kept (s : Sys2Proof.Machine.State) (n : Nat) : (State.setRdy s n).kept = s.kept := by rfl

@[simp] theorem State.setRigBank_kept (s : Sys2Proof.Machine.State) (b : Nat) (v : Sys2Proof.Machine.Bank) : (State.setRigBank s b v).kept = s.kept := by simp [State.setRigBank]

@[simp] theorem State.setRoute_kept (s : Sys2Proof.Machine.State) (r : Nat) (v : Sys2Proof.Machine.Route) : (State.setRoute s r v).kept = s.kept := by rfl

@[simp] theorem State.setSes_kept (s : Sys2Proof.Machine.State) (k : Nat) (v : Sys2Proof.Machine.Sess) : (State.setSes s k v).kept = s.kept := by rfl

@[simp] theorem State.setStream_kept (s : Sys2Proof.Machine.State) (n : Nat) (v : Sys2Proof.Machine.Stream) : (State.setStream s n v).kept = s.kept := by rfl

@[simp] theorem State.setSw_kept (s : Sys2Proof.Machine.State) (n : Nat) (v : Sys2Proof.Machine.ThSw) : (State.setSw s n v).kept = s.kept := by rfl

@[simp] theorem dropFor_kept (slot : Nat) (sess : Nat) (s : Sys2Proof.Machine.State) : (dropFor slot sess s).kept = s.kept := by simp [dropFor]

@[simp] theorem send_kept (port : Nat) (addr : Nat) (slot : Nat) (sess : Nat) (notice : Bool) (bytes : Sys2Proof.Bytes) (s : Sys2Proof.Machine.State) : (send port addr slot sess notice bytes s).kept = s.kept := by simp [send]

@[simp] theorem notifyOne_kept (k : Nat) (bitNo : Nat) (op : Nat) (body : Sys2Proof.Bytes) (s : Sys2Proof.Machine.State) : (notifyOne k bitNo op body s).kept = s.kept := by simp [notifyOne]

@[simp] theorem notify_kept (bitNo : Nat) (op : Nat) (body : Sys2Proof.Bytes) (s : Sys2Proof.Machine.State) : (notify bitNo op body s).kept = s.kept := by simp [notify]

@[simp] theorem loopNotice_kept (l : Nat) (new : Nat) (event : Nat) (s : Sys2Proof.Machine.State) : (loopNotice l new event s).kept = s.kept := by simp [loopNotice]

@[simp] theorem raiseFlags_kept (l : Nat) (f : Nat) (event : Nat) (s : Sys2Proof.Machine.State) : (raiseFlags l f event s).kept = s.kept := by simp [raiseFlags]

@[simp] theorem abortInj_kept (l : Nat) (s : Sys2Proof.Machine.State) : (abortInj l s).kept = s.kept := by
  simp only [abortInj]
  repeat' split
  all_goals simp

@[simp] theorem addConflict_kept (p : Nat) (s : Sys2Proof.Machine.State) : (addConflict p s).kept = s.kept := by rfl

@[simp] theorem emit_kept (fs : List Sys2Proof.Machine.Frame) (s : Sys2Proof.Machine.State) : (emit fs s).kept = s.kept := by rfl

@[simp] theorem sendSearch_kept (p : Nat) (pfx : List Nat) (r : Sys2Proof.Machine.EnumRun) (s : Sys2Proof.Machine.State) : (sendSearch p pfx r s).kept = s.kept := by rfl

@[simp] theorem listMissing_kept (p : Nat) (s : Sys2Proof.Machine.State) : (listMissing p s).kept = s.kept := by simp [listMissing]

@[simp] theorem enumGo_kept (x0 : Nat) (x1 : Nat) (x2 : Sys2Proof.Machine.State) : (enumGo x0 x1 x2).kept = x2.kept := by
  induction x0 generalizing x2 with
  | zero => rfl
  | succ n ih =>
    unfold enumGo
    dsimp only
    repeat' split
    all_goals first | rfl | simp [ih]

@[simp] theorem ackFailed_kept (p : Nat) (ident : Nat) (s : Sys2Proof.Machine.State) : (ackFailed p ident s).kept = s.kept := by simp [ackFailed, enumFuel]

@[simp] theorem keepForCycle_kept (key : Nat) (s : Sys2Proof.Machine.State) : (keepForCycle key s).kept = s.kept := by simp [keepForCycle]

@[simp] theorem fanSettle_kept (i : Nat) (s : Sys2Proof.Machine.State) : (fanSettle i s).kept = s.kept := by rfl

@[simp] theorem fanProve_kept (i : Nat) (s : Sys2Proof.Machine.State) : (fanProve i s).kept = s.kept := by simp [fanProve]

@[simp] theorem fanKicked_kept (i : Nat) (s : Sys2Proof.Machine.State) : (fanKicked i s).kept = s.kept := by simp [fanKicked]

@[simp] theorem fanKick_kept (i : Nat) (tries : Nat) (s : Sys2Proof.Machine.State) : (fanKick i tries s).kept = s.kept := by simp [fanKick]

@[simp] theorem fanSeq_kept (i : Nat) (s : Sys2Proof.Machine.State) : (fanSeq i s).kept = s.kept := by simp [fanSeq]

@[simp] theorem formFan_kept (step : Bool) (i : Nat) (s : Sys2Proof.Machine.State) : (formFan step i s).kept = s.kept := by simp [formFan]

@[simp] theorem ttLose_kept (code : Nat) (s : Sys2Proof.Machine.State) : (ttLose code s).kept = s.kept := by simp [ttLose]

@[simp] theorem ttEnter_kept (stamp : Nat) (code : Nat) (source : Nat) (data : Sys2Proof.Bytes) (s : Sys2Proof.Machine.State) : (ttEnter stamp code source data s).kept = s.kept := by simp [ttEnter]

@[simp] theorem ttLimit_kept (stamp : Nat) (code : Nat) (source : Nat) (data : Sys2Proof.Bytes) (s : Sys2Proof.Machine.State) : (ttLimit stamp code source data s).kept = s.kept := by simp [ttLimit]

@[simp] theorem ttOccur_kept (die : Nat) (code : Nat) (source : Nat) (data : Sys2Proof.Bytes) (s : Sys2Proof.Machine.State) : (ttOccur die code source data s).kept = s.kept := by
  simp only [ttOccur]
  repeat' split
  all_goals simp

@[simp] theorem bankTo_kept (b : Nat) (st : Nat) (s : Sys2Proof.Machine.State) : (bankTo b st s).kept = s.kept := by simp [bankTo]

@[simp] theorem bankDone_kept (b : Nat) (s : Sys2Proof.Machine.State) : (bankDone b s).kept = s.kept := by simp [bankDone]

@[simp] theorem driveLoad_kept (i : Nat) (s : Sys2Proof.Machine.State) : (driveLoad i s).kept = s.kept := by simp [driveLoad]

@[simp] theorem barTest_kept (i : Nat) (s : Sys2Proof.Machine.State) : (barTest i s).kept = s.kept := by simp [barTest]

@[simp] theorem endTests_kept (i : Nat) (s : Sys2Proof.Machine.State) : (endTests i s).kept = s.kept := by simp [endTests]

@[simp] theorem driveDio_kept (i : Nat) (s : Sys2Proof.Machine.State) : (driveDio i s).kept = s.kept := by simp [driveDio]

@[simp] theorem driveAo_kept (i : Nat) (s : Sys2Proof.Machine.State) : (driveAo i s).kept = s.kept := by rfl

@[simp] theorem applyOut_kept (k : Nat) (s : Sys2Proof.Machine.State) : (applyOut k s).kept = s.kept := by
  simp only [applyOut]
  repeat' split
  all_goals simp

@[simp] theorem forcesNow_kept (s : Sys2Proof.Machine.State) : (forcesNow s).kept = s.kept := by simp [forcesNow]

@[simp] theorem sheavePlls_kept (s : Sys2Proof.Machine.State) : (sheavePlls s).kept = s.kept := by simp [sheavePlls]

@[simp] theorem putLine_kept (p : Nat) (h : Sys2Proof.Machine.HalPort) (s : Sys2Proof.Machine.State) : (putLine p h s).kept = s.kept := by simp [putLine]

@[simp] theorem switchOn_kept (p : Nat) (s : Sys2Proof.Machine.State) : (switchOn p s).kept = s.kept := by simp [switchOn]

@[simp] theorem switchOff_kept (p : Nat) (l : Sys2Proof.Machine.LineSt) (s : Sys2Proof.Machine.State) : (switchOff p l s).kept = s.kept := by simp [switchOff]

@[simp] theorem halActivate_kept (old : Sys2Proof.Bytes) (new : Sys2Proof.Bytes) (p : Nat) (s : Sys2Proof.Machine.State) : (halActivate old new p s).kept = s.kept := by simp [halActivate]

@[simp] theorem restartFront_kept (c : Nat) (s : Sys2Proof.Machine.State) : (restartFront c s).kept = s.kept := by rfl

@[simp] theorem pointActivate_kept (old : Sys2Proof.Bytes) (new : Sys2Proof.Bytes) (p : Nat) (s : Sys2Proof.Machine.State) : (pointActivate old new p s).kept = s.kept := by simp [pointActivate]

@[simp] theorem cableActivate_kept (c : Nat) (s : Sys2Proof.Machine.State) : (cableActivate c s).kept = s.kept := by rfl

@[simp] theorem mastActivate_kept (old : Sys2Proof.Bytes) (new : Sys2Proof.Bytes) (m : Nat) (s : Sys2Proof.Machine.State) : (mastActivate old new m s).kept = s.kept := by simp [mastActivate]

@[simp] theorem loopChanged_kept (old : Sys2Proof.Bytes) (new : Sys2Proof.Bytes) (l : Nat) (s : Sys2Proof.Machine.State) : (loopChanged old new l s).kept = s.kept := by simp [loopChanged]

@[simp] theorem loopActivate_kept (old : Sys2Proof.Bytes) (new : Sys2Proof.Bytes) (l : Nat) (s : Sys2Proof.Machine.State) : (loopActivate old new l s).kept = s.kept := by simp [loopActivate]

@[simp] theorem dryActivate_kept (old : Sys2Proof.Bytes) (new : Sys2Proof.Bytes) (i : Nat) (s : Sys2Proof.Machine.State) : (dryActivate old new i s).kept = s.kept := by simp [dryActivate]

@[simp] theorem routeActivate_kept (old : Sys2Proof.Bytes) (new : Sys2Proof.Bytes) (r : Nat) (s : Sys2Proof.Machine.State) : (routeActivate old new r s).kept = s.kept := by simp [routeActivate]

@[simp] theorem elemActivate_kept (new : Sys2Proof.Bytes) (e : Nat) (s : Sys2Proof.Machine.State) : (elemActivate new e s).kept = s.kept := by simp [elemActivate]

@[simp] theorem outActivate_kept (old : Sys2Proof.Machine.State) (k : Nat) (s : Sys2Proof.Machine.State) : (outActivate old k s).kept = s.kept := by
  simp only [outActivate]
  repeat' split
  all_goals simp

@[simp] theorem afeActivate_kept (old : Sys2Proof.Bytes) (new : Sys2Proof.Bytes) (r : Nat) (s : Sys2Proof.Machine.State) : (afeActivate old new r s).kept = s.kept := by simp [afeActivate]

@[simp] theorem setSwitch_kept (n : Nat) (on : Bool) (s : Sys2Proof.Machine.State) : (setSwitch n on s).kept = s.kept := by simp [setSwitch]

@[simp] theorem switchActivate_kept (old : Sys2Proof.Bytes) (new : Sys2Proof.Bytes) (n : Nat) (s : Sys2Proof.Machine.State) : (switchActivate old new n s).kept = s.kept := by simp [switchActivate]

@[simp] theorem setTimeouts_kept (s : Sys2Proof.Machine.State) : (setTimeouts s).kept = s.kept := by rfl

@[simp] theorem periodChanged_kept (old : Nat) (s : Sys2Proof.Machine.State) : (periodChanged old s).kept = s.kept := by simp [periodChanged]

@[simp] theorem portActivate_kept (old : Sys2Proof.Bytes) (new : Sys2Proof.Bytes) (p : Nat) (s : Sys2Proof.Machine.State) : (portActivate old new p s).kept = s.kept := by simp [portActivate]

@[simp] theorem activateKey_kept (old : Sys2Proof.Machine.State) (k : Nat) (s : Sys2Proof.Machine.State) : (activateKey old k s).kept = s.kept := by
  simp only [activateKey]
  repeat' split
  all_goals simp

@[simp] theorem switchRig_kept (keys : List Nat) (new : Sys2Proof.Machine.Tbl Sys2Proof.Bytes) (s : Sys2Proof.Machine.State) : (switchRig keys new s).kept = s.kept := by simp [switchRig]

@[simp] theorem dropQueued_kept (p : Nat) (s : Sys2Proof.Machine.State) : (dropQueued p s).kept = s.kept := by simp [dropQueued]

@[simp] theorem portRestart_kept (p : Nat) (s : Sys2Proof.Machine.State) : (portRestart p s).kept = s.kept := by simp [portRestart]

@[simp] theorem portsIfDue_kept (s : Sys2Proof.Machine.State) : (portsIfDue s).kept = s.kept := by simp [portsIfDue]

@[simp] theorem touchObj_kept (key : Nat) (jseq : Nat) (s : Sys2Proof.Machine.State) : (touchObj key jseq s).kept = s.kept := by simp [touchObj]

@[simp] theorem activate_kept (s : Sys2Proof.Machine.State) : (activate s).kept = s.kept := by
  simp only [activate]
  repeat' split
  all_goals simp

@[simp] theorem dropCtx_kept (x : Sys2Proof.Machine.HelloCtx) (s : Sys2Proof.Machine.State) : (dropCtx x s).kept = s.kept := by rfl

@[simp] theorem wdReload_kept (s : Sys2Proof.Machine.State) : (wdReload s).kept = s.kept := by rfl

@[simp] theorem silenceEnds_kept (s : Sys2Proof.Machine.State) : (silenceEnds s).kept = s.kept := by simp [silenceEnds]

@[simp] theorem heard_kept (k : Nat) (port : Nat) (addr : Nat) (s : Sys2Proof.Machine.State) : (heard k port addr s).kept = s.kept := by simp [heard]

@[simp] theorem tailWrite_kept (e : Sys2Proof.Machine.JEntry) (s : Sys2Proof.Machine.State) : (tailWrite e s).kept = s.kept := by
  simp only [tailWrite]
  repeat' split
  all_goals simp

@[simp] theorem jWrite_kept (e : Sys2Proof.Machine.JEntry) (s : Sys2Proof.Machine.State) : (jWrite e s).kept = s.kept := by simp [jWrite]

@[simp] theorem jAdmit_kept (c : Sys2Proof.Machine.Cmd) (items : Nat) (multi : Bool) (s : Sys2Proof.Machine.State) : (jAdmit c items multi s).kept = s.kept := by simp [jAdmit]

@[simp] theorem admitAuth_kept (k : Nat) (tag : Nat) (port : Nat) (addr : Nat) (payload : Sys2Proof.Bytes) (ks : Sys2Proof.Bytes) (x : Sys2Proof.Machine.HelloCtx) (ecc : List Sys2Proof.HoldEcc) (s : Sys2Proof.Machine.State) : (admitAuth k tag port addr payload ks x ecc s).kept = s.kept := by simp [admitAuth]

@[simp] theorem adopt_kept (s : Sys2Proof.Machine.State) : (adopt s).kept = s.kept := by rfl

@[simp] theorem dropPins_kept (gone : Nat) (s : Sys2Proof.Machine.State) : (dropPins gone s).kept = s.kept := by
  unfold dropPins
  refine forAll_kept _ _ ?_ _
  intro _ _
  try dsimp only
  repeat' split
  all_goals simp

@[simp] theorem ttNotice_kept (rnum : Nat) (s : Sys2Proof.Machine.State) : (ttNotice rnum s).kept = s.kept := by simp [ttNotice]

@[simp] theorem ttWriteNew_kept (r : Sys2Proof.Machine.TRec) (s : Sys2Proof.Machine.State) : (ttWriteNew r s).kept = s.kept := by simp [ttWriteNew]

@[simp] theorem ttOverflow_kept (s : Sys2Proof.Machine.State) : (ttOverflow s).kept = s.kept := by simp [ttOverflow]

@[simp] theorem ttSummary_kept (gained : Nat) (code : Nat) (s : Sys2Proof.Machine.State) : (ttSummary gained code s).kept = s.kept := by simp [ttSummary]

@[simp] theorem ttHeld_kept (s : Sys2Proof.Machine.State) : (ttHeld s).kept = s.kept := by
  unfold ttHeld
  refine forAll_kept _ _ ?_ _
  intro _ _
  try dsimp only
  repeat' split
  all_goals simp

@[simp] theorem ttWriteOcc_kept (o : Sys2Proof.Machine.TOcc) (s : Sys2Proof.Machine.State) : (ttWriteOcc o s).kept = s.kept := by simp [ttWriteOcc]

@[simp] theorem ttWriteStep_kept (s : Sys2Proof.Machine.State) : (ttWriteStep s).kept = s.kept := by
  simp only [ttWriteStep]
  repeat' split
  all_goals simp

@[simp] theorem ttDrain_kept (s : Sys2Proof.Machine.State) : (ttDrain s).kept = s.kept := by
  unfold ttDrain
  exact iter_kept _ ttWriteStep_kept _ _

@[simp] theorem ttMerge_kept (s : Sys2Proof.Machine.State) : (ttMerge s).kept = s.kept := by simp [ttMerge]

@[simp] theorem keepersShow_kept (s : Sys2Proof.Machine.State) : (keepersShow s).kept = s.kept := by simp [keepersShow]

@[simp] theorem loadRig_kept (s : Sys2Proof.Machine.State) : (loadRig s).1.kept = s.kept := by
  simp only [loadRig]
  repeat' split
  all_goals simp

@[simp] theorem rigResume_kept (fell : Bool) (s : Sys2Proof.Machine.State) : (rigResume fell s).kept = s.kept := by
  simp only [rigResume]
  repeat' split
  all_goals simp

@[simp] theorem startRig_kept (s : Sys2Proof.Machine.State) : (startRig s).kept = s.kept := by simp [startRig]

@[simp] theorem jDevice_kept (kind : Nat) (sess : Nat) (slot : Nat) (reason : Nat) (s : Sys2Proof.Machine.State) : (jDevice kind sess slot reason s).kept = s.kept := by simp [jDevice]

@[simp] theorem closeJournal_kept (s : Sys2Proof.Machine.State) : (closeJournal s).kept = s.kept := by rfl

@[simp] theorem orphanObj_kept (jseq : Nat) (key : Nat) (s : Sys2Proof.Machine.State) : (orphanObj jseq key s).kept = s.kept := by simp [orphanObj]

@[simp] theorem startJournal_kept (kind : Nat) (s : Sys2Proof.Machine.State) : (startJournal kind s).kept = s.kept := by simp [startJournal]

@[simp] theorem stopUnowned_kept (r : Nat) (s : Sys2Proof.Machine.State) : (stopUnowned r s).kept = s.kept := by simp [stopUnowned]

@[simp] theorem releaseObj_kept (jseq : Nat) (key : Nat) (s : Sys2Proof.Machine.State) : (releaseObj jseq key s).kept = s.kept := by simp [releaseObj]

@[simp] theorem orphanExpiry_kept (owner : Nat) (s : Sys2Proof.Machine.State) : (orphanExpiry owner s).kept = s.kept := by simp [orphanExpiry]

@[simp] theorem startOrphans_kept (s : Sys2Proof.Machine.State) : (startOrphans s).kept = s.kept := by simp [startOrphans]

@[simp] theorem setBits_kept (l : List Nat) (s : Sys2Proof.Machine.State) : (setBits l s).kept = s.kept := by simp [setBits]

@[simp] theorem startHost_kept (s : Sys2Proof.Machine.State) : (startHost s).kept = s.kept := by rfl

@[simp] theorem warmHold_kept (s : Sys2Proof.Machine.State) : (warmHold s).kept = s.kept := by rfl

@[simp] theorem warmChanges_kept (old : Sys2Proof.Machine.State) (s : Sys2Proof.Machine.State) : (warmChanges old s).kept = s.kept := by simp [warmChanges]

@[simp] theorem startRoutes_kept (warm : Bool) (s : Sys2Proof.Machine.State) : (startRoutes warm s).kept = s.kept := by rfl

@[simp] theorem startDryers_kept (warm : Bool) (s : Sys2Proof.Machine.State) : (startDryers warm s).kept = s.kept := by rfl

@[simp] theorem startMasts_kept (s : Sys2Proof.Machine.State) : (startMasts s).kept = s.kept := by rfl

@[simp] theorem loadLoops_kept (s : Sys2Proof.Machine.State) : (loadLoops s).kept = s.kept := by rfl

@[simp] theorem startRecord_kept (s : Sys2Proof.Machine.State) : (startRecord s).kept = s.kept := by simp [startRecord]

@[simp] theorem afeCalibration_kept (s : Sys2Proof.Machine.State) : (afeCalibration s).kept = s.kept := by simp [afeCalibration]

@[simp] theorem dupReply_kept (k : Nat) (op : Nat) (tag : Nat) (port : Nat) (addr : Nat) (s : Sys2Proof.Machine.State) : (dupReply k op tag port addr s).kept = s.kept := by simp [dupReply]

@[simp] theorem answerWaiters_kept (k : Nat) (tag : Nat) (s : Sys2Proof.Machine.State) : (answerWaiters k tag s).kept = s.kept := by simp [answerWaiters]

@[simp] theorem aoClear_kept (i : Nat) (s : Sys2Proof.Machine.State) : (aoClear i s).kept = s.kept := by simp [aoClear]

@[simp] theorem aoOpen_kept (i : Nat) (compliance : Bool) (s : Sys2Proof.Machine.State) : (aoOpen i compliance s).kept = s.kept := by simp [aoOpen]

@[simp] theorem aoShort_kept (i : Nat) (s : Sys2Proof.Machine.State) : (aoShort i s).kept = s.kept := by simp [aoShort]

@[simp] theorem applyDie_kept (d : Nat) (s : Sys2Proof.Machine.State) : (applyDie d s).kept = s.kept := by simp [applyDie]

@[simp] theorem arpRequest_kept (i : Nat) (target : Nat) (sender : Nat) (mac : Nat) (s : Sys2Proof.Machine.State) : (arpRequest i target sender mac s).kept = s.kept := by simp [arpRequest]

@[simp] theorem ttDiscard_kept (reason : Nat) (port : Nat) (session : Nat) (s : Sys2Proof.Machine.State) : (ttDiscard reason port session s).kept = s.kept := by simp [ttDiscard]

@[simp] theorem hello_kept (tag : Nat) (port : Nat) (addr : Nat) (hostNonce : Sys2Proof.Bytes) (s : Sys2Proof.Machine.State) : (hello tag port addr hostNonce s).kept = s.kept := by simp [hello]

@[simp] theorem authReply_kept (tag : Nat) (port : Nat) (addr : Nat) (status : Nat) (ks : Sys2Proof.Bytes) (s : Sys2Proof.Machine.State) : (authReply tag port addr status ks s).kept = s.kept := by simp [authReply]

@[simp] theorem authPacket_kept (tag : Nat) (port : Nat) (addr : Nat) (bs : Sys2Proof.Bytes) (ecc : List Sys2Proof.HoldEcc) (s : Sys2Proof.Machine.State) : (authPacket tag port addr bs ecc s).kept = s.kept := by
  simp only [authPacket]
  repeat' split
  all_goals simp

@[simp] theorem enqueue_kept (c : Sys2Proof.Machine.Cmd) (s : Sys2Proof.Machine.State) : (enqueue c s).kept = s.kept := by simp [enqueue]

@[simp] theorem resend_kept (k : Nat) (op : Nat) (tag : Nat) (port : Nat) (addr : Nat) (s : Sys2Proof.Machine.State) : (resend k op tag port addr s).kept = s.kept := by simp [resend]

@[simp] theorem refuse_kept (k : Nat) (op : Nat) (tag : Nat) (port : Nat) (addr : Nat) (status : Nat) (s : Sys2Proof.Machine.State) : (refuse k op tag port addr status s).kept = s.kept := by simp [refuse]

@[simp] theorem sessionPacket_kept (k : Nat) (op : Nat) (tag : Nat) (port : Nat) (addr : Nat) (rsvOk : Bool) (p : Sys2Proof.Bytes) (ecc : List Sys2Proof.HoldEcc) (s : Sys2Proof.Machine.State) : (sessionPacket k op tag port addr rsvOk p ecc s).kept = s.kept := by
  simp only [sessionPacket]
  repeat' split
  all_goals simp

@[simp] theorem arrive_kept (port : Nat) (addr : Nat) (bs : Sys2Proof.Bytes) (ecc : List Sys2Proof.HoldEcc) (s : Sys2Proof.Machine.State) : (arrive port addr bs ecc s).kept = s.kept := by
  simp only [arrive]
  repeat' split
  all_goals simp

@[simp] theorem assigned_kept (p : Nat) (ident : Nat) (want : Nat) (s : Sys2Proof.Machine.State) : (assigned p ident want s).kept = s.kept := by simp [assigned, enumFuel]

@[simp] theorem setVbb_kept (b : Nat) (cV : Nat) (s : Sys2Proof.Machine.State) : (setVbb b cV s).kept = s.kept := by rfl

@[simp] theorem bankHold_kept (b : Nat) (cV : Nat) (s : Sys2Proof.Machine.State) : (bankHold b cV s).kept = s.kept := by simp [bankHold]

@[simp] theorem bankHoldExit_kept (b : Nat) (cV : Nat) (s : Sys2Proof.Machine.State) : (bankHoldExit b cV s).kept = s.kept := by simp [bankHoldExit]

@[simp] theorem bankRestart_kept (b : Nat) (cV : Nat) (s : Sys2Proof.Machine.State) : (bankRestart b cV s).kept = s.kept := by simp [bankRestart]

@[simp] theorem loadRecord2_kept (i : Nat) (code : Nat) (mA : Nat) (s : Sys2Proof.Machine.State) : (loadRecord2 i code mA s).kept = s.kept := by simp [loadRecord2]

@[simp] theorem loadTrip_kept (i : Nat) (code : Nat) (mA : Nat) (s : Sys2Proof.Machine.State) : (loadTrip i code mA s).kept = s.kept := by simp [loadTrip]

@[simp] theorem shedLoad_kept (l : List Nat) (s : Sys2Proof.Machine.State) : (shedLoad l s).kept = s.kept := by
  simp only [shedLoad]
  repeat' split
  all_goals simp

@[simp] theorem bankShed_kept (b : Nat) (cA : Nat) (s : Sys2Proof.Machine.State) : (bankShed b cA s).kept = s.kept := by simp [bankShed]

@[simp] theorem bankUndervoltage_kept (b : Nat) (cV : Nat) (s : Sys2Proof.Machine.State) : (bankUndervoltage b cV s).kept = s.kept := by simp [bankUndervoltage]

@[simp] theorem bookOverrun_kept (l : Nat) (s : Sys2Proof.Machine.State) : (bookOverrun l s).kept = s.kept := by simp [bookOverrun]

@[simp] theorem bookAll_kept (l : Nat) (s : Sys2Proof.Machine.State) : (bookAll l s).kept = s.kept := by
  unfold bookAll
  exact iter_kept _ (bookOverrun_kept _) _ _

@[simp] theorem bookSecond_kept (m : Nat) (s : Sys2Proof.Machine.State) : (bookSecond m s).kept = s.kept := by rfl

@[simp] theorem bosunRefresh_kept (s : Sys2Proof.Machine.State) : (bosunRefresh s).kept = s.kept := by simp [bosunRefresh]

@[simp] theorem ttColdReset_kept (s : Sys2Proof.Machine.State) : (ttColdReset s).kept = s.kept := by rfl

@[simp] theorem closeTxn_kept (s : Sys2Proof.Machine.State) : (closeTxn s).kept = s.kept := by
  simp only [closeTxn]
  repeat' split
  all_goals simp

@[simp] theorem rigReset_kept (s : Sys2Proof.Machine.State) : (rigReset s).kept = s.kept := by
  simp only [rigReset]
  repeat' split
  all_goals simp

@[simp] theorem clearStats_kept (s : Sys2Proof.Machine.State) : (clearStats s).kept = s.kept := by simp [clearStats]

@[simp] theorem ttDropFifo_kept (s : Sys2Proof.Machine.State) : (ttDropFifo s).kept = s.kept := by simp [ttDropFifo]

@[simp] theorem notice_kept (d : Nat) (s : Sys2Proof.Machine.State) : (notice d s).kept = s.kept := by simp [notice]

@[simp] theorem cableDone_kept (c : Nat) (s : Sys2Proof.Machine.State) : (cableDone c s).kept = s.kept := by simp [cableDone]

@[simp] theorem linkRecord_kept (p : Nat) (up : Bool) (s : Sys2Proof.Machine.State) : (linkRecord p up s).kept = s.kept := by simp [linkRecord]

@[simp] theorem canBusOff_kept (p : Nat) (s : Sys2Proof.Machine.State) : (canBusOff p s).kept = s.kept := by simp [canBusOff]

@[simp] theorem canDrop_kept (p : Nat) (node : Nat) (s : Sys2Proof.Machine.State) : (canDrop p node s).kept = s.kept := by rfl

@[simp] theorem canRecover_kept (p : Nat) (s : Sys2Proof.Machine.State) : (canRecover p s).kept = s.kept := by simp [canRecover]

@[simp] theorem canTake_kept (c : Sys2Proof.Machine.CanCtx) (last : Bool) (hdr : Nat) (data : Sys2Proof.Bytes) (s : Sys2Proof.Machine.State) : (canTake c last hdr data s).kept = s.kept := by simp [canTake]

@[simp] theorem canSegment_kept (f : Sys2Proof.CanFrame) (s : Sys2Proof.Machine.State) : (canSegment f s).kept = s.kept := by
  simp only [canSegment]
  repeat' split
  all_goals simp

@[simp] theorem canTimeout_kept (p : Nat) (node : Nat) (s : Sys2Proof.Machine.State) : (canTimeout p node s).kept = s.kept := by
  simp only [canTimeout]
  repeat' split
  all_goals simp

@[simp] theorem capDamage_kept (o : Nat) (s : Sys2Proof.Machine.State) : (capDamage o s).kept = s.kept := by simp [capDamage]

@[simp] theorem captureStep_kept (edge : Sys2Proof.Machine.State) (l : Nat) (tick : Nat) (o : Sys2Proof.Machine.SampleOut) (s : Sys2Proof.Machine.State) : (captureStep edge l tick o s).kept = s.kept := by
  simp only [captureStep]
  repeat' split
  all_goals simp

@[simp] theorem judge_kept (r : Nat) (n : Nat) (s : Sys2Proof.Machine.State) : (judge r n s).kept = s.kept := by
  simp only [judge]
  repeat' split
  all_goals simp

@[simp] theorem judgeAll_kept (r : Nat) (s : Sys2Proof.Machine.State) : (judgeAll r s).kept = s.kept := by simp [judgeAll]

@[simp] theorem setQual_kept (r : Nat) (q : Nat) (s : Sys2Proof.Machine.State) : (setQual r q s).kept = s.kept := by simp [setQual]

@[simp] theorem channelStale_kept (r : Nat) (s : Sys2Proof.Machine.State) : (channelStale r s).kept = s.kept := by
  simp only [channelStale]
  repeat' split
  all_goals simp

@[simp] theorem fanClear_kept (i : Nat) (s : Sys2Proof.Machine.State) : (fanClear i s).kept = s.kept := by simp [fanClear]

@[simp] theorem loadClear_kept (i : Nat) (s : Sys2Proof.Machine.State) : (loadClear i s).2.kept = s.kept := by simp [loadClear]

@[simp] theorem dioClear_kept (i : Nat) (s : Sys2Proof.Machine.State) : (dioClear i s).2.kept = s.kept := by simp [dioClear]

@[simp] theorem clearFault_kept (k : Nat) (s : Sys2Proof.Machine.State) : (clearFault k s).2.kept = s.kept := by
  simp only [clearFault]
  repeat' split
  all_goals simp

@[simp] theorem passObj_kept (jseq : Nat) (sess : Nat) (role : Nat) (key : Nat) (s : Sys2Proof.Machine.State) : (passObj jseq sess role key s).kept = s.kept := by simp [passObj]

@[simp] theorem commitItem_kept (key : Nat) (jseq : Nat) (sess : Nat) (role : Nat) (s : Sys2Proof.Machine.State) : (commitItem key jseq sess role s).kept = s.kept := by simp [commitItem]

@[simp] theorem clearItem_kept (c : Sys2Proof.Machine.Cmd) (i : Nat) (s : Sys2Proof.Machine.State) : (clearItem c i s).1.kept = s.kept := by simp [clearItem]

@[simp] theorem replyTo_kept (c : Sys2Proof.Machine.Cmd) (r : Sys2Proof.Machine.Res) (s : Sys2Proof.Machine.State) : (replyTo c r s).kept = s.kept := by simp [replyTo]

@[simp] theorem jClose_kept (jseq : Nat) (st : Nat) (status : Nat) (os : List Nat) (s : Sys2Proof.Machine.State) : (jClose jseq st status os s).kept = s.kept := by simp [jClose]

@[simp] theorem closeCmd_kept (c : Sys2Proof.Machine.Cmd) (r : Sys2Proof.Machine.Res) (s : Sys2Proof.Machine.State) : (closeCmd c r s).kept = s.kept := by simp [closeCmd]

@[simp] theorem hoist_kept (d : Nat) (s : Sys2Proof.Machine.State) : (hoist d s).kept = s.kept := by simp [hoist]

@[simp] theorem coldAfe_kept (s : Sys2Proof.Machine.State) : (coldAfe s).kept = s.kept := by simp [coldAfe]

@[simp] theorem coldChanges_kept (old : Sys2Proof.Machine.State) (s : Sys2Proof.Machine.State) : (coldChanges old s).kept = s.kept := by simp [coldChanges]

@[simp] theorem confDie_kept (d : Nat) (s : Sys2Proof.Machine.State) : (confDie d s).kept = s.kept := by rfl

@[simp] theorem coldField_kept (s : Sys2Proof.Machine.State) : (coldField s).kept = s.kept := by simp [coldField]

@[simp] theorem trendDamage_kept (o : Nat) (s : Sys2Proof.Machine.State) : (trendDamage o s).kept = s.kept := by rfl

@[simp] theorem damageRecord_kept (p : Nat) (s : Sys2Proof.Machine.State) : (damageRecord p s).kept = s.kept := by
  simp only [damageRecord]
  repeat' split
  all_goals simp

@[simp] theorem slotEcc_kept (l : Nat) (s : Sys2Proof.Machine.State) : (slotEcc l s).kept = s.kept := by simp [slotEcc]

@[simp] theorem endTxn_kept (sess : Nat) (s : Sys2Proof.Machine.State) : (endTxn sess s).kept = s.kept := by
  simp only [endTxn]
  repeat' split
  all_goals simp

@[simp] theorem dropCursors_kept (sess : Nat) (s : Sys2Proof.Machine.State) : (dropCursors sess s).kept = s.kept := by rfl

@[simp] theorem dropCaptures_kept (sess : Nat) (s : Sys2Proof.Machine.State) : (dropCaptures sess s).kept = s.kept := by simp [dropCaptures]

@[simp] theorem freePools_kept (sess : Nat) (s : Sys2Proof.Machine.State) : (freePools sess s).kept = s.kept := by simp [freePools]

@[simp] theorem disposeObj_kept (e : Sys2Proof.Machine.Ending) (j : Nat) (key : Nat) (s : Sys2Proof.Machine.State) : (disposeObj e j key s).kept = s.kept := by simp [disposeObj]

@[simp] theorem finishEnd_kept (k : Nat) (e : Sys2Proof.Machine.Ending) (s : Sys2Proof.Machine.State) : (finishEnd k e s).kept = s.kept := by simp [finishEnd]

@[simp] theorem endIdle_kept (s : Sys2Proof.Machine.State) : (endIdle s).kept = s.kept := by
  unfold endIdle
  refine forAll_kept _ _ ?_ _
  intro _ _
  try dsimp only
  repeat' split
  all_goals simp

@[simp] theorem markEnd_kept (k : Nat) (e : Sys2Proof.Machine.Ending) (s : Sys2Proof.Machine.State) : (markEnd k e s).kept = s.kept := by rfl

@[simp] theorem takeOver_kept (c : Sys2Proof.Machine.Cmd) (s : Sys2Proof.Machine.State) : (takeOver c s).kept = s.kept := by
  simp only [takeOver]
  repeat' split
  all_goals simp

@[simp] theorem runAuth_kept (c : Sys2Proof.Machine.Cmd) (s : Sys2Proof.Machine.State) : (runAuth c s).1.kept = s.kept := by simp [runAuth]

@[simp] theorem runAfeRead_kept (c : Sys2Proof.Machine.Cmd) (s : Sys2Proof.Machine.State) : (runAfeRead c s).1.kept = s.kept := by rfl

@[simp] theorem cutQueue_kept (sess : Nat) (keep : Nat) (s : Sys2Proof.Machine.State) : (cutQueue sess keep s).1.kept = s.kept := by simp [cutQueue]

@[simp] theorem quotaNotice_kept (k : Nat) (mask : Nat) (cut : Nat) (s : Sys2Proof.Machine.State) : (quotaNotice k mask cut s).kept = s.kept := by simp [quotaNotice]

@[simp] theorem runQuotaSet_kept (c : Sys2Proof.Machine.Cmd) (s : Sys2Proof.Machine.State) : (runQuotaSet c s).1.kept = s.kept := by simp [runQuotaSet]

@[simp] theorem runTtPin_kept (c : Sys2Proof.Machine.Cmd) (s : Sys2Proof.Machine.State) : (runTtPin c s).1.kept = s.kept := by simp [runTtPin]

@[simp] theorem rigWrite_kept (key : Nat) (off : Nat) (bytes : Sys2Proof.Bytes) (jseq : Nat) (item : Nat) (s : Sys2Proof.Machine.State) : (rigWrite key off bytes jseq item s).kept = s.kept := by simp [rigWrite]

@[simp] theorem threshItem_kept (c : Sys2Proof.Machine.Cmd) (i : Nat) (s : Sys2Proof.Machine.State) : (threshItem c i s).1.kept = s.kept := by simp [threshItem]

@[simp] theorem runThreshSet_kept (c : Sys2Proof.Machine.Cmd) (s : Sys2Proof.Machine.State) : (runThreshSet c s).1.kept = s.kept := by simp [runThreshSet]

@[simp] theorem runTrendRead_kept (c : Sys2Proof.Machine.Cmd) (s : Sys2Proof.Machine.State) : (runTrendRead c s).1.kept = s.kept := by simp [runTrendRead]

@[simp] theorem runRigAbort_kept (c : Sys2Proof.Machine.Cmd) (s : Sys2Proof.Machine.State) : (runRigAbort c s).1.kept = s.kept := by
  simp only [runRigAbort]
  repeat' split
  all_goals simp

@[simp] theorem modeItem_kept (c : Sys2Proof.Machine.Cmd) (i : Nat) (s : Sys2Proof.Machine.State) : (modeItem c i s).1.kept = s.kept := by simp [modeItem]

@[simp] theorem runLoopMode_kept (c : Sys2Proof.Machine.Cmd) (s : Sys2Proof.Machine.State) : (runLoopMode c s).1.kept = s.kept := by simp [runLoopMode]

@[simp] theorem runTrendStatus_kept (c : Sys2Proof.Machine.Cmd) (s : Sys2Proof.Machine.State) : (runTrendStatus c s).1.kept = s.kept := by simp [runTrendStatus]

@[simp] theorem runMastRead_kept (c : Sys2Proof.Machine.Cmd) (s : Sys2Proof.Machine.State) : (runMastRead c s).1.kept = s.kept := by rfl

@[simp] theorem runCaptureRead_kept (c : Sys2Proof.Machine.Cmd) (s : Sys2Proof.Machine.State) : (runCaptureRead c s).1.kept = s.kept := by simp [runCaptureRead]

@[simp] theorem runCaptureFree_kept (c : Sys2Proof.Machine.Cmd) (s : Sys2Proof.Machine.State) : (runCaptureFree c s).1.kept = s.kept := by simp [runCaptureFree]

@[simp] theorem runCapture_kept (c : Sys2Proof.Machine.Cmd) (s : Sys2Proof.Machine.State) : (runCapture c s).1.kept = s.kept := by simp [runCapture]

@[simp] theorem runDryerMode_kept (c : Sys2Proof.Machine.Cmd) (s : Sys2Proof.Machine.State) : (runDryerMode c s).1.kept = s.kept := by simp [runDryerMode]

@[simp] theorem runTtOpen_kept (c : Sys2Proof.Machine.Cmd) (s : Sys2Proof.Machine.State) : (runTtOpen c s).1.kept = s.kept := by
  simp only [runTtOpen]
  repeat' split
  all_goals simp

@[simp] theorem runKeySet_kept (c : Sys2Proof.Machine.Cmd) (s : Sys2Proof.Machine.State) : (runKeySet c s).1.kept = s.kept := by rfl

@[simp] theorem mastItem_kept (c : Sys2Proof.Machine.Cmd) (i : Nat) (s : Sys2Proof.Machine.State) : (mastItem c i s).1.kept = s.kept := by simp [mastItem]

@[simp] theorem runMastMode_kept (c : Sys2Proof.Machine.Cmd) (s : Sys2Proof.Machine.State) : (runMastMode c s).1.kept = s.kept := by simp [runMastMode]

@[simp] theorem runRouteClaim_kept (c : Sys2Proof.Machine.Cmd) (s : Sys2Proof.Machine.State) : (runRouteClaim c s).1.kept = s.kept := by
  simp only [runRouteClaim]
  repeat' split
  all_goals simp

@[simp] theorem runBye_kept (c : Sys2Proof.Machine.Cmd) (s : Sys2Proof.Machine.State) : (runBye c s).1.kept = s.kept := by rfl

@[simp] theorem runTimeMark_kept (c : Sys2Proof.Machine.Cmd) (s : Sys2Proof.Machine.State) : (runTimeMark c s).1.kept = s.kept := by simp [runTimeMark]

@[simp] theorem runGetReady_kept (x0 : Sys2Proof.Machine.Cmd) (s : Sys2Proof.Machine.State) : (runGetReady x0 s).1.kept = s.kept := by
  simp only [runGetReady]
  repeat' split
  all_goals simp

@[simp] theorem runScanSet_kept (c : Sys2Proof.Machine.Cmd) (s : Sys2Proof.Machine.State) : (runScanSet c s).1.kept = s.kept := by simp [runScanSet]

@[simp] theorem runSubscribe_kept (c : Sys2Proof.Machine.Cmd) (s : Sys2Proof.Machine.State) : (runSubscribe c s).1.kept = s.kept := by rfl

@[simp] theorem runPointRead_kept (c : Sys2Proof.Machine.Cmd) (s : Sys2Proof.Machine.State) : (runPointRead c s).1.kept = s.kept := by rfl

@[simp] theorem runTrendClose_kept (c : Sys2Proof.Machine.Cmd) (s : Sys2Proof.Machine.State) : (runTrendClose c s).1.kept = s.kept := by simp [runTrendClose]

@[simp] theorem runTtClear_kept (c : Sys2Proof.Machine.Cmd) (s : Sys2Proof.Machine.State) : (runTtClear c s).1.kept = s.kept := by simp [runTtClear]

@[simp] theorem runLoopRead_kept (c : Sys2Proof.Machine.Cmd) (s : Sys2Proof.Machine.State) : (runLoopRead c s).1.kept = s.kept := by rfl

@[simp] theorem runFanRead_kept (c : Sys2Proof.Machine.Cmd) (s : Sys2Proof.Machine.State) : (runFanRead c s).1.kept = s.kept := by rfl

@[simp] theorem flagItem_kept (c : Sys2Proof.Machine.Cmd) (i : Nat) (s : Sys2Proof.Machine.State) : (flagItem c i s).1.kept = s.kept := by simp [flagItem]

@[simp] theorem runLoopClear_kept (c : Sys2Proof.Machine.Cmd) (s : Sys2Proof.Machine.State) : (runLoopClear c s).1.kept = s.kept := by simp [runLoopClear]

@[simp] theorem saveImage_kept (c : Sys2Proof.Machine.Cmd) (s : Sys2Proof.Machine.State) : (saveImage c s).2.kept = s.kept := by rfl

@[simp] theorem runRigSave_kept (c : Sys2Proof.Machine.Cmd) (s : Sys2Proof.Machine.State) : (runRigSave c s).1.kept = s.kept := by simp [runRigSave]

@[simp] theorem runResultOf_kept (c : Sys2Proof.Machine.Cmd) (s : Sys2Proof.Machine.State) : (runResultOf c s).1.kept = s.kept := by
  simp only [runResultOf]
  repeat' split
  all_goals simp

@[simp] theorem runThreshRead_kept (c : Sys2Proof.Machine.Cmd) (s : Sys2Proof.Machine.State) : (runThreshRead c s).1.kept = s.kept := by rfl

@[simp] theorem runLoadRead_kept (c : Sys2Proof.Machine.Cmd) (s : Sys2Proof.Machine.State) : (runLoadRead c s).1.kept = s.kept := by rfl

@[simp] theorem runRigGet_kept (c : Sys2Proof.Machine.Cmd) (s : Sys2Proof.Machine.State) : (runRigGet c s).1.kept = s.kept := by
  simp only [runRigGet]
  repeat' split
  all_goals simp

@[simp] theorem runNone_kept (x0 : Sys2Proof.Machine.Cmd) (s : Sys2Proof.Machine.State) : (runNone x0 s).1.kept = s.kept := by
  simp only [runNone]
  repeat' split
  all_goals simp

@[simp] theorem runDryerStep_kept (c : Sys2Proof.Machine.Cmd) (s : Sys2Proof.Machine.State) : (runDryerStep c s).1.kept = s.kept := by simp [runDryerStep]

@[simp] theorem runInject_kept (c : Sys2Proof.Machine.Cmd) (s : Sys2Proof.Machine.State) : (runInject c s).1.kept = s.kept := by
  simp only [runInject]
  repeat' split
  all_goals simp

@[simp] theorem spItem_kept (c : Sys2Proof.Machine.Cmd) (i : Nat) (s : Sys2Proof.Machine.State) : (spItem c i s).1.kept = s.kept := by simp [spItem]

@[simp] theorem runLoopSetSp_kept (c : Sys2Proof.Machine.Cmd) (s : Sys2Proof.Machine.State) : (runLoopSetSp c s).1.kept = s.kept := by simp [runLoopSetSp]

@[simp] theorem runTtRead_kept (c : Sys2Proof.Machine.Cmd) (s : Sys2Proof.Machine.State) : (runTtRead c s).1.kept = s.kept := by simp [runTtRead]

@[simp] theorem routeCommit_kept (c : Sys2Proof.Machine.Cmd) (it : Nat) (s : Sys2Proof.Machine.State) : (routeCommit c it s).1.kept = s.kept := by simp [routeCommit]

@[simp] theorem runRouteStart_kept (c : Sys2Proof.Machine.Cmd) (s : Sys2Proof.Machine.State) : (runRouteStart c s).1.kept = s.kept := by simp [runRouteStart]

@[simp] theorem runFwUpdate_kept (c : Sys2Proof.Machine.Cmd) (s : Sys2Proof.Machine.State) : (runFwUpdate c s).1.kept = s.kept := by
  simp only [runFwUpdate, runFwUpdate.fwBegin]
  repeat' split
  all_goals simp

@[simp] theorem runKeepalive_kept (c : Sys2Proof.Machine.Cmd) (s : Sys2Proof.Machine.State) : (runKeepalive c s).1.kept = s.kept := by rfl

@[simp] theorem runRouteRead_kept (c : Sys2Proof.Machine.Cmd) (s : Sys2Proof.Machine.State) : (runRouteRead c s).1.kept = s.kept := by rfl

@[simp] theorem runSysInfo_kept (x0 : Sys2Proof.Machine.Cmd) (s : Sys2Proof.Machine.State) : (runSysInfo x0 s).1.kept = s.kept := by
  simp only [runSysInfo]
  repeat' split
  all_goals simp

@[simp] theorem lowerRole_kept (k : Nat) (role : Nat) (jseq : Nat) (s : Sys2Proof.Machine.State) : (lowerRole k role jseq s).kept = s.kept := by simp [lowerRole]

@[simp] theorem runRoleSet_kept (c : Sys2Proof.Machine.Cmd) (s : Sys2Proof.Machine.State) : (runRoleSet c s).1.kept = s.kept := by
  simp only [runRoleSet]
  repeat' split
  all_goals simp

@[simp] theorem runStateDigest_kept (c : Sys2Proof.Machine.Cmd) (s : Sys2Proof.Machine.State) : (runStateDigest c s).1.kept = s.kept := by rfl

@[simp] theorem runPowerPlan_kept (c : Sys2Proof.Machine.Cmd) (s : Sys2Proof.Machine.State) : (runPowerPlan c s).1.kept = s.kept := by
  simp only [runPowerPlan]
  repeat' split
  all_goals simp

@[simp] theorem runDryerRead_kept (c : Sys2Proof.Machine.Cmd) (s : Sys2Proof.Machine.State) : (runDryerRead c s).1.kept = s.kept := by rfl

@[simp] theorem runJournalRead_kept (c : Sys2Proof.Machine.Cmd) (s : Sys2Proof.Machine.State) : (runJournalRead c s).1.kept = s.kept := by rfl

@[simp] theorem runReset_kept (c : Sys2Proof.Machine.Cmd) (s : Sys2Proof.Machine.State) : (runReset c s).1.kept = s.kept := by rfl

@[simp] theorem runDioRead_kept (c : Sys2Proof.Machine.Cmd) (s : Sys2Proof.Machine.State) : (runDioRead c s).1.kept = s.kept := by rfl

@[simp] theorem runTrendOpen_kept (c : Sys2Proof.Machine.Cmd) (s : Sys2Proof.Machine.State) : (runTrendOpen c s).1.kept = s.kept := by
  simp only [runTrendOpen]
  repeat' split
  all_goals simp

@[simp] theorem runBankSelect_kept (c : Sys2Proof.Machine.Cmd) (s : Sys2Proof.Machine.State) : (runBankSelect c s).1.kept = s.kept := by simp [runBankSelect]

@[simp] theorem runFaultClear_kept (c : Sys2Proof.Machine.Cmd) (s : Sys2Proof.Machine.State) : (runFaultClear c s).1.kept = s.kept := by simp [runFaultClear]

@[simp] theorem writeItem_kept (c : Sys2Proof.Machine.Cmd) (i : Nat) (s : Sys2Proof.Machine.State) : (writeItem c i s).1.kept = s.kept := by simp [writeItem]

@[simp] theorem runWrite_kept (c : Sys2Proof.Machine.Cmd) (s : Sys2Proof.Machine.State) : (runWrite c s).1.kept = s.kept := by simp [runWrite]

@[simp] theorem putItem_kept (c : Sys2Proof.Machine.Cmd) (i : Nat) (s : Sys2Proof.Machine.State) : (putItem c i s).1.kept = s.kept := by
  simp only [putItem]
  repeat' split
  all_goals simp

@[simp] theorem runRigPut_kept (c : Sys2Proof.Machine.Cmd) (s : Sys2Proof.Machine.State) : (runRigPut c s).1.kept = s.kept := by simp [runRigPut]

@[simp] theorem runFrontRead_kept (c : Sys2Proof.Machine.Cmd) (s : Sys2Proof.Machine.State) : (runFrontRead c s).1.kept = s.kept := by rfl

@[simp] theorem runLedgerRead_kept (c : Sys2Proof.Machine.Cmd) (s : Sys2Proof.Machine.State) : (runLedgerRead c s).1.kept = s.kept := by rfl

@[simp] theorem commitFail_kept (errs : List Sys2Proof.Machine.VErr) (s : Sys2Proof.Machine.State) : (commitFail errs s).1.kept = s.kept := by rfl

@[simp] theorem runRigCommit_kept (c : Sys2Proof.Machine.Cmd) (s : Sys2Proof.Machine.State) : (runRigCommit c s).1.kept = s.kept := by
  simp only [runRigCommit]
  repeat' split
  all_goals simp

@[simp] theorem runFrontLog_kept (c : Sys2Proof.Machine.Cmd) (s : Sys2Proof.Machine.State) : (runFrontLog c s).1.kept = s.kept := by rfl

@[simp] theorem runObjectVersions_kept (c : Sys2Proof.Machine.Cmd) (s : Sys2Proof.Machine.State) : (runObjectVersions c s).1.kept = s.kept := by rfl

@[simp] theorem runRouteStop_kept (c : Sys2Proof.Machine.Cmd) (s : Sys2Proof.Machine.State) : (runRouteStop c s).1.kept = s.kept := by simp [runRouteStop]

@[simp] theorem runEnumerate_kept (c : Sys2Proof.Machine.Cmd) (s : Sys2Proof.Machine.State) : (runEnumerate c s).1.kept = s.kept := by simp [runEnumerate]

@[simp] theorem runTrend_kept (c : Sys2Proof.Machine.Cmd) (s : Sys2Proof.Machine.State) : (runTrend c s).1.kept = s.kept := by
  simp only [runTrend]
  repeat' split
  all_goals simp

@[simp] theorem ttSetMode_kept (lx : Bool) (s : Sys2Proof.Machine.State) : (ttSetMode lx s).kept = s.kept := by simp [ttSetMode]

@[simp] theorem ttSetLimit_kept (burst : Nat) (refill : Nat) (code : Nat) (s : Sys2Proof.Machine.State) : (ttSetLimit burst refill code s).kept = s.kept := by rfl

@[simp] theorem runTtLimits_kept (c : Sys2Proof.Machine.Cmd) (s : Sys2Proof.Machine.State) : (runTtLimits c s).1.kept = s.kept := by simp [runTtLimits]

@[simp] theorem runJournalHead_kept (x0 : Sys2Proof.Machine.Cmd) (s : Sys2Proof.Machine.State) : (runJournalHead x0 s).1.kept = s.kept := by
  simp only [runJournalHead]
  repeat' split
  all_goals simp

@[simp] theorem runRigBegin_kept (c : Sys2Proof.Machine.Cmd) (s : Sys2Proof.Machine.State) : (runRigBegin c s).1.kept = s.kept := by simp [runRigBegin]

theorem opSpec_kept (op : Nat) (o : OpSpec) (h : opSpec op = some o) (c : Cmd) (s : State) :
    (o.run c s).1.kept = s.kept := by
  unfold opSpec opSession opRig opPlant opField at h
  repeat' split at h
  all_goals first
    | (injection h with h; subst h; simp)
    | cases h

@[simp] theorem runCmd_kept (c : Sys2Proof.Machine.Cmd) (s : Sys2Proof.Machine.State) : (runCmd c s).1.kept = s.kept := by
  unfold runCmd
  split
  · next h => simp [opSpec_kept _ _ h]
  · rfl

@[simp] theorem txnHeard_kept (sess : Nat) (s : Sys2Proof.Machine.State) : (txnHeard sess s).kept = s.kept := by
  simp only [txnHeard]
  repeat' split
  all_goals simp

@[simp] theorem commitWait_kept (c : Sys2Proof.Machine.Cmd) (t : Sys2Proof.Machine.Txn) (held : Nat) (s : Sys2Proof.Machine.State) : (commitWait c t held s).1.kept = s.kept := by simp [commitWait]

@[simp] theorem commitFields_kept (c : Sys2Proof.Machine.Cmd) (t : Sys2Proof.Machine.Txn) (s : Sys2Proof.Machine.State) : (commitFields c t s).1.kept = s.kept := by simp [commitFields]

@[simp] theorem commitLoad_kept (c : Sys2Proof.Machine.Cmd) (t : Sys2Proof.Machine.Txn) (s : Sys2Proof.Machine.State) : (commitLoad c t s).1.kept = s.kept := by
  simp only [commitLoad]
  repeat' split
  all_goals simp

@[simp] theorem commitUpload_kept (t : Sys2Proof.Machine.Txn) (s : Sys2Proof.Machine.State) : (commitUpload t s).1.kept = s.kept := by
  simp only [commitUpload]
  repeat' split
  all_goals simp

@[simp] theorem endStep_kept (r : Nat) (s : Sys2Proof.Machine.State) : (endStep r s).kept = s.kept := by simp [endStep]

@[simp] theorem faultResult_kept (r : Nat) (q : Nat) (s : Sys2Proof.Machine.State) : (faultResult r q s).kept = s.kept := by simp [faultResult]

@[simp] theorem rangeClip_kept (r : Nat) (second : Bool) (s : Sys2Proof.Machine.State) : (rangeClip r second s).kept = s.kept := by simp [rangeClip]

@[simp] theorem rangeUp_kept (r : Nat) (s : Sys2Proof.Machine.State) : (rangeUp r s).kept = s.kept := by simp [rangeUp]

@[simp] theorem goodResult_kept (r : Nat) (xBits : Nat) (sig : Rat) (v : Int) (overR : Bool) (s : Sys2Proof.Machine.State) : (goodResult r xBits sig v overR s).kept = s.kept := by simp [goodResult]

@[simp] theorem conversionResult_kept (y : Sys2Proof.ConvIn) (s : Sys2Proof.Machine.State) : (conversionResult y s).kept = s.kept := by
  simp only [conversionResult]
  repeat' split
  all_goals simp

@[simp] theorem ctxExpiry_kept (nonce : Sys2Proof.Bytes) (s : Sys2Proof.Machine.State) : (ctxExpiry nonce s).kept = s.kept := by rfl

@[simp] theorem takeOvr_kept (s : Sys2Proof.Machine.State) : (takeOvr s).kept = s.kept := by simp [takeOvr]

@[simp] theorem scanActivation_kept (s : Sys2Proof.Machine.State) : (scanActivation s).kept = s.kept := by simp [scanActivation]

@[simp] theorem startPort_kept (p : Nat) (s : Sys2Proof.Machine.State) : (startPort p s).kept = s.kept := by simp [startPort]

@[simp] theorem cycleStart_kept (s : Sys2Proof.Machine.State) : (cycleStart s).kept = s.kept := by simp [cycleStart]

@[simp] theorem frontsIfDone_kept (s : Sys2Proof.Machine.State) : (frontsIfDone s).kept = s.kept := by simp [frontsIfDone]

@[simp] theorem trendSnapshot_kept (late : Bool) (s : Sys2Proof.Machine.State) : (trendSnapshot late s).kept = s.kept := by
  simp only [trendSnapshot]
  repeat' split
  all_goals simp

@[simp] theorem lateSnapshot_kept (s : Sys2Proof.Machine.State) : (lateSnapshot s).kept = s.kept := by
  simp only [lateSnapshot]
  repeat' split
  all_goals simp

@[simp] theorem phaseNotices_kept (phase : Nat) (s : Sys2Proof.Machine.State) : (phaseNotices phase s).kept = s.kept := by simp [phaseNotices]

@[simp] theorem cycleTail_kept (s : Sys2Proof.Machine.State) : (cycleTail s).kept = s.kept := by simp [cycleTail]

@[simp] theorem dioCurrent_kept (i : Nat) (mA : Nat) (s : Sys2Proof.Machine.State) : (dioCurrent i mA s).kept = s.kept := by rfl

@[simp] theorem dioExtEnd_kept (i : Nat) (s : Sys2Proof.Machine.State) : (dioExtEnd i s).kept = s.kept := by simp [dioExtEnd]

@[simp] theorem dioRecord2_kept (i : Nat) (code : Nat) (mA : Nat) (other : Option Nat) (s : Sys2Proof.Machine.State) : (dioRecord2 i code mA other s).kept = s.kept := by simp [dioRecord2]

@[simp] theorem dioTrip_kept (i : Nat) (code : Nat) (mA : Nat) (s : Sys2Proof.Machine.State) : (dioTrip i code mA s).kept = s.kept := by simp [dioTrip]

@[simp] theorem dioGroupShed_kept (g : Nat) (mA : Nat) (s : Sys2Proof.Machine.State) : (dioGroupShed g mA s).kept = s.kept := by
  simp only [dioGroupShed]
  repeat' split
  all_goals simp

@[simp] theorem dioInputChange_kept (i : Nat) (land : Bool) (s : Sys2Proof.Machine.State) : (dioInputChange i land s).kept = s.kept := by simp [dioInputChange]

@[simp] theorem dioOpenFlag_kept (i : Nat) (o : Bool) (s : Sys2Proof.Machine.State) : (dioOpenFlag i o s).kept = s.kept := by simp [dioOpenFlag]

@[simp] theorem dioOverload_kept (i : Nat) (mA : Nat) (s : Sys2Proof.Machine.State) : (dioOverload i mA s).kept = s.kept := by simp [dioOverload]

@[simp] theorem dioVerdict_kept (i : Nat) (by_ : Option Nat) (s : Sys2Proof.Machine.State) : (dioVerdict i by_ s).kept = s.kept := by simp [dioVerdict]

@[simp] theorem startTest_kept (i : Nat) (s : Sys2Proof.Machine.State) : (startTest i s).kept = s.kept := by simp [startTest]

@[simp] theorem dioReadbackHigh_kept (i : Nat) (s : Sys2Proof.Machine.State) : (dioReadbackHigh i s).kept = s.kept := by simp [dioReadbackHigh]

@[simp] theorem dioReading_kept (i : Nat) (cV : Nat) (s : Sys2Proof.Machine.State) : (dioReading i cV s).kept = s.kept := by rfl

@[simp] theorem dioRetry_kept (i : Nat) (hot : Bool) (s : Sys2Proof.Machine.State) : (dioRetry i hot s).kept = s.kept := by simp [dioRetry]

@[simp] theorem halyardEdge_kept (s : Sys2Proof.Machine.State) : (halyardEdge s).kept = s.kept := by simp [halyardEdge]
@[simp] theorem dioSampled_kept (s : Sys2Proof.Machine.State) : (dioSampled s).kept = s.kept := by simp [dioSampled]

@[simp] theorem dioSeriesEnd_kept (i : Nat) (s : Sys2Proof.Machine.State) : (dioSeriesEnd i s).kept = s.kept := by
  simp only [dioSeriesEnd]
  repeat' split
  all_goals simp

@[simp] theorem dioSupplyLow_kept (g : Nat) (cV : Nat) (s : Sys2Proof.Machine.State) : (dioSupplyLow g cV s).kept = s.kept := by simp [dioSupplyLow]

@[simp] theorem dioThermal_kept (i : Nat) (mA : Nat) (s : Sys2Proof.Machine.State) : (dioThermal i mA s).kept = s.kept := by simp [dioThermal]

@[simp] theorem domainHoist_kept (d : Nat) (s : Sys2Proof.Machine.State) : (domainHoist d s).kept = s.kept := by simp [domainHoist]

@[simp] theorem domainEdge_kept (s : Sys2Proof.Machine.State) : (domainEdge s).kept = s.kept := by simp [domainEdge]

@[simp] theorem furl_kept (d : Nat) (s : Sys2Proof.Machine.State) : (furl d s).kept = s.kept := by simp [furl]

@[simp] theorem domainFurl_kept (d : Nat) (s : Sys2Proof.Machine.State) : (domainFurl d s).kept = s.kept := by simp [domainFurl]

@[simp] theorem domainTime_kept (us : Nat) (s : Sys2Proof.Machine.State) : (domainTime us s).kept = s.kept := by rfl

@[simp] theorem drainRegs_kept (s : Sys2Proof.Machine.State) : (drainRegs s).kept = s.kept := by
  simp only [drainRegs]
  repeat' split
  all_goals simp

@[simp] theorem dryCounters_kept (i : Nat) (s : Sys2Proof.Machine.State) : (dryCounters i s).kept = s.kept := by rfl

@[simp] theorem drySave_kept (i : Nat) (s : Sys2Proof.Machine.State) : (drySave i s).kept = s.kept := by rfl

@[simp] theorem dryOne_kept (dt : Nat) (i : Nat) (s : Sys2Proof.Machine.State) : (dryOne dt i s).kept = s.kept := by simp [dryOne]

@[simp] theorem dryerEvaluation_kept (s : Sys2Proof.Machine.State) : (dryerEvaluation s).kept = s.kept := by simp [dryerEvaluation]

@[simp] theorem dryerSaveRefresh_kept (s : Sys2Proof.Machine.State) : (dryerSaveRefresh s).kept = s.kept := by simp [dryerSaveRefresh]

@[simp] theorem elemDrive_kept (e : Nat) (s : Sys2Proof.Machine.State) : (elemDrive e s).kept = s.kept := by
  simp only [elemDrive]
  repeat' split
  all_goals simp

@[simp] theorem elemRead_kept (e : Nat) (s : Sys2Proof.Machine.State) : (elemRead e s).kept = s.kept := by simp [elemRead]

@[simp] theorem endHold_kept (s : Sys2Proof.Machine.State) : (endHold s).kept = s.kept := by simp [endHold]

@[simp] theorem enumEnd_kept (p : Nat) (rx : List (Nat × Sys2Proof.SlotRx)) (s : Sys2Proof.Machine.State) : (enumEnd p rx s).1.kept = s.kept := by
  simp only [enumEnd]
  repeat' split
  all_goals simp

@[simp] theorem enumRecord_kept (p : Nat) (ident : Nat) (addr : Nat) (s : Sys2Proof.Machine.State) : (enumRecord p ident addr s).kept = s.kept := by
  simp only [enumRecord]
  repeat' split
  all_goals simp [enumFuel]

@[simp] theorem enumExchange_kept (p : Nat) (rx : Sys2Proof.EnumRx) (s : Sys2Proof.Machine.State) : (enumExchange p rx s).kept = s.kept := by
  simp only [enumExchange]
  repeat' split
  all_goals simp [enumFuel]

@[simp] theorem enumStart_kept (p : Nat) (s : Sys2Proof.Machine.State) : (enumStart p s).kept = s.kept := by
  simp only [enumStart]
  repeat' split
  all_goals simp [enumFuel]

@[simp] theorem excOpen_kept (r : Nat) (s : Sys2Proof.Machine.State) : (excOpen r s).kept = s.kept := by simp [excOpen]

@[simp] theorem excRetry_kept (r : Nat) (s : Sys2Proof.Machine.State) : (excRetry r s).kept = s.kept := by
  simp only [excRetry]
  repeat' split
  all_goals simp

@[simp] theorem excShort_kept (r : Nat) (s : Sys2Proof.Machine.State) : (excShort r s).kept = s.kept := by simp [excShort]

@[simp] theorem fanDutyUpdate_kept (s : Sys2Proof.Machine.State) : (fanDutyUpdate s).kept = s.kept := by simp [fanDutyUpdate]

@[simp] theorem fanFault_kept (i : Nat) (code : Nat) (s : Sys2Proof.Machine.State) : (fanFault i code s).kept = s.kept := by simp [fanFault]

@[simp] theorem fanTable_kept (i : Nat) (s : Sys2Proof.Machine.State) : (fanTable i s).kept = s.kept := by simp [fanTable]

@[simp] theorem fanTime_kept (us : Nat) (s : Sys2Proof.Machine.State) : (fanTime us s).kept = s.kept := by simp [fanTime]

@[simp] theorem loadCurrent_kept (i : Nat) (mA : Nat) (s : Sys2Proof.Machine.State) : (loadCurrent i mA s).kept = s.kept := by rfl

@[simp] theorem loadSense_kept (i : Nat) (cV : Nat) (s : Sys2Proof.Machine.State) : (loadSense i cV s).kept = s.kept := by rfl

@[simp] theorem fieldMeas_kept (m : Sys2Proof.Meas) (s : Sys2Proof.Machine.State) : (fieldMeas m s).kept = s.kept := by
  simp only [fieldMeas]
  repeat' split
  all_goals simp

@[simp] theorem udpIn_kept (i : Nat) (src : Nat) (dst : Nat) (sport : Nat) (dport : Nat) (cksum : Nat) (data : Sys2Proof.Bytes) (s : Sys2Proof.Machine.State) : (udpIn i src dst sport dport cksum data s).kept = s.kept := by simp [udpIn]

@[simp] theorem icmpEcho_kept (i : Nat) (src : Nat) (dst : Nat) (data : Sys2Proof.Bytes) (s : Sys2Proof.Machine.State) : (icmpEcho i src dst data s).kept = s.kept := by simp [icmpEcho]

@[simp] theorem ipPayload_kept (i : Nat) (src : Nat) (dst : Nat) (proto : Nat) (b : Sys2Proof.Bytes) (s : Sys2Proof.Machine.State) : (ipPayload i src dst proto b s).kept = s.kept := by simp [ipPayload]

@[simp] theorem fragIn_kept (f : Sys2Proof.IpFrag) (s : Sys2Proof.Machine.State) : (fragIn f s).kept = s.kept := by
  simp only [fragIn]
  repeat' split
  all_goals simp

@[simp] theorem fragTimeout_kept (i : Nat) (src : Nat) (ident : Nat) (s : Sys2Proof.Machine.State) : (fragTimeout i src ident s).kept = s.kept := by rfl

@[simp] theorem frontNotice_kept (c : Nat) (h : Nat) (old : Sys2Proof.Machine.FrontE) (new : Sys2Proof.Machine.FrontE) (s : Sys2Proof.Machine.State) : (frontNotice c h old new s).kept = s.kept := by simp [frontNotice]

@[simp] theorem frontLog_kept (c : Nat) (e : Sys2Proof.Machine.FrontE) (s : Sys2Proof.Machine.State) : (frontLog c e s).kept = s.kept := by simp [frontLog]

@[simp] theorem frontJob_kept (c : Nat) (s : Sys2Proof.Machine.State) : (frontJob c s).kept = s.kept := by simp [frontJob]

@[simp] theorem fuseStep_kept (i : Nat) (q : Nat) (s : Sys2Proof.Machine.State) : (fuseStep i q s).kept = s.kept := by simp [fuseStep]

@[simp] theorem fuseModelStep_kept (meanSq : List (Nat × Nat)) (s : Sys2Proof.Machine.State) : (fuseModelStep meanSq s).kept = s.kept := by simp [fuseModelStep]

@[simp] theorem fwEnd_kept (s : Sys2Proof.Machine.State) : (fwEnd s).1.kept = s.kept := by
  simp only [fwEnd]
  repeat' split
  all_goals simp

@[simp] theorem fwTimeout_kept (s : Sys2Proof.Machine.State) : (fwTimeout s).kept = s.kept := by
  simp only [fwTimeout]
  repeat' split
  all_goals simp

@[simp] theorem hostSilence_kept (s : Sys2Proof.Machine.State) : (hostSilence s).kept = s.kept := by simp [hostSilence]

@[simp] theorem inputCommonMode_kept (r : Nat) (s : Sys2Proof.Machine.State) : (inputCommonMode r s).kept = s.kept := by simp [inputCommonMode]

@[simp] theorem ipFragment_kept (f : Sys2Proof.IpFrag) (s : Sys2Proof.Machine.State) : (ipFragment f s).kept = s.kept := by simp [ipFragment]

@[simp] theorem keepExpiry_kept (d : Nat) (s : Sys2Proof.Machine.State) : (keepExpiry d s).kept = s.kept := by simp [keepExpiry]

@[simp] theorem kickEnd_kept (i : Nat) (s : Sys2Proof.Machine.State) : (kickEnd i s).kept = s.kept := by simp [kickEnd]

@[simp] theorem lampUpdate_kept (vbb : List Nat) (s : Sys2Proof.Machine.State) : (lampUpdate vbb s).kept = s.kept := by
  unfold lampUpdate
  refine forAll_kept _ _ ?_ _
  intro _ _
  try dsimp only
  repeat' split
  all_goals simp

@[simp] theorem latchSource_kept (k : Nat) (s : Sys2Proof.Machine.State) : (latchSource k s).kept = s.kept := by rfl

@[simp] theorem latchOut_kept (k : Nat) (s : Sys2Proof.Machine.State) : (latchOut k s).kept = s.kept := by simp [latchOut]

@[simp] theorem latchAll_kept (s : Sys2Proof.Machine.State) : (latchAll s).kept = s.kept := by simp [latchAll]

@[simp] theorem saveLedger_kept (s : Sys2Proof.Machine.State) : (saveLedger s).kept = s.kept := by rfl

@[simp] theorem ledgerSave_kept (s : Sys2Proof.Machine.State) : (ledgerSave s).kept = s.kept := by simp [ledgerSave]

@[simp] theorem lineForeign_kept (p : Nat) (s : Sys2Proof.Machine.State) : (lineForeign p s).kept = s.kept := by simp [lineForeign]

@[simp] theorem lineShort_kept (p : Nat) (s : Sys2Proof.Machine.State) : (lineShort p s).kept = s.kept := by simp [lineShort]

@[simp] theorem linkChange_kept (p : Nat) (up : Bool) (s : Sys2Proof.Machine.State) : (linkChange p up s).kept = s.kept := by simp [linkChange]

@[simp] theorem loadExtSupply_kept (i : Nat) (high : Bool) (s : Sys2Proof.Machine.State) : (loadExtSupply i high s).kept = s.kept := by simp [loadExtSupply]

@[simp] theorem loadOpenFlag_kept (i : Nat) (o : Bool) (s : Sys2Proof.Machine.State) : (loadOpenFlag i o s).kept = s.kept := by simp [loadOpenFlag]

@[simp] theorem loadRetry_kept (i : Nat) (hot : Bool) (s : Sys2Proof.Machine.State) : (loadRetry i hot s).kept = s.kept := by simp [loadRetry]

@[simp] theorem loadReverse_kept (i : Nat) (mA : Nat) (s : Sys2Proof.Machine.State) : (loadReverse i mA s).kept = s.kept := by simp [loadReverse]

@[simp] theorem loadSeriesEnd_kept (i : Nat) (s : Sys2Proof.Machine.State) : (loadSeriesEnd i s).kept = s.kept := by
  simp only [loadSeriesEnd]
  repeat' split
  all_goals simp

@[simp] theorem loadShort_kept (i : Nat) (mA : Nat) (us : Nat) (s : Sys2Proof.Machine.State) : (loadShort i mA us s).kept = s.kept := by simp [loadShort]

@[simp] theorem loadThermal_kept (i : Nat) (mA : Nat) (s : Sys2Proof.Machine.State) : (loadThermal i mA s).kept = s.kept := by simp [loadThermal]

@[simp] theorem lockRecord_kept (code : Nat) (mask : Nat) (s : Sys2Proof.Machine.State) : (lockRecord code mask s).kept = s.kept := by simp [lockRecord]

@[simp] theorem lockoutSense_kept (mask : Nat) (s : Sys2Proof.Machine.State) : (lockoutSense mask s).kept = s.kept := by simp [lockoutSense]

@[simp] theorem lockoutChange_kept (m : Nat) (s : Sys2Proof.Machine.State) : (lockoutChange m s).kept = s.kept := by simp [lockoutChange]

@[simp] theorem lockoutDisagree_kept (m : Nat) (s : Sys2Proof.Machine.State) : (lockoutDisagree m s).kept = s.kept := by
  simp only [lockoutDisagree]
  repeat' split
  all_goals simp

@[simp] theorem lockoutRelease_kept (s : Sys2Proof.Machine.State) : (lockoutRelease s).kept = s.kept := by simp [lockoutRelease]

@[simp] theorem logicSilence_kept (d : Nat) (s : Sys2Proof.Machine.State) : (logicSilence d s).kept = s.kept := by simp [logicSilence]

@[simp] theorem overrunSample_kept (l : Nat) (tick : Nat) (s : Sys2Proof.Machine.State) : (overrunSample l tick s).kept = s.kept := by rfl

@[simp] theorem loopAt_kept (edge : Sys2Proof.Machine.State) (late : List Nat) (tick : Nat) (l : Nat) (s : Sys2Proof.Machine.State) : (loopAt edge late tick l s).kept = s.kept := by simp [loopAt]

@[simp] theorem lowLine_kept (p : Nat) (cV : Nat) (s : Sys2Proof.Machine.State) : (lowLine p cV s).kept = s.kept := by simp [lowLine]

@[simp] theorem lowLineEnd_kept (p : Nat) (cV : Nat) (s : Sys2Proof.Machine.State) : (lowLineEnd p cV s).kept = s.kept := by simp [lowLineEnd]

@[simp] theorem lowSupply_kept (g : Nat) (cV : Nat) (s : Sys2Proof.Machine.State) : (lowSupply g cV s).kept = s.kept := by simp [lowSupply]

@[simp] theorem lowSupplyEnd_kept (g : Nat) (cV : Nat) (s : Sys2Proof.Machine.State) : (lowSupplyEnd g cV s).kept = s.kept := by simp [lowSupplyEnd]

@[simp] theorem mastSeen_kept (m : Nat) (s : Sys2Proof.Machine.State) : (mastSeen m s).kept = s.kept := by rfl

@[simp] theorem mastCheck_kept (m : Nat) (s : Sys2Proof.Machine.State) : (mastCheck m s).kept = s.kept := by simp [mastCheck]

@[simp] theorem mastEvaluate_kept (m : Nat) (s : Sys2Proof.Machine.State) : (mastEvaluate m s).kept = s.kept := by simp [mastEvaluate]

@[simp] theorem mastEvaluation_kept (s : Sys2Proof.Machine.State) : (mastEvaluation s).kept = s.kept := by simp [mastEvaluation]

@[simp] theorem mastTimedCheck_kept (s : Sys2Proof.Machine.State) : (mastTimedCheck s).kept = s.kept := by simp [mastTimedCheck]

@[simp] theorem moduleShed_kept (cA : List Nat) (s : Sys2Proof.Machine.State) : (moduleShed cA s).kept = s.kept := by simp [moduleShed]

@[simp] theorem nextTest_kept (i : Nat) (s : Sys2Proof.Machine.State) : (nextTest i s).kept = s.kept := by
  simp only [nextTest]
  repeat' split
  all_goals simp

@[simp] theorem noticesIfDue_kept (s : Sys2Proof.Machine.State) : (noticesIfDue s).kept = s.kept := by simp [noticesIfDue]

@[simp] theorem saveOptime_kept (atFail : Bool) (s : Sys2Proof.Machine.State) : (saveOptime atFail s).kept = s.kept := by rfl

@[simp] theorem optimeSave_kept (s : Sys2Proof.Machine.State) : (optimeSave s).kept = s.kept := by simp [optimeSave]

@[simp] theorem placeRecord_kept (p : Nat) (r : Sys2Proof.Machine.Intake) (s0 : Sys2Proof.Machine.State) : (placeRecord p r s0).kept = s0.kept := by simp [placeRecord]

@[simp] theorem pllStop_kept (d : Nat) (s : Sys2Proof.Machine.State) : (pllStop d s).kept = s.kept := by simp [pllStop]

@[simp] theorem statusRecords_kept (r : Sys2Proof.Machine.Intake) (pst : Nat) (s : Sys2Proof.Machine.State) : (statusRecords r pst s).kept = s.kept := by simp [statusRecords]

@[simp] theorem thrPost_kept (x : Sys2Proof.Machine.ThChange) (s : Sys2Proof.Machine.State) : (thrPost x s).kept = s.kept := by simp [thrPost]

@[simp] theorem takeRecord_kept (r : Sys2Proof.Machine.Intake) (s : Sys2Proof.Machine.State) : (takeRecord r s).kept = s.kept := by
  simp only [takeRecord]
  repeat' split
  all_goals simp

@[simp] theorem portReady_kept (p : Nat) (s : Sys2Proof.Machine.State) : (portReady p s).kept = s.kept := by rfl

@[simp] theorem routeSave_kept (r : Nat) (s : Sys2Proof.Machine.State) : (routeSave r s).kept = s.kept := by rfl

@[simp] theorem poweringEnd_kept (p : Nat) (s : Sys2Proof.Machine.State) : (poweringEnd p s).kept = s.kept := by simp [poweringEnd]

@[simp] theorem probeEnd_kept (p : Nat) (shorted : Bool) (s : Sys2Proof.Machine.State) : (probeEnd p shorted s).kept = s.kept := by simp [probeEnd]

@[simp] theorem provingTimeout_kept (i : Nat) (s : Sys2Proof.Machine.State) : (provingTimeout i s).kept = s.kept := by simp [provingTimeout]

@[simp] theorem pwmShort_kept (i : Nat) (s : Sys2Proof.Machine.State) : (pwmShort i s).kept = s.kept := by simp [pwmShort]

@[simp] theorem readyEdge_kept (s : Sys2Proof.Machine.State) : (readyEdge s).kept = s.kept := by
  unfold readyEdge; split
  · rfl
  · split <;> rfl
@[simp] theorem readyNotice_kept (s : Sys2Proof.Machine.State) : (readyNotice s).kept = s.kept := by simp [readyNotice]

@[simp] theorem restartDelay_kept (i : Nat) (s : Sys2Proof.Machine.State) : (restartDelay i s).kept = s.kept := by simp [restartDelay]

@[simp] theorem retryWaitEnd_kept (i : Nat) (s : Sys2Proof.Machine.State) : (retryWaitEnd i s).kept = s.kept := by simp [retryWaitEnd]

@[simp] theorem rigActivation_kept (s : Sys2Proof.Machine.State) : (rigActivation s).kept = s.kept := by simp [rigActivation]

@[simp] theorem rigCommitEnd_kept (c : Sys2Proof.Machine.Cmd) (s : Sys2Proof.Machine.State) : (rigCommitEnd c s).1.kept = s.kept := by
  simp only [rigCommitEnd]
  repeat' split
  all_goals simp

@[simp] theorem rigSaveEnd_kept (x0 : Sys2Proof.Machine.Cmd) (s : Sys2Proof.Machine.State) : (rigSaveEnd x0 s).1.kept = s.kept := by simp [rigSaveEnd]

@[simp] theorem ringGroup_kept (bad : List Nat) (g : Nat) (s : Sys2Proof.Machine.State) : (ringGroup bad g s).kept = s.kept := by
  simp only [ringGroup]
  repeat' split
  all_goals simp

@[simp] theorem rmiiPoll_kept (phys : List (Nat × Bool)) (s : Sys2Proof.Machine.State) : (rmiiPoll phys s).kept = s.kept := by simp [rmiiPoll]

@[simp] theorem routeOne_kept (edge : Sys2Proof.Machine.State) (dt : Nat) (r : Nat) (s : Sys2Proof.Machine.State) : (routeOne edge dt r s).kept = s.kept := by simp [routeOne]

@[simp] theorem routeEvaluation_kept (s : Sys2Proof.Machine.State) : (routeEvaluation s).kept = s.kept := by simp [routeEvaluation]

@[simp] theorem rsError_kept (p : Nat) (s : Sys2Proof.Machine.State) : (rsError p s).kept = s.kept := by rfl

@[simp] theorem rs485Frame_kept (p : Nat) (f : Sys2Proof.Bytes) (s : Sys2Proof.Machine.State) : (rs485Frame p f s).kept = s.kept := by simp [rs485Frame]

@[simp] theorem rs485Gap_kept (p : Nat) (s : Sys2Proof.Machine.State) : (rs485Gap p s).kept = s.kept := by simp [rs485Gap]

@[simp] theorem runRing_kept (due : List Nat) (bad : List Nat) (s : Sys2Proof.Machine.State) : (runRing due bad s).kept = s.kept := by simp [runRing]

@[simp] theorem scanPlaneStep_kept (c : Nat) (s : Sys2Proof.Machine.State) : (scanPlaneStep c s).kept = s.kept := by
  simp only [scanPlaneStep]
  repeat' split
  all_goals simp

@[simp] theorem scanSwitchStuck_kept (c : Nat) (s : Sys2Proof.Machine.State) : (scanSwitchStuck c s).kept = s.kept := by
  simp only [scanSwitchStuck]
  repeat' split
  all_goals simp

@[simp] theorem scheduleEnd_kept (p : Nat) (dmA : Nat) (s : Sys2Proof.Machine.State) : (scheduleEnd p dmA s).kept = s.kept := by simp [scheduleEnd]

@[simp] theorem scheduleEndRow_kept (p : Nat) (dmA : Nat) (s : Sys2Proof.Machine.State) : (scheduleEndRow p dmA s).kept = s.kept := by simp [scheduleEndRow]

@[simp] theorem scrubBad_kept (code : Nat) (s : Sys2Proof.Machine.State) : (scrubBad code s).kept = s.kept := by
  simp only [scrubBad]
  repeat' split
  all_goals simp

@[simp] theorem scrubBlock_kept (bad : List Nat) (s : Sys2Proof.Machine.State) : (scrubBlock bad s).kept = s.kept := by simp [scrubBlock]

@[simp] theorem sendNext_kept (p : Nat) (s : Sys2Proof.Machine.State) : (sendNext p s).kept = s.kept := by
  simp only [sendNext]
  repeat' split
  all_goals simp

@[simp] theorem sessionExpiry_kept (k : Nat) (s : Sys2Proof.Machine.State) : (sessionExpiry k s).kept = s.kept := by simp [sessionExpiry]

@[simp] theorem sessionSilent_kept (k : Nat) (s : Sys2Proof.Machine.State) : (sessionSilent k s).kept = s.kept := by simp [sessionSilent]

@[simp] theorem setCrystal_kept (xt25 : Bool) (failed : Bool) (s : Sys2Proof.Machine.State) : (setCrystal xt25 failed s).kept = s.kept := by simp [setCrystal]

@[simp] theorem sheaveSlack_kept (s : Sys2Proof.Machine.State) : (sheaveSlack s).kept = s.kept := by simp [sheaveSlack]

@[simp] theorem shortRetry_kept (p : Nat) (s : Sys2Proof.Machine.State) : (shortRetry p s).kept = s.kept := by simp [shortRetry]

@[simp] theorem shuntOver_kept (r : Nat) (s : Sys2Proof.Machine.State) : (shuntOver r s).kept = s.kept := by simp [shuntOver]

@[simp] theorem slotEnd_kept (p : Nat) (phase : Nat) (slot : Nat) (rx : Sys2Proof.SlotRx) (s : Sys2Proof.Machine.State) : (slotEnd p phase slot rx s).kept = s.kept := by simp [slotEnd]

@[simp] theorem slotMark_kept (k : Nat) (s : Sys2Proof.Machine.State) : (slotMark k s).kept = s.kept := by simp [slotMark]

@[simp] theorem supplyMeas_kept (m : Sys2Proof.Meas) (s : Sys2Proof.Machine.State) : (supplyMeas m s).kept = s.kept := by
  simp only [supplyMeas]
  repeat' split
  all_goals simp

@[simp] theorem t1lLink_kept (p : Nat) (up : Bool) (s : Sys2Proof.Machine.State) : (t1lLink p up s).kept = s.kept := by simp [t1lLink]

@[simp] theorem tachEdge_kept (i : Nat) (cycles : Nat) (s : Sys2Proof.Machine.State) : (tachEdge i cycles s).kept = s.kept := by simp [tachEdge]

@[simp] theorem tachLoss_kept (i : Nat) (s : Sys2Proof.Machine.State) : (tachLoss i s).kept = s.kept := by
  simp only [tachLoss]
  repeat' split
  all_goals simp

@[simp] theorem tachLossClear_kept (i : Nat) (s : Sys2Proof.Machine.State) : (tachLossClear i s).kept = s.kept := by
  simp only [tachLossClear]
  repeat' split
  all_goals simp

@[simp] theorem tachTimeout_kept (i : Nat) (s : Sys2Proof.Machine.State) : (tachTimeout i s).kept = s.kept := by simp [tachTimeout]

@[simp] theorem takeMeas_kept (l : List Sys2Proof.Meas) (s : Sys2Proof.Machine.State) : (takeMeas l s).kept = s.kept := by simp [takeMeas]

@[simp] theorem testPulse_kept (i : Nat) (fell : Bool) (s : Sys2Proof.Machine.State) : (testPulse i fell s).kept = s.kept := by
  simp only [testPulse]
  repeat' split
  all_goals simp

@[simp] theorem tickLoops_kept (e : Sys2Proof.TickEnv) (s : Sys2Proof.Machine.State) : (tickLoops e s).kept = s.kept := by simp [tickLoops]

@[simp] theorem tickWork_kept (e : Sys2Proof.TickEnv) (s : Sys2Proof.Machine.State) : (tickWork e s).kept = s.kept := by simp [tickWork]

@[simp] theorem trendSpill_kept (n : Nat) (s : Sys2Proof.Machine.State) : (trendSpill n s).kept = s.kept := by simp [trendSpill]

@[simp] theorem ttRecordWrite_kept (s : Sys2Proof.Machine.State) : (ttRecordWrite s).kept = s.kept := by simp [ttRecordWrite]

@[simp] theorem ttRefill_kept (code : Nat) (s : Sys2Proof.Machine.State) : (ttRefill code s).kept = s.kept := by simp [ttRefill]

@[simp] theorem txnTimeout_kept (s : Sys2Proof.Machine.State) : (txnTimeout s).kept = s.kept := by
  simp only [txnTimeout]
  repeat' split
  all_goals simp

@[simp] theorem udpDatagram_kept (d : Sys2Proof.UdpIn) (s : Sys2Proof.Machine.State) : (udpDatagram d s).kept = s.kept := by simp [udpDatagram]

@[simp] theorem vioLow_kept (cV : Nat) (s : Sys2Proof.Machine.State) : (vioLow cV s).kept = s.kept := by simp [vioLow]

@[simp] theorem vioRecovery_kept (cV : Nat) (s : Sys2Proof.Machine.State) : (vioRecovery cV s).kept = s.kept := by simp [vioRecovery]

@[simp] theorem vsupSag_kept (cV : Nat) (s : Sys2Proof.Machine.State) : (vsupSag cV s).kept = s.kept := by simp [vsupSag]

@[simp] theorem vsupSagEnd_kept (cV : Nat) (s : Sys2Proof.Machine.State) : (vsupSagEnd cV s).kept = s.kept := by rfl

@[simp] theorem watchdogExpiry_kept (s : Sys2Proof.Machine.State) : (watchdogExpiry s).kept = s.kept := by simp [watchdogExpiry]

end Sys2Proof.Machine
end

