-- ==== Sys2Proof/Laws/Tbl.lean ====
section
/-! SUPPORT. The laws of the sparse tables and of the byte memories: reading after writing, and the canonical form. -/
namespace Sys2Proof.Machine

section
variable {α : Type} [DecidableEq α] {d : α}

/-- A value written is read back. -/
@[simp] theorem Tbl.rd_wr_same (m : Tbl α) (k : Nat) (v : α) (h : Tbl.wf d m = true) :
    Tbl.rd d (Tbl.wr d m k v) k = v := by
  have aux : ∀ (m : Tbl α) (lo : Option Nat), Tbl.above d lo m = true → Tbl.rd d (Tbl.wr d m k v) k = v := by
    intro m
    induction m with
    | nil => intro lo _; by_cases hv : v = d <;> simp [Tbl.wr, hv, Tbl.rd]
    | cons e t ih =>
      obtain ⟨a, w⟩ := e
      intro lo hm
      simp only [Tbl.above, Bool.and_eq_true] at hm
      have below : ∀ (u : Tbl α) (b : Nat), k ≤ b → Tbl.above d (some b) u = true → Tbl.rd d u k = d := by
        intro u
        induction u with
        | nil => intros; rfl
        | cons f u ihu =>
          obtain ⟨c, x⟩ := f
          intro b hb hu
          simp only [Tbl.above, Bool.and_eq_true, decide_eq_true_eq] at hu
          have hne : c ≠ k := by omega
          simp only [Tbl.rd, hne, if_false]
          exact ihu c (by omega) hu.2
      by_cases h1 : k < a
      · have hne : a ≠ k := by omega
        by_cases hv : v = d
        · simp only [Tbl.wr, h1, hv, if_true, Tbl.rd, hne, if_false]
          exact below t a (by omega) hm.2
        · simp [Tbl.wr, h1, hv, Tbl.rd]
      · by_cases h2 : k = a
        · subst h2
          by_cases hv : v = d
          · simp only [Tbl.wr, Nat.lt_irrefl, if_false, hv, if_true]
            exact below t k (Nat.le_refl _) hm.2
          · simp [Tbl.wr, hv, Tbl.rd]
        · have hne : a ≠ k := fun e => h2 e.symm
          simp only [Tbl.wr, h1, h2, if_false, Tbl.rd, hne]
          exact ih (some a) hm.2
  exact aux m none h

/-- Writing one key leaves every other key as it was; this needs no canonical form. -/
@[simp] theorem Tbl.rd_wr_other (m : Tbl α) (k j : Nat) (v : α) (h : j ≠ k) :
    Tbl.rd d (Tbl.wr d m k v) j = Tbl.rd d m j := by
  induction m with
  | nil => by_cases hv : v = d <;> simp [Tbl.wr, hv, Tbl.rd, Ne.symm h]
  | cons e t ih =>
    obtain ⟨a, w⟩ := e
    have hkj : k ≠ j := Ne.symm h
    by_cases h1 : k < a
    · by_cases hv : v = d <;> simp [Tbl.wr, h1, hv, Tbl.rd, hkj]
    · by_cases h2 : k = a
      · subst h2
        by_cases hv : v = d <;> simp [Tbl.wr, hv, Tbl.rd, hkj]
      · simp only [Tbl.wr, h1, h2, if_false, Tbl.rd, ih]

/-- A write keeps the canonical form. -/
theorem Tbl.wr_wf (m : Tbl α) (k : Nat) (v : α) (h : Tbl.wf d m = true) : Tbl.wf d (Tbl.wr d m k v) = true := by
  have weaken : ∀ (u : Tbl α) (b c : Nat), c ≤ b → Tbl.above d (some b) u = true → Tbl.above d (some c) u = true := by
    intro u
    cases u with
    | nil => intros; rfl
    | cons f u =>
      obtain ⟨a, x⟩ := f
      intro b c hbc hu
      simp only [Tbl.above, Bool.and_eq_true, decide_eq_true_eq] at hu ⊢
      exact ⟨⟨by omega, hu.1.2⟩, hu.2⟩
  have aux : ∀ (m : Tbl α) (lo : Option Nat), (∀ l, lo = some l → l < k) → Tbl.above d lo m = true →
      Tbl.above d lo (Tbl.wr d m k v) = true := by
    intro m
    induction m with
    | nil =>
      intro lo hlo _
      by_cases hv : v = d
      · simp [Tbl.wr, hv, Tbl.above]
      · cases lo <;> simp_all [Tbl.wr, Tbl.above]
    | cons e t ih =>
      obtain ⟨a, w⟩ := e
      intro lo hlo hm
      have hm' := hm
      simp only [Tbl.above, Bool.and_eq_true] at hm'
      by_cases h1 : k < a
      · by_cases hv : v = d
        · simpa [Tbl.wr, h1, hv] using hm
        · simp only [Tbl.wr, h1, hv, if_true, if_false, Tbl.above, Bool.and_eq_true, decide_eq_true_eq]
          refine ⟨⟨?_, hv⟩, ⟨trivial, by simpa using hm'.1.2⟩, hm'.2⟩
          cases lo <;> simp_all
      · by_cases h2 : k = a
        · subst h2
          by_cases hv : v = d
          · simp only [Tbl.wr, Nat.lt_irrefl, if_false, hv, if_true]
            cases lo with
            | none =>
              cases t with
              | nil => rfl
              | cons f u => obtain ⟨c, x⟩ := f; simp_all [Tbl.above]
            | some l => exact weaken t k l (Nat.le_of_lt (hlo l rfl)) hm'.2
          · have hw : Tbl.wr d ((k, w) :: t) k v = (k, v) :: t := by simp [Tbl.wr, hv]
            rw [hw]
            cases lo <;> simp_all [Tbl.above]
        · simp only [Tbl.wr, h1, h2, if_false, Tbl.above, Bool.and_eq_true]
          refine ⟨hm'.1, ih (some a) ?_ hm'.2⟩
          intro l hl
          cases hl
          omega
  exact aux m none (by intro l hl; cases hl) h

/-- An empty table is canonical and reads as its default everywhere. -/
@[simp] theorem Tbl.wf_nil : Tbl.wf d ([] : Tbl α) = true := rfl

end

@[simp] theorem Tbl.rd_nil {α : Type} {d : α} (k : Nat) : Tbl.rd d ([] : Tbl α) k = d := rfl

/-- A value that is not the default reads back whatever the table's form. -/
theorem Tbl.rd_wr_ne {α : Type} [DecidableEq α] (d : α) (m : Tbl α) (k : Nat) (v : α) (h : v ≠ d) :
    Tbl.rd d (Tbl.wr d m k v) k = v := by
  induction m with
  | nil => simp [Tbl.wr, h, Tbl.rd]
  | cons e t ih =>
    obtain ⟨a, w⟩ := e
    simp only [Tbl.wr, h, if_false]
    split
    · simp [Tbl.rd]
    · split
      · simp [Tbl.rd]
      · rename_i h1 h2
        rw [Tbl.rd, if_neg (fun e => h2 e.symm)]
        exact ih

/-- Of two writes that are not the default, the later stands. -/
theorem Tbl.wr_wr_ne {α : Type} [DecidableEq α] (d : α) (m : Tbl α) (k : Nat) (v u : α) (h : v ≠ d) (hu : u ≠ d) :
    Tbl.wr d (Tbl.wr d m k v) k u = Tbl.wr d m k u := by
  induction m with
  | nil => simp [Tbl.wr, h, hu]
  | cons e t ih =>
    obtain ⟨a, w⟩ := e
    simp only [Tbl.wr, h, hu, if_false]
    split
    · simp [Tbl.wr, hu]
    · split
      · simp [Tbl.wr, hu]
      · rename_i h1 h2
        simp [Tbl.wr, h1, h2, ih]

/-- Changing every value by a function reads as that function where the default is its own image. -/
theorem Tbl.rd_mapv {α : Type} [DecidableEq α] (d : α) (f : α → α) (hf : f d = d) (m : Tbl α) (h : Tbl.wf d m = true)
    (k : Nat) : Tbl.rd d (Tbl.mapv d f m) k = f (Tbl.rd d m k) := by
  have low : ∀ (u : Tbl α) (b : Nat), k ≤ b → Tbl.above d (some b) u = true → Tbl.rd d (Tbl.mapv d f u) k = d := by
    intro u
    induction u with
    | nil => intros; rfl
    | cons e u ih =>
      obtain ⟨a, w⟩ := e
      intro b hb hu
      simp only [Tbl.above, Bool.and_eq_true, decide_eq_true_eq] at hu
      have hne : a ≠ k := by omega
      by_cases hw : f w = d
      · simpa [Tbl.mapv, hw] using ih a (by omega) hu.2
      · simpa [Tbl.mapv, hw, Tbl.rd, hne] using ih a (by omega) hu.2
  have aux : ∀ (m : Tbl α) (lo : Option Nat), Tbl.above d lo m = true →
      Tbl.rd d (Tbl.mapv d f m) k = f (Tbl.rd d m k) := by
    intro m
    induction m with
    | nil => intro lo _; simp [Tbl.mapv, Tbl.rd, hf]
    | cons e t ih =>
      obtain ⟨a, w⟩ := e
      intro lo hm
      simp only [Tbl.above, Bool.and_eq_true] at hm
      by_cases hk : a = k
      · subst hk
        by_cases hw : f w = d
        · simp only [Tbl.mapv, hw, if_true, Tbl.rd]
          exact low t a (Nat.le_refl _) hm.2
        · simp [Tbl.mapv, hw, Tbl.rd]
      · by_cases hw : f w = d
        · simpa [Tbl.mapv, hw, Tbl.rd, hk] using ih (some a) hm.2
        · simpa [Tbl.mapv, hw, Tbl.rd, hk] using ih (some a) hm.2
  exact aux m none h

/-! ## Byte memories -/

/-- Storing bytes keeps the canonical form. -/
theorem Memory.write_wf (m : Memory) (a : Nat) (bs : Bytes) (h : m.wf = true) : (Memory.write m a bs).wf = true := by
  induction bs generalizing m a with
  | nil => exact h
  | cons b bs ih => exact ih _ _ (Tbl.wr_wf m a b h)

/-- Storing bytes leaves every byte outside them as it was. -/
theorem Memory.byte_write_outside (m : Memory) (a : Nat) (bs : Bytes) (x : Nat) (h : x < a ∨ a + bs.length ≤ x) :
    Memory.byte (Memory.write m a bs) x = Memory.byte m x := by
  induction bs generalizing m a with
  | nil => rfl
  | cons b bs ih =>
    have h' : x < a ∨ a + (bs.length + 1) ≤ x := by simpa using h
    have := ih (Tbl.wr 0#8 m a b) (a + 1) (by omega)
    simp only [Memory.write, this]
    exact Tbl.rd_wr_other m a x b (by omega)

/-- A stored byte is read back. -/
theorem Memory.byte_write_inside (m : Memory) (a : Nat) (bs : Bytes) (i : Nat) (hi : i < bs.length) (h : m.wf = true) :
    Memory.byte (Memory.write m a bs) (a + i) = bs[i] := by
  induction bs generalizing m a i with
  | nil => simp at hi
  | cons b bs ih =>
    cases i with
    | zero =>
      simp only [Memory.write, Nat.add_zero, List.getElem_cons_zero]
      rw [Memory.byte_write_outside _ _ _ _ (Or.inl (by omega))]
      exact Tbl.rd_wr_same m a b h
    | succ i =>
      have hi' : i < bs.length := by simpa using hi
      have := ih (Tbl.wr 0#8 m a b) (a + 1) i hi' (Tbl.wr_wf m a b h)
      simpa [Memory.write, Nat.add_assoc, Nat.add_comm 1 i] using this

/-- A memory that was written is read back. -/
theorem Memory.read_write (m : Memory) (a : Nat) (bs : Bytes) (h : m.wf = true) :
    Memory.read (Memory.write m a bs) a bs.length = bs := by
  have aux : ∀ (n k : Nat), k + n = bs.length →
      Memory.read (Memory.write m a bs) (a + k) n = bs.drop k := by
    intro n
    induction n with
    | zero => intro k hk; simp [Memory.read, List.drop_eq_nil_of_le (show bs.length ≤ k by omega)]
    | succ n ih =>
      intro k hk
      have hlt : k < bs.length := by omega
      rw [Memory.read, Memory.byte_write_inside m a bs k hlt h, List.drop_eq_getElem_cons hlt]
      congr 1
      exact ih (k + 1) (by omega)
  simpa using aux bs.length 0 (by omega)

end Sys2Proof.Machine
end

