-- ==== Sys2Proof/Laws/State.lean ====
section
/-! SUPPORT. Every named update of the state, field by field: what it leaves alone, and what it reads back. -/
namespace Sys2Proof.Machine

/-! ### emit -/
@[simp] theorem emit_pending (fs : List Frame) (s : State) : (emit fs s).pending = s.pending := rfl
@[simp] theorem emit_free (fs : List Frame) (s : State) : (emit fs s).free = s.free := rfl
@[simp] theorem emit_aon (fs : List Frame) (s : State) : (emit fs s).aon = s.aon := rfl
@[simp] theorem emit_pwr (fs : List Frame) (s : State) : (emit fs s).pwr = s.pwr := rfl
@[simp] theorem emit_start (fs : List Frame) (s : State) : (emit fs s).start = s.start := rfl
@[simp] theorem emit_net (fs : List Frame) (s : State) : (emit fs s).net = s.net := rfl
@[simp] theorem emit_spi (fs : List Frame) (s : State) : (emit fs s).spi = s.spi := rfl
@[simp] theorem emit_auth (fs : List Frame) (s : State) : (emit fs s).auth = s.auth := rfl
@[simp] theorem emit_sess (fs : List Frame) (s : State) : (emit fs s).sess = s.sess := rfl
@[simp] theorem emit_host (fs : List Frame) (s : State) : (emit fs s).host = s.host := rfl
@[simp] theorem emit_jrnl (fs : List Frame) (s : State) : (emit fs s).jrnl = s.jrnl := rfl
@[simp] theorem emit_own (fs : List Frame) (s : State) : (emit fs s).own = s.own := rfl
@[simp] theorem emit_fw (fs : List Frame) (s : State) : (emit fs s).fw = s.fw := rfl
@[simp] theorem emit_rig (fs : List Frame) (s : State) : (emit fs s).rig = s.rig := rfl
@[simp] theorem emit_tt (fs : List Frame) (s : State) : (emit fs s).tt = s.tt := rfl
@[simp] theorem emit_hal (fs : List Frame) (s : State) : (emit fs s).hal = s.hal := rfl
@[simp] theorem emit_scan (fs : List Frame) (s : State) : (emit fs s).scan = s.scan := rfl
@[simp] theorem emit_points (fs : List Frame) (s : State) : (emit fs s).points = s.points := rfl
@[simp] theorem emit_fronts (fs : List Frame) (s : State) : (emit fs s).fronts = s.fronts := rfl
@[simp] theorem emit_cableOvr (fs : List Frame) (s : State) : (emit fs s).cableOvr = s.cableOvr := rfl
@[simp] theorem emit_trend (fs : List Frame) (s : State) : (emit fs s).trend = s.trend := rfl
@[simp] theorem emit_shv (fs : List Frame) (s : State) : (emit fs s).shv = s.shv := rfl
@[simp] theorem emit_io (fs : List Frame) (s : State) : (emit fs s).io = s.io := rfl
@[simp] theorem emit_masts (fs : List Frame) (s : State) : (emit fs s).masts = s.masts := rfl
@[simp] theorem emit_dryers (fs : List Frame) (s : State) : (emit fs s).dryers = s.dryers := rfl
@[simp] theorem emit_routes (fs : List Frame) (s : State) : (emit fs s).routes = s.routes := rfl

/-! ### setRdy -/
@[simp] theorem State.setRdy_pending (s : State) (n : Nat) : (s.setRdy n).pending = s.pending := rfl
@[simp] theorem State.setRdy_free (s : State) (n : Nat) : (s.setRdy n).free = s.free := rfl
@[simp] theorem State.setRdy_wire (s : State) (n : Nat) : (s.setRdy n).wire = s.wire := rfl
@[simp] theorem State.setRdy_aon (s : State) (n : Nat) : (s.setRdy n).aon = s.aon := rfl
@[simp] theorem State.setRdy_pwr (s : State) (n : Nat) : (s.setRdy n).pwr = s.pwr := rfl
@[simp] theorem State.setRdy_net (s : State) (n : Nat) : (s.setRdy n).net = s.net := rfl
@[simp] theorem State.setRdy_spi (s : State) (n : Nat) : (s.setRdy n).spi = s.spi := rfl
@[simp] theorem State.setRdy_auth (s : State) (n : Nat) : (s.setRdy n).auth = s.auth := rfl
@[simp] theorem State.setRdy_sess (s : State) (n : Nat) : (s.setRdy n).sess = s.sess := rfl
@[simp] theorem State.setRdy_host (s : State) (n : Nat) : (s.setRdy n).host = s.host := rfl
@[simp] theorem State.setRdy_jrnl (s : State) (n : Nat) : (s.setRdy n).jrnl = s.jrnl := rfl
@[simp] theorem State.setRdy_own (s : State) (n : Nat) : (s.setRdy n).own = s.own := rfl
@[simp] theorem State.setRdy_fw (s : State) (n : Nat) : (s.setRdy n).fw = s.fw := rfl
@[simp] theorem State.setRdy_rig (s : State) (n : Nat) : (s.setRdy n).rig = s.rig := rfl
@[simp] theorem State.setRdy_tt (s : State) (n : Nat) : (s.setRdy n).tt = s.tt := rfl
@[simp] theorem State.setRdy_hal (s : State) (n : Nat) : (s.setRdy n).hal = s.hal := rfl
@[simp] theorem State.setRdy_scan (s : State) (n : Nat) : (s.setRdy n).scan = s.scan := rfl
@[simp] theorem State.setRdy_points (s : State) (n : Nat) : (s.setRdy n).points = s.points := rfl
@[simp] theorem State.setRdy_fronts (s : State) (n : Nat) : (s.setRdy n).fronts = s.fronts := rfl
@[simp] theorem State.setRdy_cableOvr (s : State) (n : Nat) : (s.setRdy n).cableOvr = s.cableOvr := rfl
@[simp] theorem State.setRdy_trend (s : State) (n : Nat) : (s.setRdy n).trend = s.trend := rfl
@[simp] theorem State.setRdy_shv (s : State) (n : Nat) : (s.setRdy n).shv = s.shv := rfl
@[simp] theorem State.setRdy_io (s : State) (n : Nat) : (s.setRdy n).io = s.io := rfl
@[simp] theorem State.setRdy_masts (s : State) (n : Nat) : (s.setRdy n).masts = s.masts := rfl
@[simp] theorem State.setRdy_dryers (s : State) (n : Nat) : (s.setRdy n).dryers = s.dryers := rfl
@[simp] theorem State.setRdy_routes (s : State) (n : Nat) : (s.setRdy n).routes = s.routes := rfl
@[simp] theorem State.setRdy_start_ports (s : State) (n : Nat) : (s.setRdy n).start.ports = s.start.ports := rfl
@[simp] theorem State.setRdy_start_startOptime (s : State) (n : Nat) : (s.setRdy n).start.startOptime = s.start.startOptime := rfl
@[simp] theorem State.setRdy_start_startJseq (s : State) (n : Nat) : (s.setRdy n).start.startJseq = s.start.startJseq := rfl
@[simp] theorem State.setRdy_start_kind (s : State) (n : Nat) : (s.setRdy n).start.kind = s.start.kind := rfl
@[simp] theorem State.setRdy_start_keep (s : State) (n : Nat) : (s.setRdy n).start.keep = s.start.keep := rfl
@[simp] theorem State.setRdy_start_warmRun (s : State) (n : Nat) : (s.setRdy n).start.warmRun = s.start.warmRun := rfl
@[simp] theorem State.setRdy_start_warmResets (s : State) (n : Nat) : (s.setRdy n).start.warmResets = s.start.warmResets := rfl
@[simp] theorem State.setRdy_start_correctedN (s : State) (n : Nat) : (s.setRdy n).start.correctedN = s.start.correctedN := rfl
@[simp] theorem State.setRdy_start_corrected (s : State) (n : Nat) : (s.setRdy n).start.corrected = s.start.corrected := rfl
@[simp] theorem State.setRdy_start_resetReq (s : State) (n : Nat) : (s.setRdy n).start.resetReq = s.start.resetReq := rfl
@[simp] theorem State.setRdy_start_readyAt (s : State) (n : Nat) : (s.setRdy n).start.readyAt = s.start.readyAt := rfl
@[simp] theorem State.setRdy_start_seenReady (s : State) (n : Nat) : (s.setRdy n).start.seenReady = s.start.seenReady := rfl
@[simp] theorem State.setRdy_start_seenPorts (s : State) (n : Nat) : (s.setRdy n).start.seenPorts = s.start.seenPorts := rfl
@[simp] theorem State.setRdy_start_refreshAt (s : State) (n : Nat) : (s.setRdy n).start.refreshAt = s.start.refreshAt := rfl
@[simp] theorem State.setRdy_start_afeCalibrating (s : State) (n : Nat) : (s.setRdy n).start.afeCalibrating = s.start.afeCalibrating := rfl

/-! ### setSes -/
@[simp] theorem State.setSes_pending (s : State) (k : Nat) (v : Sess) : (s.setSes k v).pending = s.pending := rfl
@[simp] theorem State.setSes_free (s : State) (k : Nat) (v : Sess) : (s.setSes k v).free = s.free := rfl
@[simp] theorem State.setSes_wire (s : State) (k : Nat) (v : Sess) : (s.setSes k v).wire = s.wire := rfl
@[simp] theorem State.setSes_aon (s : State) (k : Nat) (v : Sess) : (s.setSes k v).aon = s.aon := rfl
@[simp] theorem State.setSes_pwr (s : State) (k : Nat) (v : Sess) : (s.setSes k v).pwr = s.pwr := rfl
@[simp] theorem State.setSes_start (s : State) (k : Nat) (v : Sess) : (s.setSes k v).start = s.start := rfl
@[simp] theorem State.setSes_net (s : State) (k : Nat) (v : Sess) : (s.setSes k v).net = s.net := rfl
@[simp] theorem State.setSes_spi (s : State) (k : Nat) (v : Sess) : (s.setSes k v).spi = s.spi := rfl
@[simp] theorem State.setSes_auth (s : State) (k : Nat) (v : Sess) : (s.setSes k v).auth = s.auth := rfl
@[simp] theorem State.setSes_host (s : State) (k : Nat) (v : Sess) : (s.setSes k v).host = s.host := rfl
@[simp] theorem State.setSes_jrnl (s : State) (k : Nat) (v : Sess) : (s.setSes k v).jrnl = s.jrnl := rfl
@[simp] theorem State.setSes_own (s : State) (k : Nat) (v : Sess) : (s.setSes k v).own = s.own := rfl
@[simp] theorem State.setSes_fw (s : State) (k : Nat) (v : Sess) : (s.setSes k v).fw = s.fw := rfl
@[simp] theorem State.setSes_rig (s : State) (k : Nat) (v : Sess) : (s.setSes k v).rig = s.rig := rfl
@[simp] theorem State.setSes_tt (s : State) (k : Nat) (v : Sess) : (s.setSes k v).tt = s.tt := rfl
@[simp] theorem State.setSes_hal (s : State) (k : Nat) (v : Sess) : (s.setSes k v).hal = s.hal := rfl
@[simp] theorem State.setSes_scan (s : State) (k : Nat) (v : Sess) : (s.setSes k v).scan = s.scan := rfl
@[simp] theorem State.setSes_points (s : State) (k : Nat) (v : Sess) : (s.setSes k v).points = s.points := rfl
@[simp] theorem State.setSes_fronts (s : State) (k : Nat) (v : Sess) : (s.setSes k v).fronts = s.fronts := rfl
@[simp] theorem State.setSes_cableOvr (s : State) (k : Nat) (v : Sess) : (s.setSes k v).cableOvr = s.cableOvr := rfl
@[simp] theorem State.setSes_trend (s : State) (k : Nat) (v : Sess) : (s.setSes k v).trend = s.trend := rfl
@[simp] theorem State.setSes_shv (s : State) (k : Nat) (v : Sess) : (s.setSes k v).shv = s.shv := rfl
@[simp] theorem State.setSes_io (s : State) (k : Nat) (v : Sess) : (s.setSes k v).io = s.io := rfl
@[simp] theorem State.setSes_masts (s : State) (k : Nat) (v : Sess) : (s.setSes k v).masts = s.masts := rfl
@[simp] theorem State.setSes_dryers (s : State) (k : Nat) (v : Sess) : (s.setSes k v).dryers = s.dryers := rfl
@[simp] theorem State.setSes_routes (s : State) (k : Nat) (v : Sess) : (s.setSes k v).routes = s.routes := rfl
@[simp] theorem State.setSes_ses_other (s : State) (k : Nat) (v : Sess) (j : Nat) (hj : j ≠ k) : (s.setSes k v).ses j = s.ses j := Tbl.rd_wr_other _ _ _ _ hj
theorem State.setSes_ses_same (s : State) (k : Nat) (v : Sess) (hw : Tbl.wf Sess.dflt s.sess = true) : (s.setSes k v).ses k = v := Tbl.rd_wr_same _ _ _ hw

/-! ### setBkt -/
@[simp] theorem State.setBkt_pending (s : State) (code : Nat) (b : Bucket) : (s.setBkt code b).pending = s.pending := rfl
@[simp] theorem State.setBkt_free (s : State) (code : Nat) (b : Bucket) : (s.setBkt code b).free = s.free := rfl
@[simp] theorem State.setBkt_wire (s : State) (code : Nat) (b : Bucket) : (s.setBkt code b).wire = s.wire := rfl
@[simp] theorem State.setBkt_aon (s : State) (code : Nat) (b : Bucket) : (s.setBkt code b).aon = s.aon := rfl
@[simp] theorem State.setBkt_pwr (s : State) (code : Nat) (b : Bucket) : (s.setBkt code b).pwr = s.pwr := rfl
@[simp] theorem State.setBkt_start (s : State) (code : Nat) (b : Bucket) : (s.setBkt code b).start = s.start := rfl
@[simp] theorem State.setBkt_net (s : State) (code : Nat) (b : Bucket) : (s.setBkt code b).net = s.net := rfl
@[simp] theorem State.setBkt_spi (s : State) (code : Nat) (b : Bucket) : (s.setBkt code b).spi = s.spi := rfl
@[simp] theorem State.setBkt_auth (s : State) (code : Nat) (b : Bucket) : (s.setBkt code b).auth = s.auth := rfl
@[simp] theorem State.setBkt_sess (s : State) (code : Nat) (b : Bucket) : (s.setBkt code b).sess = s.sess := rfl
@[simp] theorem State.setBkt_host (s : State) (code : Nat) (b : Bucket) : (s.setBkt code b).host = s.host := rfl
@[simp] theorem State.setBkt_jrnl (s : State) (code : Nat) (b : Bucket) : (s.setBkt code b).jrnl = s.jrnl := rfl
@[simp] theorem State.setBkt_own (s : State) (code : Nat) (b : Bucket) : (s.setBkt code b).own = s.own := rfl
@[simp] theorem State.setBkt_fw (s : State) (code : Nat) (b : Bucket) : (s.setBkt code b).fw = s.fw := rfl
@[simp] theorem State.setBkt_rig (s : State) (code : Nat) (b : Bucket) : (s.setBkt code b).rig = s.rig := rfl
@[simp] theorem State.setBkt_hal (s : State) (code : Nat) (b : Bucket) : (s.setBkt code b).hal = s.hal := rfl
@[simp] theorem State.setBkt_scan (s : State) (code : Nat) (b : Bucket) : (s.setBkt code b).scan = s.scan := rfl
@[simp] theorem State.setBkt_points (s : State) (code : Nat) (b : Bucket) : (s.setBkt code b).points = s.points := rfl
@[simp] theorem State.setBkt_fronts (s : State) (code : Nat) (b : Bucket) : (s.setBkt code b).fronts = s.fronts := rfl
@[simp] theorem State.setBkt_cableOvr (s : State) (code : Nat) (b : Bucket) : (s.setBkt code b).cableOvr = s.cableOvr := rfl
@[simp] theorem State.setBkt_trend (s : State) (code : Nat) (b : Bucket) : (s.setBkt code b).trend = s.trend := rfl
@[simp] theorem State.setBkt_shv (s : State) (code : Nat) (b : Bucket) : (s.setBkt code b).shv = s.shv := rfl
@[simp] theorem State.setBkt_io (s : State) (code : Nat) (b : Bucket) : (s.setBkt code b).io = s.io := rfl
@[simp] theorem State.setBkt_masts (s : State) (code : Nat) (b : Bucket) : (s.setBkt code b).masts = s.masts := rfl
@[simp] theorem State.setBkt_dryers (s : State) (code : Nat) (b : Bucket) : (s.setBkt code b).dryers = s.dryers := rfl
@[simp] theorem State.setBkt_routes (s : State) (code : Nat) (b : Bucket) : (s.setBkt code b).routes = s.routes := rfl
@[simp] theorem State.setBkt_tt_next (s : State) (code : Nat) (b : Bucket) : (s.setBkt code b).tt.next = s.tt.next := rfl
@[simp] theorem State.setBkt_tt_oldest (s : State) (code : Nat) (b : Bucket) : (s.setBkt code b).tt.oldest = s.tt.oldest := rfl
@[simp] theorem State.setBkt_tt_ring (s : State) (code : Nat) (b : Bucket) : (s.setBkt code b).tt.ring = s.tt.ring := rfl
@[simp] theorem State.setBkt_tt_fifo (s : State) (code : Nat) (b : Bucket) : (s.setBkt code b).tt.fifo = s.tt.fifo := rfl
@[simp] theorem State.setBkt_tt_lost (s : State) (code : Nat) (b : Bucket) : (s.setBkt code b).tt.lost = s.tt.lost := rfl
@[simp] theorem State.setBkt_tt_lostCode (s : State) (code : Nat) (b : Bucket) : (s.setBkt code b).tt.lostCode = s.tt.lostCode := rfl
@[simp] theorem State.setBkt_tt_lostAt (s : State) (code : Nat) (b : Bucket) : (s.setBkt code b).tt.lostAt = s.tt.lostAt := rfl
@[simp] theorem State.setBkt_tt_stores (s : State) (code : Nat) (b : Bucket) : (s.setBkt code b).tt.stores = s.tt.stores := rfl
@[simp] theorem State.setBkt_tt_limits (s : State) (code : Nat) (b : Bucket) : (s.setBkt code b).tt.limits = s.tt.limits := rfl
@[simp] theorem State.setBkt_tt_lx20 (s : State) (code : Nat) (b : Bucket) : (s.setBkt code b).tt.lx20 = s.tt.lx20 := rfl
@[simp] theorem State.setBkt_tt_cursors (s : State) (code : Nat) (b : Bucket) : (s.setBkt code b).tt.cursors = s.tt.cursors := rfl
@[simp] theorem State.setBkt_tt_offset (s : State) (code : Nat) (b : Bucket) : (s.setBkt code b).tt.offset = s.tt.offset := rfl
@[simp] theorem State.setBkt_tt_stamp (s : State) (code : Nat) (b : Bucket) : (s.setBkt code b).tt.stamp = s.tt.stamp := rfl
@[simp] theorem State.setBkt_ttBkt_other (s : State) (code : Nat) (b : Bucket) (j : Nat) (hj : j ≠ code) : (s.setBkt code b).ttBkt j = s.ttBkt j := Tbl.rd_wr_other _ _ _ _ hj
theorem State.setBkt_ttBkt_same (s : State) (code : Nat) (b : Bucket) (hw : Tbl.wf Bucket.dflt s.tt.buckets = true) : (s.setBkt code b).ttBkt code = b := Tbl.rd_wr_same _ _ _ hw

/-! ### setPort -/
@[simp] theorem State.setPort_pending (s : State) (p : Nat) (v : PortSt) : (s.setPort p v).pending = s.pending := rfl
@[simp] theorem State.setPort_free (s : State) (p : Nat) (v : PortSt) : (s.setPort p v).free = s.free := rfl
@[simp] theorem State.setPort_wire (s : State) (p : Nat) (v : PortSt) : (s.setPort p v).wire = s.wire := rfl
@[simp] theorem State.setPort_aon (s : State) (p : Nat) (v : PortSt) : (s.setPort p v).aon = s.aon := rfl
@[simp] theorem State.setPort_pwr (s : State) (p : Nat) (v : PortSt) : (s.setPort p v).pwr = s.pwr := rfl
@[simp] theorem State.setPort_start (s : State) (p : Nat) (v : PortSt) : (s.setPort p v).start = s.start := rfl
@[simp] theorem State.setPort_spi (s : State) (p : Nat) (v : PortSt) : (s.setPort p v).spi = s.spi := rfl
@[simp] theorem State.setPort_auth (s : State) (p : Nat) (v : PortSt) : (s.setPort p v).auth = s.auth := rfl
@[simp] theorem State.setPort_sess (s : State) (p : Nat) (v : PortSt) : (s.setPort p v).sess = s.sess := rfl
@[simp] theorem State.setPort_host (s : State) (p : Nat) (v : PortSt) : (s.setPort p v).host = s.host := rfl
@[simp] theorem State.setPort_jrnl (s : State) (p : Nat) (v : PortSt) : (s.setPort p v).jrnl = s.jrnl := rfl
@[simp] theorem State.setPort_own (s : State) (p : Nat) (v : PortSt) : (s.setPort p v).own = s.own := rfl
@[simp] theorem State.setPort_fw (s : State) (p : Nat) (v : PortSt) : (s.setPort p v).fw = s.fw := rfl
@[simp] theorem State.setPort_rig (s : State) (p : Nat) (v : PortSt) : (s.setPort p v).rig = s.rig := rfl
@[simp] theorem State.setPort_tt (s : State) (p : Nat) (v : PortSt) : (s.setPort p v).tt = s.tt := rfl
@[simp] theorem State.setPort_hal (s : State) (p : Nat) (v : PortSt) : (s.setPort p v).hal = s.hal := rfl
@[simp] theorem State.setPort_scan (s : State) (p : Nat) (v : PortSt) : (s.setPort p v).scan = s.scan := rfl
@[simp] theorem State.setPort_points (s : State) (p : Nat) (v : PortSt) : (s.setPort p v).points = s.points := rfl
@[simp] theorem State.setPort_fronts (s : State) (p : Nat) (v : PortSt) : (s.setPort p v).fronts = s.fronts := rfl
@[simp] theorem State.setPort_cableOvr (s : State) (p : Nat) (v : PortSt) : (s.setPort p v).cableOvr = s.cableOvr := rfl
@[simp] theorem State.setPort_trend (s : State) (p : Nat) (v : PortSt) : (s.setPort p v).trend = s.trend := rfl
@[simp] theorem State.setPort_shv (s : State) (p : Nat) (v : PortSt) : (s.setPort p v).shv = s.shv := rfl
@[simp] theorem State.setPort_io (s : State) (p : Nat) (v : PortSt) : (s.setPort p v).io = s.io := rfl
@[simp] theorem State.setPort_masts (s : State) (p : Nat) (v : PortSt) : (s.setPort p v).masts = s.masts := rfl
@[simp] theorem State.setPort_dryers (s : State) (p : Nat) (v : PortSt) : (s.setPort p v).dryers = s.dryers := rfl
@[simp] theorem State.setPort_routes (s : State) (p : Nat) (v : PortSt) : (s.setPort p v).routes = s.routes := rfl
@[simp] theorem State.setPort_net_frags (s : State) (p : Nat) (v : PortSt) : (s.setPort p v).net.frags = s.net.frags := rfl
@[simp] theorem State.setPort_net_can (s : State) (p : Nat) (v : PortSt) : (s.setPort p v).net.can = s.net.can := rfl
@[simp] theorem State.setPort_net_busOff (s : State) (p : Nat) (v : PortSt) : (s.setPort p v).net.busOff = s.net.busOff := rfl
@[simp] theorem State.setPort_net_icmp (s : State) (p : Nat) (v : PortSt) : (s.setPort p v).net.icmp = s.net.icmp := rfl
@[simp] theorem State.setPort_net_held (s : State) (p : Nat) (v : PortSt) : (s.setPort p v).net.held = s.net.held := rfl
@[simp] theorem State.setPort_net_heldBy (s : State) (p : Nat) (v : PortSt) : (s.setPort p v).net.heldBy = s.net.heldBy := rfl
@[simp] theorem State.setPort_port_other (s : State) (p : Nat) (v : PortSt) (j : Nat) (hj : j ≠ p) : (s.setPort p v).port j = s.port j := Tbl.rd_wr_other _ _ _ _ hj
theorem State.setPort_port_same (s : State) (p : Nat) (v : PortSt) (hw : Tbl.wf PortSt.dflt s.net.ports = true) : (s.setPort p v).port p = v := Tbl.rd_wr_same _ _ _ hw

/-! ### setOwn -/
@[simp] theorem State.setOwn_pending (s : State) (key : Nat) (o : Own) : (s.setOwn key o).pending = s.pending := rfl
@[simp] theorem State.setOwn_free (s : State) (key : Nat) (o : Own) : (s.setOwn key o).free = s.free := rfl
@[simp] theorem State.setOwn_wire (s : State) (key : Nat) (o : Own) : (s.setOwn key o).wire = s.wire := rfl
@[simp] theorem State.setOwn_aon (s : State) (key : Nat) (o : Own) : (s.setOwn key o).aon = s.aon := rfl
@[simp] theorem State.setOwn_pwr (s : State) (key : Nat) (o : Own) : (s.setOwn key o).pwr = s.pwr := rfl
@[simp] theorem State.setOwn_start (s : State) (key : Nat) (o : Own) : (s.setOwn key o).start = s.start := rfl
@[simp] theorem State.setOwn_net (s : State) (key : Nat) (o : Own) : (s.setOwn key o).net = s.net := rfl
@[simp] theorem State.setOwn_spi (s : State) (key : Nat) (o : Own) : (s.setOwn key o).spi = s.spi := rfl
@[simp] theorem State.setOwn_auth (s : State) (key : Nat) (o : Own) : (s.setOwn key o).auth = s.auth := rfl
@[simp] theorem State.setOwn_sess (s : State) (key : Nat) (o : Own) : (s.setOwn key o).sess = s.sess := rfl
@[simp] theorem State.setOwn_host (s : State) (key : Nat) (o : Own) : (s.setOwn key o).host = s.host := rfl
@[simp] theorem State.setOwn_jrnl (s : State) (key : Nat) (o : Own) : (s.setOwn key o).jrnl = s.jrnl := rfl
@[simp] theorem State.setOwn_fw (s : State) (key : Nat) (o : Own) : (s.setOwn key o).fw = s.fw := rfl
@[simp] theorem State.setOwn_rig (s : State) (key : Nat) (o : Own) : (s.setOwn key o).rig = s.rig := rfl
@[simp] theorem State.setOwn_tt (s : State) (key : Nat) (o : Own) : (s.setOwn key o).tt = s.tt := rfl
@[simp] theorem State.setOwn_hal (s : State) (key : Nat) (o : Own) : (s.setOwn key o).hal = s.hal := rfl
@[simp] theorem State.setOwn_scan (s : State) (key : Nat) (o : Own) : (s.setOwn key o).scan = s.scan := rfl
@[simp] theorem State.setOwn_points (s : State) (key : Nat) (o : Own) : (s.setOwn key o).points = s.points := rfl
@[simp] theorem State.setOwn_fronts (s : State) (key : Nat) (o : Own) : (s.setOwn key o).fronts = s.fronts := rfl
@[simp] theorem State.setOwn_cableOvr (s : State) (key : Nat) (o : Own) : (s.setOwn key o).cableOvr = s.cableOvr := rfl
@[simp] theorem State.setOwn_trend (s : State) (key : Nat) (o : Own) : (s.setOwn key o).trend = s.trend := rfl
@[simp] theorem State.setOwn_shv (s : State) (key : Nat) (o : Own) : (s.setOwn key o).shv = s.shv := rfl
@[simp] theorem State.setOwn_io (s : State) (key : Nat) (o : Own) : (s.setOwn key o).io = s.io := rfl
@[simp] theorem State.setOwn_masts (s : State) (key : Nat) (o : Own) : (s.setOwn key o).masts = s.masts := rfl
@[simp] theorem State.setOwn_dryers (s : State) (key : Nat) (o : Own) : (s.setOwn key o).dryers = s.dryers := rfl
@[simp] theorem State.setOwn_routes (s : State) (key : Nat) (o : Own) : (s.setOwn key o).routes = s.routes := rfl
@[simp] theorem State.setOwn_ownOf_other (s : State) (key : Nat) (o : Own) (j : Nat) (hj : j ≠ key) : (s.setOwn key o).ownOf j = s.ownOf j := Tbl.rd_wr_other _ _ _ _ hj
theorem State.setOwn_ownOf_same (s : State) (key : Nat) (o : Own) (hw : Tbl.wf Own.dflt s.own = true) : (s.setOwn key o).ownOf key = o := Tbl.rd_wr_same _ _ _ hw

/-! ### setDie -/
@[simp] theorem State.setDie_pending (s : State) (d : Nat) (v : Die) : (s.setDie d v).pending = s.pending := rfl
@[simp] theorem State.setDie_free (s : State) (d : Nat) (v : Die) : (s.setDie d v).free = s.free := rfl
@[simp] theorem State.setDie_wire (s : State) (d : Nat) (v : Die) : (s.setDie d v).wire = s.wire := rfl
@[simp] theorem State.setDie_aon (s : State) (d : Nat) (v : Die) : (s.setDie d v).aon = s.aon := rfl
@[simp] theorem State.setDie_pwr (s : State) (d : Nat) (v : Die) : (s.setDie d v).pwr = s.pwr := rfl
@[simp] theorem State.setDie_start (s : State) (d : Nat) (v : Die) : (s.setDie d v).start = s.start := rfl
@[simp] theorem State.setDie_net (s : State) (d : Nat) (v : Die) : (s.setDie d v).net = s.net := rfl
@[simp] theorem State.setDie_spi (s : State) (d : Nat) (v : Die) : (s.setDie d v).spi = s.spi := rfl
@[simp] theorem State.setDie_auth (s : State) (d : Nat) (v : Die) : (s.setDie d v).auth = s.auth := rfl
@[simp] theorem State.setDie_sess (s : State) (d : Nat) (v : Die) : (s.setDie d v).sess = s.sess := rfl
@[simp] theorem State.setDie_host (s : State) (d : Nat) (v : Die) : (s.setDie d v).host = s.host := rfl
@[simp] theorem State.setDie_jrnl (s : State) (d : Nat) (v : Die) : (s.setDie d v).jrnl = s.jrnl := rfl
@[simp] theorem State.setDie_own (s : State) (d : Nat) (v : Die) : (s.setDie d v).own = s.own := rfl
@[simp] theorem State.setDie_fw (s : State) (d : Nat) (v : Die) : (s.setDie d v).fw = s.fw := rfl
@[simp] theorem State.setDie_rig (s : State) (d : Nat) (v : Die) : (s.setDie d v).rig = s.rig := rfl
@[simp] theorem State.setDie_tt (s : State) (d : Nat) (v : Die) : (s.setDie d v).tt = s.tt := rfl
@[simp] theorem State.setDie_hal (s : State) (d : Nat) (v : Die) : (s.setDie d v).hal = s.hal := rfl
@[simp] theorem State.setDie_scan (s : State) (d : Nat) (v : Die) : (s.setDie d v).scan = s.scan := rfl
@[simp] theorem State.setDie_points (s : State) (d : Nat) (v : Die) : (s.setDie d v).points = s.points := rfl
@[simp] theorem State.setDie_fronts (s : State) (d : Nat) (v : Die) : (s.setDie d v).fronts = s.fronts := rfl
@[simp] theorem State.setDie_cableOvr (s : State) (d : Nat) (v : Die) : (s.setDie d v).cableOvr = s.cableOvr := rfl
@[simp] theorem State.setDie_trend (s : State) (d : Nat) (v : Die) : (s.setDie d v).trend = s.trend := rfl
@[simp] theorem State.setDie_shv (s : State) (d : Nat) (v : Die) : (s.setDie d v).shv = s.shv := rfl
@[simp] theorem State.setDie_masts (s : State) (d : Nat) (v : Die) : (s.setDie d v).masts = s.masts := rfl
@[simp] theorem State.setDie_dryers (s : State) (d : Nat) (v : Die) : (s.setDie d v).dryers = s.dryers := rfl
@[simp] theorem State.setDie_routes (s : State) (d : Nat) (v : Die) : (s.setDie d v).routes = s.routes := rfl
@[simp] theorem State.setDie_io_lockLand (s : State) (d : Nat) (v : Die) : (s.setDie d v).io.lockLand = s.io.lockLand := rfl
@[simp] theorem State.setDie_io_lockRec (s : State) (d : Nat) (v : Die) : (s.setDie d v).io.lockRec = s.io.lockRec := rfl
@[simp] theorem State.setDie_io_disagreeAt (s : State) (d : Nat) (v : Die) : (s.setDie d v).io.disagreeAt = s.io.disagreeAt := rfl
@[simp] theorem State.setDie_io_disagreed (s : State) (d : Nat) (v : Die) : (s.setDie d v).io.disagreed = s.io.disagreed := rfl
@[simp] theorem State.setDie_io_host (s : State) (d : Nat) (v : Die) : (s.setDie d v).io.host = s.io.host := rfl
@[simp] theorem State.setDie_io_outs (s : State) (d : Nat) (v : Die) : (s.setDie d v).io.outs = s.io.outs := rfl
@[simp] theorem State.setDie_io_fans (s : State) (d : Nat) (v : Die) : (s.setDie d v).io.fans = s.io.fans := rfl
@[simp] theorem State.setDie_io_fanAt (s : State) (d : Nat) (v : Die) : (s.setDie d v).io.fanAt = s.io.fanAt := rfl
@[simp] theorem State.setDie_io_wdLoad (s : State) (d : Nat) (v : Die) : (s.setDie d v).io.wdLoad = s.io.wdLoad := rfl
@[simp] theorem State.setDie_io_wdAt (s : State) (d : Nat) (v : Die) : (s.setDie d v).io.wdAt = s.io.wdAt := rfl
@[simp] theorem State.setDie_io_wdZero (s : State) (d : Nat) (v : Die) : (s.setDie d v).io.wdZero = s.io.wdZero := rfl
@[simp] theorem State.setDie_io_loads (s : State) (d : Nat) (v : Die) : (s.setDie d v).io.loads = s.io.loads := rfl
@[simp] theorem State.setDie_io_banks (s : State) (d : Nat) (v : Die) : (s.setDie d v).io.banks = s.io.banks := rfl
@[simp] theorem State.setDie_io_loadStart (s : State) (d : Nat) (v : Die) : (s.setDie d v).io.loadStart = s.io.loadStart := rfl
@[simp] theorem State.setDie_io_fuseAt (s : State) (d : Nat) (v : Die) : (s.setDie d v).io.fuseAt = s.io.fuseAt := rfl
@[simp] theorem State.setDie_io_modAt (s : State) (d : Nat) (v : Die) : (s.setDie d v).io.modAt = s.io.modAt := rfl
@[simp] theorem State.setDie_io_modShedAt (s : State) (d : Nat) (v : Die) : (s.setDie d v).io.modShedAt = s.io.modShedAt := rfl
@[simp] theorem State.setDie_io_dios (s : State) (d : Nat) (v : Die) : (s.setDie d v).io.dios = s.io.dios := rfl
@[simp] theorem State.setDie_io_dgrps (s : State) (d : Nat) (v : Die) : (s.setDie d v).io.dgrps = s.io.dgrps := rfl
@[simp] theorem State.setDie_io_onCount (s : State) (d : Nat) (v : Die) : (s.setDie d v).io.onCount = s.io.onCount := rfl
@[simp] theorem State.setDie_io_aos (s : State) (d : Nat) (v : Die) : (s.setDie d v).io.aos = s.io.aos := rfl
@[simp] theorem State.setDie_io_afe (s : State) (d : Nat) (v : Die) : (s.setDie d v).io.afe = s.io.afe := rfl
@[simp] theorem State.setDie_io_convs (s : State) (d : Nat) (v : Die) : (s.setDie d v).io.convs = s.io.convs := rfl
@[simp] theorem State.setDie_io_sws (s : State) (d : Nat) (v : Die) : (s.setDie d v).io.sws = s.io.sws := rfl
@[simp] theorem State.setDie_die_other (s : State) (d : Nat) (v : Die) (j : Nat) (hj : j ≠ d) : (s.setDie d v).die j = s.die j := Tbl.rd_wr_other _ _ _ _ hj
theorem State.setDie_die_same (s : State) (d : Nat) (v : Die) (hw : Tbl.wf Die.dflt s.io.dies = true) : (s.setDie d v).die d = v := Tbl.rd_wr_same _ _ _ hw

/-! ### setOut -/
@[simp] theorem State.setOut_pending (s : State) (k : Nat) (v : OutC) : (s.setOut k v).pending = s.pending := rfl
@[simp] theorem State.setOut_free (s : State) (k : Nat) (v : OutC) : (s.setOut k v).free = s.free := rfl
@[simp] theorem State.setOut_wire (s : State) (k : Nat) (v : OutC) : (s.setOut k v).wire = s.wire := rfl
@[simp] theorem State.setOut_aon (s : State) (k : Nat) (v : OutC) : (s.setOut k v).aon = s.aon := rfl
@[simp] theorem State.setOut_pwr (s : State) (k : Nat) (v : OutC) : (s.setOut k v).pwr = s.pwr := rfl
@[simp] theorem State.setOut_start (s : State) (k : Nat) (v : OutC) : (s.setOut k v).start = s.start := rfl
@[simp] theorem State.setOut_net (s : State) (k : Nat) (v : OutC) : (s.setOut k v).net = s.net := rfl
@[simp] theorem State.setOut_spi (s : State) (k : Nat) (v : OutC) : (s.setOut k v).spi = s.spi := rfl
@[simp] theorem State.setOut_auth (s : State) (k : Nat) (v : OutC) : (s.setOut k v).auth = s.auth := rfl
@[simp] theorem State.setOut_sess (s : State) (k : Nat) (v : OutC) : (s.setOut k v).sess = s.sess := rfl
@[simp] theorem State.setOut_host (s : State) (k : Nat) (v : OutC) : (s.setOut k v).host = s.host := rfl
@[simp] theorem State.setOut_jrnl (s : State) (k : Nat) (v : OutC) : (s.setOut k v).jrnl = s.jrnl := rfl
@[simp] theorem State.setOut_own (s : State) (k : Nat) (v : OutC) : (s.setOut k v).own = s.own := rfl
@[simp] theorem State.setOut_fw (s : State) (k : Nat) (v : OutC) : (s.setOut k v).fw = s.fw := rfl
@[simp] theorem State.setOut_rig (s : State) (k : Nat) (v : OutC) : (s.setOut k v).rig = s.rig := rfl
@[simp] theorem State.setOut_tt (s : State) (k : Nat) (v : OutC) : (s.setOut k v).tt = s.tt := rfl
@[simp] theorem State.setOut_hal (s : State) (k : Nat) (v : OutC) : (s.setOut k v).hal = s.hal := rfl
@[simp] theorem State.setOut_scan (s : State) (k : Nat) (v : OutC) : (s.setOut k v).scan = s.scan := rfl
@[simp] theorem State.setOut_points (s : State) (k : Nat) (v : OutC) : (s.setOut k v).points = s.points := rfl
@[simp] theorem State.setOut_fronts (s : State) (k : Nat) (v : OutC) : (s.setOut k v).fronts = s.fronts := rfl
@[simp] theorem State.setOut_cableOvr (s : State) (k : Nat) (v : OutC) : (s.setOut k v).cableOvr = s.cableOvr := rfl
@[simp] theorem State.setOut_trend (s : State) (k : Nat) (v : OutC) : (s.setOut k v).trend = s.trend := rfl
@[simp] theorem State.setOut_shv (s : State) (k : Nat) (v : OutC) : (s.setOut k v).shv = s.shv := rfl
@[simp] theorem State.setOut_masts (s : State) (k : Nat) (v : OutC) : (s.setOut k v).masts = s.masts := rfl
@[simp] theorem State.setOut_dryers (s : State) (k : Nat) (v : OutC) : (s.setOut k v).dryers = s.dryers := rfl
@[simp] theorem State.setOut_routes (s : State) (k : Nat) (v : OutC) : (s.setOut k v).routes = s.routes := rfl
@[simp] theorem State.setOut_io_dies (s : State) (k : Nat) (v : OutC) : (s.setOut k v).io.dies = s.io.dies := rfl
@[simp] theorem State.setOut_io_lockLand (s : State) (k : Nat) (v : OutC) : (s.setOut k v).io.lockLand = s.io.lockLand := rfl
@[simp] theorem State.setOut_io_lockRec (s : State) (k : Nat) (v : OutC) : (s.setOut k v).io.lockRec = s.io.lockRec := rfl
@[simp] theorem State.setOut_io_disagreeAt (s : State) (k : Nat) (v : OutC) : (s.setOut k v).io.disagreeAt = s.io.disagreeAt := rfl
@[simp] theorem State.setOut_io_disagreed (s : State) (k : Nat) (v : OutC) : (s.setOut k v).io.disagreed = s.io.disagreed := rfl
@[simp] theorem State.setOut_io_host (s : State) (k : Nat) (v : OutC) : (s.setOut k v).io.host = s.io.host := rfl
@[simp] theorem State.setOut_io_fans (s : State) (k : Nat) (v : OutC) : (s.setOut k v).io.fans = s.io.fans := rfl
@[simp] theorem State.setOut_io_fanAt (s : State) (k : Nat) (v : OutC) : (s.setOut k v).io.fanAt = s.io.fanAt := rfl
@[simp] theorem State.setOut_io_wdLoad (s : State) (k : Nat) (v : OutC) : (s.setOut k v).io.wdLoad = s.io.wdLoad := rfl
@[simp] theorem State.setOut_io_wdAt (s : State) (k : Nat) (v : OutC) : (s.setOut k v).io.wdAt = s.io.wdAt := rfl
@[simp] theorem State.setOut_io_wdZero (s : State) (k : Nat) (v : OutC) : (s.setOut k v).io.wdZero = s.io.wdZero := rfl
@[simp] theorem State.setOut_io_loads (s : State) (k : Nat) (v : OutC) : (s.setOut k v).io.loads = s.io.loads := rfl
@[simp] theorem State.setOut_io_banks (s : State) (k : Nat) (v : OutC) : (s.setOut k v).io.banks = s.io.banks := rfl
@[simp] theorem State.setOut_io_loadStart (s : State) (k : Nat) (v : OutC) : (s.setOut k v).io.loadStart = s.io.loadStart := rfl
@[simp] theorem State.setOut_io_fuseAt (s : State) (k : Nat) (v : OutC) : (s.setOut k v).io.fuseAt = s.io.fuseAt := rfl
@[simp] theorem State.setOut_io_modAt (s : State) (k : Nat) (v : OutC) : (s.setOut k v).io.modAt = s.io.modAt := rfl
@[simp] theorem State.setOut_io_modShedAt (s : State) (k : Nat) (v : OutC) : (s.setOut k v).io.modShedAt = s.io.modShedAt := rfl
@[simp] theorem State.setOut_io_dios (s : State) (k : Nat) (v : OutC) : (s.setOut k v).io.dios = s.io.dios := rfl
@[simp] theorem State.setOut_io_dgrps (s : State) (k : Nat) (v : OutC) : (s.setOut k v).io.dgrps = s.io.dgrps := rfl
@[simp] theorem State.setOut_io_onCount (s : State) (k : Nat) (v : OutC) : (s.setOut k v).io.onCount = s.io.onCount := rfl
@[simp] theorem State.setOut_io_aos (s : State) (k : Nat) (v : OutC) : (s.setOut k v).io.aos = s.io.aos := rfl
@[simp] theorem State.setOut_io_afe (s : State) (k : Nat) (v : OutC) : (s.setOut k v).io.afe = s.io.afe := rfl
@[simp] theorem State.setOut_io_convs (s : State) (k : Nat) (v : OutC) : (s.setOut k v).io.convs = s.io.convs := rfl
@[simp] theorem State.setOut_io_sws (s : State) (k : Nat) (v : OutC) : (s.setOut k v).io.sws = s.io.sws := rfl
@[simp] theorem State.setOut_out_other (s : State) (k : Nat) (v : OutC) (j : Nat) (hj : j ≠ k) : (s.setOut k v).out j = s.out j := Tbl.rd_wr_other _ _ _ _ hj
theorem State.setOut_out_same (s : State) (k : Nat) (v : OutC) (hw : Tbl.wf OutC.dflt s.io.outs = true) : (s.setOut k v).out k = v := Tbl.rd_wr_same _ _ _ hw

/-! ### setFan -/
@[simp] theorem State.setFan_pending (s : State) (i : Nat) (v : FanCh) : (s.setFan i v).pending = s.pending := rfl
@[simp] theorem State.setFan_free (s : State) (i : Nat) (v : FanCh) : (s.setFan i v).free = s.free := rfl
@[simp] theorem State.setFan_wire (s : State) (i : Nat) (v : FanCh) : (s.setFan i v).wire = s.wire := rfl
@[simp] theorem State.setFan_aon (s : State) (i : Nat) (v : FanCh) : (s.setFan i v).aon = s.aon := rfl
@[simp] theorem State.setFan_pwr (s : State) (i : Nat) (v : FanCh) : (s.setFan i v).pwr = s.pwr := rfl
@[simp] theorem State.setFan_start (s : State) (i : Nat) (v : FanCh) : (s.setFan i v).start = s.start := rfl
@[simp] theorem State.setFan_net (s : State) (i : Nat) (v : FanCh) : (s.setFan i v).net = s.net := rfl
@[simp] theorem State.setFan_spi (s : State) (i : Nat) (v : FanCh) : (s.setFan i v).spi = s.spi := rfl
@[simp] theorem State.setFan_auth (s : State) (i : Nat) (v : FanCh) : (s.setFan i v).auth = s.auth := rfl
@[simp] theorem State.setFan_sess (s : State) (i : Nat) (v : FanCh) : (s.setFan i v).sess = s.sess := rfl
@[simp] theorem State.setFan_host (s : State) (i : Nat) (v : FanCh) : (s.setFan i v).host = s.host := rfl
@[simp] theorem State.setFan_jrnl (s : State) (i : Nat) (v : FanCh) : (s.setFan i v).jrnl = s.jrnl := rfl
@[simp] theorem State.setFan_own (s : State) (i : Nat) (v : FanCh) : (s.setFan i v).own = s.own := rfl
@[simp] theorem State.setFan_fw (s : State) (i : Nat) (v : FanCh) : (s.setFan i v).fw = s.fw := rfl
@[simp] theorem State.setFan_rig (s : State) (i : Nat) (v : FanCh) : (s.setFan i v).rig = s.rig := rfl
@[simp] theorem State.setFan_tt (s : State) (i : Nat) (v : FanCh) : (s.setFan i v).tt = s.tt := rfl
@[simp] theorem State.setFan_hal (s : State) (i : Nat) (v : FanCh) : (s.setFan i v).hal = s.hal := rfl
@[simp] theorem State.setFan_scan (s : State) (i : Nat) (v : FanCh) : (s.setFan i v).scan = s.scan := rfl
@[simp] theorem State.setFan_points (s : State) (i : Nat) (v : FanCh) : (s.setFan i v).points = s.points := rfl
@[simp] theorem State.setFan_fronts (s : State) (i : Nat) (v : FanCh) : (s.setFan i v).fronts = s.fronts := rfl
@[simp] theorem State.setFan_cableOvr (s : State) (i : Nat) (v : FanCh) : (s.setFan i v).cableOvr = s.cableOvr := rfl
@[simp] theorem State.setFan_trend (s : State) (i : Nat) (v : FanCh) : (s.setFan i v).trend = s.trend := rfl
@[simp] theorem State.setFan_shv (s : State) (i : Nat) (v : FanCh) : (s.setFan i v).shv = s.shv := rfl
@[simp] theorem State.setFan_masts (s : State) (i : Nat) (v : FanCh) : (s.setFan i v).masts = s.masts := rfl
@[simp] theorem State.setFan_dryers (s : State) (i : Nat) (v : FanCh) : (s.setFan i v).dryers = s.dryers := rfl
@[simp] theorem State.setFan_routes (s : State) (i : Nat) (v : FanCh) : (s.setFan i v).routes = s.routes := rfl
@[simp] theorem State.setFan_io_dies (s : State) (i : Nat) (v : FanCh) : (s.setFan i v).io.dies = s.io.dies := rfl
@[simp] theorem State.setFan_io_lockLand (s : State) (i : Nat) (v : FanCh) : (s.setFan i v).io.lockLand = s.io.lockLand := rfl
@[simp] theorem State.setFan_io_lockRec (s : State) (i : Nat) (v : FanCh) : (s.setFan i v).io.lockRec = s.io.lockRec := rfl
@[simp] theorem State.setFan_io_disagreeAt (s : State) (i : Nat) (v : FanCh) : (s.setFan i v).io.disagreeAt = s.io.disagreeAt := rfl
@[simp] theorem State.setFan_io_disagreed (s : State) (i : Nat) (v : FanCh) : (s.setFan i v).io.disagreed = s.io.disagreed := rfl
@[simp] theorem State.setFan_io_host (s : State) (i : Nat) (v : FanCh) : (s.setFan i v).io.host = s.io.host := rfl
@[simp] theorem State.setFan_io_outs (s : State) (i : Nat) (v : FanCh) : (s.setFan i v).io.outs = s.io.outs := rfl
@[simp] theorem State.setFan_io_fanAt (s : State) (i : Nat) (v : FanCh) : (s.setFan i v).io.fanAt = s.io.fanAt := rfl
@[simp] theorem State.setFan_io_wdLoad (s : State) (i : Nat) (v : FanCh) : (s.setFan i v).io.wdLoad = s.io.wdLoad := rfl
@[simp] theorem State.setFan_io_wdAt (s : State) (i : Nat) (v : FanCh) : (s.setFan i v).io.wdAt = s.io.wdAt := rfl
@[simp] theorem State.setFan_io_wdZero (s : State) (i : Nat) (v : FanCh) : (s.setFan i v).io.wdZero = s.io.wdZero := rfl
@[simp] theorem State.setFan_io_loads (s : State) (i : Nat) (v : FanCh) : (s.setFan i v).io.loads = s.io.loads := rfl
@[simp] theorem State.setFan_io_banks (s : State) (i : Nat) (v : FanCh) : (s.setFan i v).io.banks = s.io.banks := rfl
@[simp] theorem State.setFan_io_loadStart (s : State) (i : Nat) (v : FanCh) : (s.setFan i v).io.loadStart = s.io.loadStart := rfl
@[simp] theorem State.setFan_io_fuseAt (s : State) (i : Nat) (v : FanCh) : (s.setFan i v).io.fuseAt = s.io.fuseAt := rfl
@[simp] theorem State.setFan_io_modAt (s : State) (i : Nat) (v : FanCh) : (s.setFan i v).io.modAt = s.io.modAt := rfl
@[simp] theorem State.setFan_io_modShedAt (s : State) (i : Nat) (v : FanCh) : (s.setFan i v).io.modShedAt = s.io.modShedAt := rfl
@[simp] theorem State.setFan_io_dios (s : State) (i : Nat) (v : FanCh) : (s.setFan i v).io.dios = s.io.dios := rfl
@[simp] theorem State.setFan_io_dgrps (s : State) (i : Nat) (v : FanCh) : (s.setFan i v).io.dgrps = s.io.dgrps := rfl
@[simp] theorem State.setFan_io_onCount (s : State) (i : Nat) (v : FanCh) : (s.setFan i v).io.onCount = s.io.onCount := rfl
@[simp] theorem State.setFan_io_aos (s : State) (i : Nat) (v : FanCh) : (s.setFan i v).io.aos = s.io.aos := rfl
@[simp] theorem State.setFan_io_afe (s : State) (i : Nat) (v : FanCh) : (s.setFan i v).io.afe = s.io.afe := rfl
@[simp] theorem State.setFan_io_convs (s : State) (i : Nat) (v : FanCh) : (s.setFan i v).io.convs = s.io.convs := rfl
@[simp] theorem State.setFan_io_sws (s : State) (i : Nat) (v : FanCh) : (s.setFan i v).io.sws = s.io.sws := rfl
@[simp] theorem State.setFan_fan_other (s : State) (i : Nat) (v : FanCh) (j : Nat) (hj : j ≠ i) : (s.setFan i v).fan j = s.fan j := Tbl.rd_wr_other _ _ _ _ hj
theorem State.setFan_fan_same (s : State) (i : Nat) (v : FanCh) (hw : Tbl.wf FanCh.dflt s.io.fans = true) : (s.setFan i v).fan i = v := Tbl.rd_wr_same _ _ _ hw

/-! ### setLoad -/
@[simp] theorem State.setLoad_pending (s : State) (i : Nat) (v : LoadCh) : (s.setLoad i v).pending = s.pending := rfl
@[simp] theorem State.setLoad_free (s : State) (i : Nat) (v : LoadCh) : (s.setLoad i v).free = s.free := rfl
@[simp] theorem State.setLoad_wire (s : State) (i : Nat) (v : LoadCh) : (s.setLoad i v).wire = s.wire := rfl
@[simp] theorem State.setLoad_aon (s : State) (i : Nat) (v : LoadCh) : (s.setLoad i v).aon = s.aon := rfl
@[simp] theorem State.setLoad_pwr (s : State) (i : Nat) (v : LoadCh) : (s.setLoad i v).pwr = s.pwr := rfl
@[simp] theorem State.setLoad_start (s : State) (i : Nat) (v : LoadCh) : (s.setLoad i v).start = s.start := rfl
@[simp] theorem State.setLoad_net (s : State) (i : Nat) (v : LoadCh) : (s.setLoad i v).net = s.net := rfl
@[simp] theorem State.setLoad_spi (s : State) (i : Nat) (v : LoadCh) : (s.setLoad i v).spi = s.spi := rfl
@[simp] theorem State.setLoad_auth (s : State) (i : Nat) (v : LoadCh) : (s.setLoad i v).auth = s.auth := rfl
@[simp] theorem State.setLoad_sess (s : State) (i : Nat) (v : LoadCh) : (s.setLoad i v).sess = s.sess := rfl
@[simp] theorem State.setLoad_host (s : State) (i : Nat) (v : LoadCh) : (s.setLoad i v).host = s.host := rfl
@[simp] theorem State.setLoad_jrnl (s : State) (i : Nat) (v : LoadCh) : (s.setLoad i v).jrnl = s.jrnl := rfl
@[simp] theorem State.setLoad_own (s : State) (i : Nat) (v : LoadCh) : (s.setLoad i v).own = s.own := rfl
@[simp] theorem State.setLoad_fw (s : State) (i : Nat) (v : LoadCh) : (s.setLoad i v).fw = s.fw := rfl
@[simp] theorem State.setLoad_rig (s : State) (i : Nat) (v : LoadCh) : (s.setLoad i v).rig = s.rig := rfl
@[simp] theorem State.setLoad_tt (s : State) (i : Nat) (v : LoadCh) : (s.setLoad i v).tt = s.tt := rfl
@[simp] theorem State.setLoad_hal (s : State) (i : Nat) (v : LoadCh) : (s.setLoad i v).hal = s.hal := rfl
@[simp] theorem State.setLoad_scan (s : State) (i : Nat) (v : LoadCh) : (s.setLoad i v).scan = s.scan := rfl
@[simp] theorem State.setLoad_points (s : State) (i : Nat) (v : LoadCh) : (s.setLoad i v).points = s.points := rfl
@[simp] theorem State.setLoad_fronts (s : State) (i : Nat) (v : LoadCh) : (s.setLoad i v).fronts = s.fronts := rfl
@[simp] theorem State.setLoad_cableOvr (s : State) (i : Nat) (v : LoadCh) : (s.setLoad i v).cableOvr = s.cableOvr := rfl
@[simp] theorem State.setLoad_trend (s : State) (i : Nat) (v : LoadCh) : (s.setLoad i v).trend = s.trend := rfl
@[simp] theorem State.setLoad_shv (s : State) (i : Nat) (v : LoadCh) : (s.setLoad i v).shv = s.shv := rfl
@[simp] theorem State.setLoad_masts (s : State) (i : Nat) (v : LoadCh) : (s.setLoad i v).masts = s.masts := rfl
@[simp] theorem State.setLoad_dryers (s : State) (i : Nat) (v : LoadCh) : (s.setLoad i v).dryers = s.dryers := rfl
@[simp] theorem State.setLoad_routes (s : State) (i : Nat) (v : LoadCh) : (s.setLoad i v).routes = s.routes := rfl
@[simp] theorem State.setLoad_io_dies (s : State) (i : Nat) (v : LoadCh) : (s.setLoad i v).io.dies = s.io.dies := rfl
@[simp] theorem State.setLoad_io_lockLand (s : State) (i : Nat) (v : LoadCh) : (s.setLoad i v).io.lockLand = s.io.lockLand := rfl
@[simp] theorem State.setLoad_io_lockRec (s : State) (i : Nat) (v : LoadCh) : (s.setLoad i v).io.lockRec = s.io.lockRec := rfl
@[simp] theorem State.setLoad_io_disagreeAt (s : State) (i : Nat) (v : LoadCh) : (s.setLoad i v).io.disagreeAt = s.io.disagreeAt := rfl
@[simp] theorem State.setLoad_io_disagreed (s : State) (i : Nat) (v : LoadCh) : (s.setLoad i v).io.disagreed = s.io.disagreed := rfl
@[simp] theorem State.setLoad_io_host (s : State) (i : Nat) (v : LoadCh) : (s.setLoad i v).io.host = s.io.host := rfl
@[simp] theorem State.setLoad_io_outs (s : State) (i : Nat) (v : LoadCh) : (s.setLoad i v).io.outs = s.io.outs := rfl
@[simp] theorem State.setLoad_io_fans (s : State) (i : Nat) (v : LoadCh) : (s.setLoad i v).io.fans = s.io.fans := rfl
@[simp] theorem State.setLoad_io_fanAt (s : State) (i : Nat) (v : LoadCh) : (s.setLoad i v).io.fanAt = s.io.fanAt := rfl
@[simp] theorem State.setLoad_io_wdLoad (s : State) (i : Nat) (v : LoadCh) : (s.setLoad i v).io.wdLoad = s.io.wdLoad := rfl
@[simp] theorem State.setLoad_io_wdAt (s : State) (i : Nat) (v : LoadCh) : (s.setLoad i v).io.wdAt = s.io.wdAt := rfl
@[simp] theorem State.setLoad_io_wdZero (s : State) (i : Nat) (v : LoadCh) : (s.setLoad i v).io.wdZero = s.io.wdZero := rfl
@[simp] theorem State.setLoad_io_banks (s : State) (i : Nat) (v : LoadCh) : (s.setLoad i v).io.banks = s.io.banks := rfl
@[simp] theorem State.setLoad_io_loadStart (s : State) (i : Nat) (v : LoadCh) : (s.setLoad i v).io.loadStart = s.io.loadStart := rfl
@[simp] theorem State.setLoad_io_fuseAt (s : State) (i : Nat) (v : LoadCh) : (s.setLoad i v).io.fuseAt = s.io.fuseAt := rfl
@[simp] theorem State.setLoad_io_modAt (s : State) (i : Nat) (v : LoadCh) : (s.setLoad i v).io.modAt = s.io.modAt := rfl
@[simp] theorem State.setLoad_io_modShedAt (s : State) (i : Nat) (v : LoadCh) : (s.setLoad i v).io.modShedAt = s.io.modShedAt := rfl
@[simp] theorem State.setLoad_io_dios (s : State) (i : Nat) (v : LoadCh) : (s.setLoad i v).io.dios = s.io.dios := rfl
@[simp] theorem State.setLoad_io_dgrps (s : State) (i : Nat) (v : LoadCh) : (s.setLoad i v).io.dgrps = s.io.dgrps := rfl
@[simp] theorem State.setLoad_io_onCount (s : State) (i : Nat) (v : LoadCh) : (s.setLoad i v).io.onCount = s.io.onCount := rfl
@[simp] theorem State.setLoad_io_aos (s : State) (i : Nat) (v : LoadCh) : (s.setLoad i v).io.aos = s.io.aos := rfl
@[simp] theorem State.setLoad_io_afe (s : State) (i : Nat) (v : LoadCh) : (s.setLoad i v).io.afe = s.io.afe := rfl
@[simp] theorem State.setLoad_io_convs (s : State) (i : Nat) (v : LoadCh) : (s.setLoad i v).io.convs = s.io.convs := rfl
@[simp] theorem State.setLoad_io_sws (s : State) (i : Nat) (v : LoadCh) : (s.setLoad i v).io.sws = s.io.sws := rfl
@[simp] theorem State.setLoad_load_other (s : State) (i : Nat) (v : LoadCh) (j : Nat) (hj : j ≠ i) : (s.setLoad i v).load j = s.load j := Tbl.rd_wr_other _ _ _ _ hj
theorem State.setLoad_load_same (s : State) (i : Nat) (v : LoadCh) (hw : Tbl.wf LoadCh.dflt s.io.loads = true) : (s.setLoad i v).load i = v := Tbl.rd_wr_same _ _ _ hw

/-! ### setBank -/
@[simp] theorem State.setBank_pending (s : State) (b : Nat) (v : LBank) : (s.setBank b v).pending = s.pending := rfl
@[simp] theorem State.setBank_free (s : State) (b : Nat) (v : LBank) : (s.setBank b v).free = s.free := rfl
@[simp] theorem State.setBank_wire (s : State) (b : Nat) (v : LBank) : (s.setBank b v).wire = s.wire := rfl
@[simp] theorem State.setBank_aon (s : State) (b : Nat) (v : LBank) : (s.setBank b v).aon = s.aon := rfl
@[simp] theorem State.setBank_pwr (s : State) (b : Nat) (v : LBank) : (s.setBank b v).pwr = s.pwr := rfl
@[simp] theorem State.setBank_start (s : State) (b : Nat) (v : LBank) : (s.setBank b v).start = s.start := rfl
@[simp] theorem State.setBank_net (s : State) (b : Nat) (v : LBank) : (s.setBank b v).net = s.net := rfl
@[simp] theorem State.setBank_spi (s : State) (b : Nat) (v : LBank) : (s.setBank b v).spi = s.spi := rfl
@[simp] theorem State.setBank_auth (s : State) (b : Nat) (v : LBank) : (s.setBank b v).auth = s.auth := rfl
@[simp] theorem State.setBank_sess (s : State) (b : Nat) (v : LBank) : (s.setBank b v).sess = s.sess := rfl
@[simp] theorem State.setBank_host (s : State) (b : Nat) (v : LBank) : (s.setBank b v).host = s.host := rfl
@[simp] theorem State.setBank_jrnl (s : State) (b : Nat) (v : LBank) : (s.setBank b v).jrnl = s.jrnl := rfl
@[simp] theorem State.setBank_own (s : State) (b : Nat) (v : LBank) : (s.setBank b v).own = s.own := rfl
@[simp] theorem State.setBank_fw (s : State) (b : Nat) (v : LBank) : (s.setBank b v).fw = s.fw := rfl
@[simp] theorem State.setBank_rig (s : State) (b : Nat) (v : LBank) : (s.setBank b v).rig = s.rig := rfl
@[simp] theorem State.setBank_tt (s : State) (b : Nat) (v : LBank) : (s.setBank b v).tt = s.tt := rfl
@[simp] theorem State.setBank_hal (s : State) (b : Nat) (v : LBank) : (s.setBank b v).hal = s.hal := rfl
@[simp] theorem State.setBank_scan (s : State) (b : Nat) (v : LBank) : (s.setBank b v).scan = s.scan := rfl
@[simp] theorem State.setBank_points (s : State) (b : Nat) (v : LBank) : (s.setBank b v).points = s.points := rfl
@[simp] theorem State.setBank_fronts (s : State) (b : Nat) (v : LBank) : (s.setBank b v).fronts = s.fronts := rfl
@[simp] theorem State.setBank_cableOvr (s : State) (b : Nat) (v : LBank) : (s.setBank b v).cableOvr = s.cableOvr := rfl
@[simp] theorem State.setBank_trend (s : State) (b : Nat) (v : LBank) : (s.setBank b v).trend = s.trend := rfl
@[simp] theorem State.setBank_shv (s : State) (b : Nat) (v : LBank) : (s.setBank b v).shv = s.shv := rfl
@[simp] theorem State.setBank_masts (s : State) (b : Nat) (v : LBank) : (s.setBank b v).masts = s.masts := rfl
@[simp] theorem State.setBank_dryers (s : State) (b : Nat) (v : LBank) : (s.setBank b v).dryers = s.dryers := rfl
@[simp] theorem State.setBank_routes (s : State) (b : Nat) (v : LBank) : (s.setBank b v).routes = s.routes := rfl
@[simp] theorem State.setBank_io_dies (s : State) (b : Nat) (v : LBank) : (s.setBank b v).io.dies = s.io.dies := rfl
@[simp] theorem State.setBank_io_lockLand (s : State) (b : Nat) (v : LBank) : (s.setBank b v).io.lockLand = s.io.lockLand := rfl
@[simp] theorem State.setBank_io_lockRec (s : State) (b : Nat) (v : LBank) : (s.setBank b v).io.lockRec = s.io.lockRec := rfl
@[simp] theorem State.setBank_io_disagreeAt (s : State) (b : Nat) (v : LBank) : (s.setBank b v).io.disagreeAt = s.io.disagreeAt := rfl
@[simp] theorem State.setBank_io_disagreed (s : State) (b : Nat) (v : LBank) : (s.setBank b v).io.disagreed = s.io.disagreed := rfl
@[simp] theorem State.setBank_io_host (s : State) (b : Nat) (v : LBank) : (s.setBank b v).io.host = s.io.host := rfl
@[simp] theorem State.setBank_io_outs (s : State) (b : Nat) (v : LBank) : (s.setBank b v).io.outs = s.io.outs := rfl
@[simp] theorem State.setBank_io_fans (s : State) (b : Nat) (v : LBank) : (s.setBank b v).io.fans = s.io.fans := rfl
@[simp] theorem State.setBank_io_fanAt (s : State) (b : Nat) (v : LBank) : (s.setBank b v).io.fanAt = s.io.fanAt := rfl
@[simp] theorem State.setBank_io_wdLoad (s : State) (b : Nat) (v : LBank) : (s.setBank b v).io.wdLoad = s.io.wdLoad := rfl
@[simp] theorem State.setBank_io_wdAt (s : State) (b : Nat) (v : LBank) : (s.setBank b v).io.wdAt = s.io.wdAt := rfl
@[simp] theorem State.setBank_io_wdZero (s : State) (b : Nat) (v : LBank) : (s.setBank b v).io.wdZero = s.io.wdZero := rfl
@[simp] theorem State.setBank_io_loads (s : State) (b : Nat) (v : LBank) : (s.setBank b v).io.loads = s.io.loads := rfl
@[simp] theorem State.setBank_io_loadStart (s : State) (b : Nat) (v : LBank) : (s.setBank b v).io.loadStart = s.io.loadStart := rfl
@[simp] theorem State.setBank_io_fuseAt (s : State) (b : Nat) (v : LBank) : (s.setBank b v).io.fuseAt = s.io.fuseAt := rfl
@[simp] theorem State.setBank_io_modAt (s : State) (b : Nat) (v : LBank) : (s.setBank b v).io.modAt = s.io.modAt := rfl
@[simp] theorem State.setBank_io_modShedAt (s : State) (b : Nat) (v : LBank) : (s.setBank b v).io.modShedAt = s.io.modShedAt := rfl
@[simp] theorem State.setBank_io_dios (s : State) (b : Nat) (v : LBank) : (s.setBank b v).io.dios = s.io.dios := rfl
@[simp] theorem State.setBank_io_dgrps (s : State) (b : Nat) (v : LBank) : (s.setBank b v).io.dgrps = s.io.dgrps := rfl
@[simp] theorem State.setBank_io_onCount (s : State) (b : Nat) (v : LBank) : (s.setBank b v).io.onCount = s.io.onCount := rfl
@[simp] theorem State.setBank_io_aos (s : State) (b : Nat) (v : LBank) : (s.setBank b v).io.aos = s.io.aos := rfl
@[simp] theorem State.setBank_io_afe (s : State) (b : Nat) (v : LBank) : (s.setBank b v).io.afe = s.io.afe := rfl
@[simp] theorem State.setBank_io_convs (s : State) (b : Nat) (v : LBank) : (s.setBank b v).io.convs = s.io.convs := rfl
@[simp] theorem State.setBank_io_sws (s : State) (b : Nat) (v : LBank) : (s.setBank b v).io.sws = s.io.sws := rfl
@[simp] theorem State.setBank_bank_other (s : State) (b : Nat) (v : LBank) (j : Nat) (hj : j ≠ b) : (s.setBank b v).bank j = s.bank j := Tbl.rd_wr_other _ _ _ _ hj
theorem State.setBank_bank_same (s : State) (b : Nat) (v : LBank) (hw : Tbl.wf LBank.dflt s.io.banks = true) : (s.setBank b v).bank b = v := Tbl.rd_wr_same _ _ _ hw

/-! ### setDio -/
@[simp] theorem State.setDio_pending (s : State) (i : Nat) (v : DioCh) : (s.setDio i v).pending = s.pending := rfl
@[simp] theorem State.setDio_free (s : State) (i : Nat) (v : DioCh) : (s.setDio i v).free = s.free := rfl
@[simp] theorem State.setDio_wire (s : State) (i : Nat) (v : DioCh) : (s.setDio i v).wire = s.wire := rfl
@[simp] theorem State.setDio_aon (s : State) (i : Nat) (v : DioCh) : (s.setDio i v).aon = s.aon := rfl
@[simp] theorem State.setDio_pwr (s : State) (i : Nat) (v : DioCh) : (s.setDio i v).pwr = s.pwr := rfl
@[simp] theorem State.setDio_start (s : State) (i : Nat) (v : DioCh) : (s.setDio i v).start = s.start := rfl
@[simp] theorem State.setDio_net (s : State) (i : Nat) (v : DioCh) : (s.setDio i v).net = s.net := rfl
@[simp] theorem State.setDio_spi (s : State) (i : Nat) (v : DioCh) : (s.setDio i v).spi = s.spi := rfl
@[simp] theorem State.setDio_auth (s : State) (i : Nat) (v : DioCh) : (s.setDio i v).auth = s.auth := rfl
@[simp] theorem State.setDio_sess (s : State) (i : Nat) (v : DioCh) : (s.setDio i v).sess = s.sess := rfl
@[simp] theorem State.setDio_host (s : State) (i : Nat) (v : DioCh) : (s.setDio i v).host = s.host := rfl
@[simp] theorem State.setDio_jrnl (s : State) (i : Nat) (v : DioCh) : (s.setDio i v).jrnl = s.jrnl := rfl
@[simp] theorem State.setDio_own (s : State) (i : Nat) (v : DioCh) : (s.setDio i v).own = s.own := rfl
@[simp] theorem State.setDio_fw (s : State) (i : Nat) (v : DioCh) : (s.setDio i v).fw = s.fw := rfl
@[simp] theorem State.setDio_rig (s : State) (i : Nat) (v : DioCh) : (s.setDio i v).rig = s.rig := rfl
@[simp] theorem State.setDio_tt (s : State) (i : Nat) (v : DioCh) : (s.setDio i v).tt = s.tt := rfl
@[simp] theorem State.setDio_hal (s : State) (i : Nat) (v : DioCh) : (s.setDio i v).hal = s.hal := rfl
@[simp] theorem State.setDio_scan (s : State) (i : Nat) (v : DioCh) : (s.setDio i v).scan = s.scan := rfl
@[simp] theorem State.setDio_points (s : State) (i : Nat) (v : DioCh) : (s.setDio i v).points = s.points := rfl
@[simp] theorem State.setDio_fronts (s : State) (i : Nat) (v : DioCh) : (s.setDio i v).fronts = s.fronts := rfl
@[simp] theorem State.setDio_cableOvr (s : State) (i : Nat) (v : DioCh) : (s.setDio i v).cableOvr = s.cableOvr := rfl
@[simp] theorem State.setDio_trend (s : State) (i : Nat) (v : DioCh) : (s.setDio i v).trend = s.trend := rfl
@[simp] theorem State.setDio_shv (s : State) (i : Nat) (v : DioCh) : (s.setDio i v).shv = s.shv := rfl
@[simp] theorem State.setDio_masts (s : State) (i : Nat) (v : DioCh) : (s.setDio i v).masts = s.masts := rfl
@[simp] theorem State.setDio_dryers (s : State) (i : Nat) (v : DioCh) : (s.setDio i v).dryers = s.dryers := rfl
@[simp] theorem State.setDio_routes (s : State) (i : Nat) (v : DioCh) : (s.setDio i v).routes = s.routes := rfl
@[simp] theorem State.setDio_io_dies (s : State) (i : Nat) (v : DioCh) : (s.setDio i v).io.dies = s.io.dies := rfl
@[simp] theorem State.setDio_io_lockLand (s : State) (i : Nat) (v : DioCh) : (s.setDio i v).io.lockLand = s.io.lockLand := rfl
@[simp] theorem State.setDio_io_lockRec (s : State) (i : Nat) (v : DioCh) : (s.setDio i v).io.lockRec = s.io.lockRec := rfl
@[simp] theorem State.setDio_io_disagreeAt (s : State) (i : Nat) (v : DioCh) : (s.setDio i v).io.disagreeAt = s.io.disagreeAt := rfl
@[simp] theorem State.setDio_io_disagreed (s : State) (i : Nat) (v : DioCh) : (s.setDio i v).io.disagreed = s.io.disagreed := rfl
@[simp] theorem State.setDio_io_host (s : State) (i : Nat) (v : DioCh) : (s.setDio i v).io.host = s.io.host := rfl
@[simp] theorem State.setDio_io_outs (s : State) (i : Nat) (v : DioCh) : (s.setDio i v).io.outs = s.io.outs := rfl
@[simp] theorem State.setDio_io_fans (s : State) (i : Nat) (v : DioCh) : (s.setDio i v).io.fans = s.io.fans := rfl
@[simp] theorem State.setDio_io_fanAt (s : State) (i : Nat) (v : DioCh) : (s.setDio i v).io.fanAt = s.io.fanAt := rfl
@[simp] theorem State.setDio_io_wdLoad (s : State) (i : Nat) (v : DioCh) : (s.setDio i v).io.wdLoad = s.io.wdLoad := rfl
@[simp] theorem State.setDio_io_wdAt (s : State) (i : Nat) (v : DioCh) : (s.setDio i v).io.wdAt = s.io.wdAt := rfl
@[simp] theorem State.setDio_io_wdZero (s : State) (i : Nat) (v : DioCh) : (s.setDio i v).io.wdZero = s.io.wdZero := rfl
@[simp] theorem State.setDio_io_loads (s : State) (i : Nat) (v : DioCh) : (s.setDio i v).io.loads = s.io.loads := rfl
@[simp] theorem State.setDio_io_banks (s : State) (i : Nat) (v : DioCh) : (s.setDio i v).io.banks = s.io.banks := rfl
@[simp] theorem State.setDio_io_loadStart (s : State) (i : Nat) (v : DioCh) : (s.setDio i v).io.loadStart = s.io.loadStart := rfl
@[simp] theorem State.setDio_io_fuseAt (s : State) (i : Nat) (v : DioCh) : (s.setDio i v).io.fuseAt = s.io.fuseAt := rfl
@[simp] theorem State.setDio_io_modAt (s : State) (i : Nat) (v : DioCh) : (s.setDio i v).io.modAt = s.io.modAt := rfl
@[simp] theorem State.setDio_io_modShedAt (s : State) (i : Nat) (v : DioCh) : (s.setDio i v).io.modShedAt = s.io.modShedAt := rfl
@[simp] theorem State.setDio_io_dgrps (s : State) (i : Nat) (v : DioCh) : (s.setDio i v).io.dgrps = s.io.dgrps := rfl
@[simp] theorem State.setDio_io_onCount (s : State) (i : Nat) (v : DioCh) : (s.setDio i v).io.onCount = s.io.onCount := rfl
@[simp] theorem State.setDio_io_aos (s : State) (i : Nat) (v : DioCh) : (s.setDio i v).io.aos = s.io.aos := rfl
@[simp] theorem State.setDio_io_afe (s : State) (i : Nat) (v : DioCh) : (s.setDio i v).io.afe = s.io.afe := rfl
@[simp] theorem State.setDio_io_convs (s : State) (i : Nat) (v : DioCh) : (s.setDio i v).io.convs = s.io.convs := rfl
@[simp] theorem State.setDio_io_sws (s : State) (i : Nat) (v : DioCh) : (s.setDio i v).io.sws = s.io.sws := rfl
@[simp] theorem State.setDio_dio_other (s : State) (i : Nat) (v : DioCh) (j : Nat) (hj : j ≠ i) : (s.setDio i v).dio j = s.dio j := Tbl.rd_wr_other _ _ _ _ hj
theorem State.setDio_dio_same (s : State) (i : Nat) (v : DioCh) (hw : Tbl.wf DioCh.dflt s.io.dios = true) : (s.setDio i v).dio i = v := Tbl.rd_wr_same _ _ _ hw

/-! ### setDgrp -/
@[simp] theorem State.setDgrp_pending (s : State) (g : Nat) (v : DioGrp) : (s.setDgrp g v).pending = s.pending := rfl
@[simp] theorem State.setDgrp_free (s : State) (g : Nat) (v : DioGrp) : (s.setDgrp g v).free = s.free := rfl
@[simp] theorem State.setDgrp_wire (s : State) (g : Nat) (v : DioGrp) : (s.setDgrp g v).wire = s.wire := rfl
@[simp] theorem State.setDgrp_aon (s : State) (g : Nat) (v : DioGrp) : (s.setDgrp g v).aon = s.aon := rfl
@[simp] theorem State.setDgrp_pwr (s : State) (g : Nat) (v : DioGrp) : (s.setDgrp g v).pwr = s.pwr := rfl
@[simp] theorem State.setDgrp_start (s : State) (g : Nat) (v : DioGrp) : (s.setDgrp g v).start = s.start := rfl
@[simp] theorem State.setDgrp_net (s : State) (g : Nat) (v : DioGrp) : (s.setDgrp g v).net = s.net := rfl
@[simp] theorem State.setDgrp_spi (s : State) (g : Nat) (v : DioGrp) : (s.setDgrp g v).spi = s.spi := rfl
@[simp] theorem State.setDgrp_auth (s : State) (g : Nat) (v : DioGrp) : (s.setDgrp g v).auth = s.auth := rfl
@[simp] theorem State.setDgrp_sess (s : State) (g : Nat) (v : DioGrp) : (s.setDgrp g v).sess = s.sess := rfl
@[simp] theorem State.setDgrp_host (s : State) (g : Nat) (v : DioGrp) : (s.setDgrp g v).host = s.host := rfl
@[simp] theorem State.setDgrp_jrnl (s : State) (g : Nat) (v : DioGrp) : (s.setDgrp g v).jrnl = s.jrnl := rfl
@[simp] theorem State.setDgrp_own (s : State) (g : Nat) (v : DioGrp) : (s.setDgrp g v).own = s.own := rfl
@[simp] theorem State.setDgrp_fw (s : State) (g : Nat) (v : DioGrp) : (s.setDgrp g v).fw = s.fw := rfl
@[simp] theorem State.setDgrp_rig (s : State) (g : Nat) (v : DioGrp) : (s.setDgrp g v).rig = s.rig := rfl
@[simp] theorem State.setDgrp_tt (s : State) (g : Nat) (v : DioGrp) : (s.setDgrp g v).tt = s.tt := rfl
@[simp] theorem State.setDgrp_hal (s : State) (g : Nat) (v : DioGrp) : (s.setDgrp g v).hal = s.hal := rfl
@[simp] theorem State.setDgrp_scan (s : State) (g : Nat) (v : DioGrp) : (s.setDgrp g v).scan = s.scan := rfl
@[simp] theorem State.setDgrp_points (s : State) (g : Nat) (v : DioGrp) : (s.setDgrp g v).points = s.points := rfl
@[simp] theorem State.setDgrp_fronts (s : State) (g : Nat) (v : DioGrp) : (s.setDgrp g v).fronts = s.fronts := rfl
@[simp] theorem State.setDgrp_cableOvr (s : State) (g : Nat) (v : DioGrp) : (s.setDgrp g v).cableOvr = s.cableOvr := rfl
@[simp] theorem State.setDgrp_trend (s : State) (g : Nat) (v : DioGrp) : (s.setDgrp g v).trend = s.trend := rfl
@[simp] theorem State.setDgrp_shv (s : State) (g : Nat) (v : DioGrp) : (s.setDgrp g v).shv = s.shv := rfl
@[simp] theorem State.setDgrp_masts (s : State) (g : Nat) (v : DioGrp) : (s.setDgrp g v).masts = s.masts := rfl
@[simp] theorem State.setDgrp_dryers (s : State) (g : Nat) (v : DioGrp) : (s.setDgrp g v).dryers = s.dryers := rfl
@[simp] theorem State.setDgrp_routes (s : State) (g : Nat) (v : DioGrp) : (s.setDgrp g v).routes = s.routes := rfl
@[simp] theorem State.setDgrp_io_dies (s : State) (g : Nat) (v : DioGrp) : (s.setDgrp g v).io.dies = s.io.dies := rfl
@[simp] theorem State.setDgrp_io_lockLand (s : State) (g : Nat) (v : DioGrp) : (s.setDgrp g v).io.lockLand = s.io.lockLand := rfl
@[simp] theorem State.setDgrp_io_lockRec (s : State) (g : Nat) (v : DioGrp) : (s.setDgrp g v).io.lockRec = s.io.lockRec := rfl
@[simp] theorem State.setDgrp_io_disagreeAt (s : State) (g : Nat) (v : DioGrp) : (s.setDgrp g v).io.disagreeAt = s.io.disagreeAt := rfl
@[simp] theorem State.setDgrp_io_disagreed (s : State) (g : Nat) (v : DioGrp) : (s.setDgrp g v).io.disagreed = s.io.disagreed := rfl
@[simp] theorem State.setDgrp_io_host (s : State) (g : Nat) (v : DioGrp) : (s.setDgrp g v).io.host = s.io.host := rfl
@[simp] theorem State.setDgrp_io_outs (s : State) (g : Nat) (v : DioGrp) : (s.setDgrp g v).io.outs = s.io.outs := rfl
@[simp] theorem State.setDgrp_io_fans (s : State) (g : Nat) (v : DioGrp) : (s.setDgrp g v).io.fans = s.io.fans := rfl
@[simp] theorem State.setDgrp_io_fanAt (s : State) (g : Nat) (v : DioGrp) : (s.setDgrp g v).io.fanAt = s.io.fanAt := rfl
@[simp] theorem State.setDgrp_io_wdLoad (s : State) (g : Nat) (v : DioGrp) : (s.setDgrp g v).io.wdLoad = s.io.wdLoad := rfl
@[simp] theorem State.setDgrp_io_wdAt (s : State) (g : Nat) (v : DioGrp) : (s.setDgrp g v).io.wdAt = s.io.wdAt := rfl
@[simp] theorem State.setDgrp_io_wdZero (s : State) (g : Nat) (v : DioGrp) : (s.setDgrp g v).io.wdZero = s.io.wdZero := rfl
@[simp] theorem State.setDgrp_io_loads (s : State) (g : Nat) (v : DioGrp) : (s.setDgrp g v).io.loads = s.io.loads := rfl
@[simp] theorem State.setDgrp_io_banks (s : State) (g : Nat) (v : DioGrp) : (s.setDgrp g v).io.banks = s.io.banks := rfl
@[simp] theorem State.setDgrp_io_loadStart (s : State) (g : Nat) (v : DioGrp) : (s.setDgrp g v).io.loadStart = s.io.loadStart := rfl
@[simp] theorem State.setDgrp_io_fuseAt (s : State) (g : Nat) (v : DioGrp) : (s.setDgrp g v).io.fuseAt = s.io.fuseAt := rfl
@[simp] theorem State.setDgrp_io_modAt (s : State) (g : Nat) (v : DioGrp) : (s.setDgrp g v).io.modAt = s.io.modAt := rfl
@[simp] theorem State.setDgrp_io_modShedAt (s : State) (g : Nat) (v : DioGrp) : (s.setDgrp g v).io.modShedAt = s.io.modShedAt := rfl
@[simp] theorem State.setDgrp_io_dios (s : State) (g : Nat) (v : DioGrp) : (s.setDgrp g v).io.dios = s.io.dios := rfl
@[simp] theorem State.setDgrp_io_onCount (s : State) (g : Nat) (v : DioGrp) : (s.setDgrp g v).io.onCount = s.io.onCount := rfl
@[simp] theorem State.setDgrp_io_aos (s : State) (g : Nat) (v : DioGrp) : (s.setDgrp g v).io.aos = s.io.aos := rfl
@[simp] theorem State.setDgrp_io_afe (s : State) (g : Nat) (v : DioGrp) : (s.setDgrp g v).io.afe = s.io.afe := rfl
@[simp] theorem State.setDgrp_io_convs (s : State) (g : Nat) (v : DioGrp) : (s.setDgrp g v).io.convs = s.io.convs := rfl
@[simp] theorem State.setDgrp_io_sws (s : State) (g : Nat) (v : DioGrp) : (s.setDgrp g v).io.sws = s.io.sws := rfl
@[simp] theorem State.setDgrp_dgrp_other (s : State) (g : Nat) (v : DioGrp) (j : Nat) (hj : j ≠ g) : (s.setDgrp g v).dgrp j = s.dgrp j := Tbl.rd_wr_other _ _ _ _ hj
theorem State.setDgrp_dgrp_same (s : State) (g : Nat) (v : DioGrp) (hw : Tbl.wf DioGrp.dflt s.io.dgrps = true) : (s.setDgrp g v).dgrp g = v := Tbl.rd_wr_same _ _ _ hw

/-! ### setAo -/
@[simp] theorem State.setAo_pending (s : State) (i : Nat) (v : AoCh) : (s.setAo i v).pending = s.pending := rfl
@[simp] theorem State.setAo_free (s : State) (i : Nat) (v : AoCh) : (s.setAo i v).free = s.free := rfl
@[simp] theorem State.setAo_wire (s : State) (i : Nat) (v : AoCh) : (s.setAo i v).wire = s.wire := rfl
@[simp] theorem State.setAo_aon (s : State) (i : Nat) (v : AoCh) : (s.setAo i v).aon = s.aon := rfl
@[simp] theorem State.setAo_pwr (s : State) (i : Nat) (v : AoCh) : (s.setAo i v).pwr = s.pwr := rfl
@[simp] theorem State.setAo_start (s : State) (i : Nat) (v : AoCh) : (s.setAo i v).start = s.start := rfl
@[simp] theorem State.setAo_net (s : State) (i : Nat) (v : AoCh) : (s.setAo i v).net = s.net := rfl
@[simp] theorem State.setAo_spi (s : State) (i : Nat) (v : AoCh) : (s.setAo i v).spi = s.spi := rfl
@[simp] theorem State.setAo_auth (s : State) (i : Nat) (v : AoCh) : (s.setAo i v).auth = s.auth := rfl
@[simp] theorem State.setAo_sess (s : State) (i : Nat) (v : AoCh) : (s.setAo i v).sess = s.sess := rfl
@[simp] theorem State.setAo_host (s : State) (i : Nat) (v : AoCh) : (s.setAo i v).host = s.host := rfl
@[simp] theorem State.setAo_jrnl (s : State) (i : Nat) (v : AoCh) : (s.setAo i v).jrnl = s.jrnl := rfl
@[simp] theorem State.setAo_own (s : State) (i : Nat) (v : AoCh) : (s.setAo i v).own = s.own := rfl
@[simp] theorem State.setAo_fw (s : State) (i : Nat) (v : AoCh) : (s.setAo i v).fw = s.fw := rfl
@[simp] theorem State.setAo_rig (s : State) (i : Nat) (v : AoCh) : (s.setAo i v).rig = s.rig := rfl
@[simp] theorem State.setAo_tt (s : State) (i : Nat) (v : AoCh) : (s.setAo i v).tt = s.tt := rfl
@[simp] theorem State.setAo_hal (s : State) (i : Nat) (v : AoCh) : (s.setAo i v).hal = s.hal := rfl
@[simp] theorem State.setAo_scan (s : State) (i : Nat) (v : AoCh) : (s.setAo i v).scan = s.scan := rfl
@[simp] theorem State.setAo_points (s : State) (i : Nat) (v : AoCh) : (s.setAo i v).points = s.points := rfl
@[simp] theorem State.setAo_fronts (s : State) (i : Nat) (v : AoCh) : (s.setAo i v).fronts = s.fronts := rfl
@[simp] theorem State.setAo_cableOvr (s : State) (i : Nat) (v : AoCh) : (s.setAo i v).cableOvr = s.cableOvr := rfl
@[simp] theorem State.setAo_trend (s : State) (i : Nat) (v : AoCh) : (s.setAo i v).trend = s.trend := rfl
@[simp] theorem State.setAo_shv (s : State) (i : Nat) (v : AoCh) : (s.setAo i v).shv = s.shv := rfl
@[simp] theorem State.setAo_masts (s : State) (i : Nat) (v : AoCh) : (s.setAo i v).masts = s.masts := rfl
@[simp] theorem State.setAo_dryers (s : State) (i : Nat) (v : AoCh) : (s.setAo i v).dryers = s.dryers := rfl
@[simp] theorem State.setAo_routes (s : State) (i : Nat) (v : AoCh) : (s.setAo i v).routes = s.routes := rfl
@[simp] theorem State.setAo_io_dies (s : State) (i : Nat) (v : AoCh) : (s.setAo i v).io.dies = s.io.dies := rfl
@[simp] theorem State.setAo_io_lockLand (s : State) (i : Nat) (v : AoCh) : (s.setAo i v).io.lockLand = s.io.lockLand := rfl
@[simp] theorem State.setAo_io_lockRec (s : State) (i : Nat) (v : AoCh) : (s.setAo i v).io.lockRec = s.io.lockRec := rfl
@[simp] theorem State.setAo_io_disagreeAt (s : State) (i : Nat) (v : AoCh) : (s.setAo i v).io.disagreeAt = s.io.disagreeAt := rfl
@[simp] theorem State.setAo_io_disagreed (s : State) (i : Nat) (v : AoCh) : (s.setAo i v).io.disagreed = s.io.disagreed := rfl
@[simp] theorem State.setAo_io_host (s : State) (i : Nat) (v : AoCh) : (s.setAo i v).io.host = s.io.host := rfl
@[simp] theorem State.setAo_io_outs (s : State) (i : Nat) (v : AoCh) : (s.setAo i v).io.outs = s.io.outs := rfl
@[simp] theorem State.setAo_io_fans (s : State) (i : Nat) (v : AoCh) : (s.setAo i v).io.fans = s.io.fans := rfl
@[simp] theorem State.setAo_io_fanAt (s : State) (i : Nat) (v : AoCh) : (s.setAo i v).io.fanAt = s.io.fanAt := rfl
@[simp] theorem State.setAo_io_wdLoad (s : State) (i : Nat) (v : AoCh) : (s.setAo i v).io.wdLoad = s.io.wdLoad := rfl
@[simp] theorem State.setAo_io_wdAt (s : State) (i : Nat) (v : AoCh) : (s.setAo i v).io.wdAt = s.io.wdAt := rfl
@[simp] theorem State.setAo_io_wdZero (s : State) (i : Nat) (v : AoCh) : (s.setAo i v).io.wdZero = s.io.wdZero := rfl
@[simp] theorem State.setAo_io_loads (s : State) (i : Nat) (v : AoCh) : (s.setAo i v).io.loads = s.io.loads := rfl
@[simp] theorem State.setAo_io_banks (s : State) (i : Nat) (v : AoCh) : (s.setAo i v).io.banks = s.io.banks := rfl
@[simp] theorem State.setAo_io_loadStart (s : State) (i : Nat) (v : AoCh) : (s.setAo i v).io.loadStart = s.io.loadStart := rfl
@[simp] theorem State.setAo_io_fuseAt (s : State) (i : Nat) (v : AoCh) : (s.setAo i v).io.fuseAt = s.io.fuseAt := rfl
@[simp] theorem State.setAo_io_modAt (s : State) (i : Nat) (v : AoCh) : (s.setAo i v).io.modAt = s.io.modAt := rfl
@[simp] theorem State.setAo_io_modShedAt (s : State) (i : Nat) (v : AoCh) : (s.setAo i v).io.modShedAt = s.io.modShedAt := rfl
@[simp] theorem State.setAo_io_dios (s : State) (i : Nat) (v : AoCh) : (s.setAo i v).io.dios = s.io.dios := rfl
@[simp] theorem State.setAo_io_dgrps (s : State) (i : Nat) (v : AoCh) : (s.setAo i v).io.dgrps = s.io.dgrps := rfl
@[simp] theorem State.setAo_io_onCount (s : State) (i : Nat) (v : AoCh) : (s.setAo i v).io.onCount = s.io.onCount := rfl
@[simp] theorem State.setAo_io_afe (s : State) (i : Nat) (v : AoCh) : (s.setAo i v).io.afe = s.io.afe := rfl
@[simp] theorem State.setAo_io_convs (s : State) (i : Nat) (v : AoCh) : (s.setAo i v).io.convs = s.io.convs := rfl
@[simp] theorem State.setAo_io_sws (s : State) (i : Nat) (v : AoCh) : (s.setAo i v).io.sws = s.io.sws := rfl
@[simp] theorem State.setAo_ao_other (s : State) (i : Nat) (v : AoCh) (j : Nat) (hj : j ≠ i) : (s.setAo i v).ao j = s.ao j := Tbl.rd_wr_other _ _ _ _ hj
theorem State.setAo_ao_same (s : State) (i : Nat) (v : AoCh) (hw : Tbl.wf AoCh.dflt s.io.aos = true) : (s.setAo i v).ao i = v := Tbl.rd_wr_same _ _ _ hw

/-! ### setAfe -/
@[simp] theorem State.setAfe_pending (s : State) (r : Nat) (v : AfeCh) : (s.setAfe r v).pending = s.pending := rfl
@[simp] theorem State.setAfe_free (s : State) (r : Nat) (v : AfeCh) : (s.setAfe r v).free = s.free := rfl
@[simp] theorem State.setAfe_wire (s : State) (r : Nat) (v : AfeCh) : (s.setAfe r v).wire = s.wire := rfl
@[simp] theorem State.setAfe_aon (s : State) (r : Nat) (v : AfeCh) : (s.setAfe r v).aon = s.aon := rfl
@[simp] theorem State.setAfe_pwr (s : State) (r : Nat) (v : AfeCh) : (s.setAfe r v).pwr = s.pwr := rfl
@[simp] theorem State.setAfe_start (s : State) (r : Nat) (v : AfeCh) : (s.setAfe r v).start = s.start := rfl
@[simp] theorem State.setAfe_net (s : State) (r : Nat) (v : AfeCh) : (s.setAfe r v).net = s.net := rfl
@[simp] theorem State.setAfe_spi (s : State) (r : Nat) (v : AfeCh) : (s.setAfe r v).spi = s.spi := rfl
@[simp] theorem State.setAfe_auth (s : State) (r : Nat) (v : AfeCh) : (s.setAfe r v).auth = s.auth := rfl
@[simp] theorem State.setAfe_sess (s : State) (r : Nat) (v : AfeCh) : (s.setAfe r v).sess = s.sess := rfl
@[simp] theorem State.setAfe_host (s : State) (r : Nat) (v : AfeCh) : (s.setAfe r v).host = s.host := rfl
@[simp] theorem State.setAfe_jrnl (s : State) (r : Nat) (v : AfeCh) : (s.setAfe r v).jrnl = s.jrnl := rfl
@[simp] theorem State.setAfe_own (s : State) (r : Nat) (v : AfeCh) : (s.setAfe r v).own = s.own := rfl
@[simp] theorem State.setAfe_fw (s : State) (r : Nat) (v : AfeCh) : (s.setAfe r v).fw = s.fw := rfl
@[simp] theorem State.setAfe_rig (s : State) (r : Nat) (v : AfeCh) : (s.setAfe r v).rig = s.rig := rfl
@[simp] theorem State.setAfe_tt (s : State) (r : Nat) (v : AfeCh) : (s.setAfe r v).tt = s.tt := rfl
@[simp] theorem State.setAfe_hal (s : State) (r : Nat) (v : AfeCh) : (s.setAfe r v).hal = s.hal := rfl
@[simp] theorem State.setAfe_scan (s : State) (r : Nat) (v : AfeCh) : (s.setAfe r v).scan = s.scan := rfl
@[simp] theorem State.setAfe_points (s : State) (r : Nat) (v : AfeCh) : (s.setAfe r v).points = s.points := rfl
@[simp] theorem State.setAfe_fronts (s : State) (r : Nat) (v : AfeCh) : (s.setAfe r v).fronts = s.fronts := rfl
@[simp] theorem State.setAfe_cableOvr (s : State) (r : Nat) (v : AfeCh) : (s.setAfe r v).cableOvr = s.cableOvr := rfl
@[simp] theorem State.setAfe_trend (s : State) (r : Nat) (v : AfeCh) : (s.setAfe r v).trend = s.trend := rfl
@[simp] theorem State.setAfe_shv (s : State) (r : Nat) (v : AfeCh) : (s.setAfe r v).shv = s.shv := rfl
@[simp] theorem State.setAfe_masts (s : State) (r : Nat) (v : AfeCh) : (s.setAfe r v).masts = s.masts := rfl
@[simp] theorem State.setAfe_dryers (s : State) (r : Nat) (v : AfeCh) : (s.setAfe r v).dryers = s.dryers := rfl
@[simp] theorem State.setAfe_routes (s : State) (r : Nat) (v : AfeCh) : (s.setAfe r v).routes = s.routes := rfl
@[simp] theorem State.setAfe_io_dies (s : State) (r : Nat) (v : AfeCh) : (s.setAfe r v).io.dies = s.io.dies := rfl
@[simp] theorem State.setAfe_io_lockLand (s : State) (r : Nat) (v : AfeCh) : (s.setAfe r v).io.lockLand = s.io.lockLand := rfl
@[simp] theorem State.setAfe_io_lockRec (s : State) (r : Nat) (v : AfeCh) : (s.setAfe r v).io.lockRec = s.io.lockRec := rfl
@[simp] theorem State.setAfe_io_disagreeAt (s : State) (r : Nat) (v : AfeCh) : (s.setAfe r v).io.disagreeAt = s.io.disagreeAt := rfl
@[simp] theorem State.setAfe_io_disagreed (s : State) (r : Nat) (v : AfeCh) : (s.setAfe r v).io.disagreed = s.io.disagreed := rfl
@[simp] theorem State.setAfe_io_host (s : State) (r : Nat) (v : AfeCh) : (s.setAfe r v).io.host = s.io.host := rfl
@[simp] theorem State.setAfe_io_outs (s : State) (r : Nat) (v : AfeCh) : (s.setAfe r v).io.outs = s.io.outs := rfl
@[simp] theorem State.setAfe_io_fans (s : State) (r : Nat) (v : AfeCh) : (s.setAfe r v).io.fans = s.io.fans := rfl
@[simp] theorem State.setAfe_io_fanAt (s : State) (r : Nat) (v : AfeCh) : (s.setAfe r v).io.fanAt = s.io.fanAt := rfl
@[simp] theorem State.setAfe_io_wdLoad (s : State) (r : Nat) (v : AfeCh) : (s.setAfe r v).io.wdLoad = s.io.wdLoad := rfl
@[simp] theorem State.setAfe_io_wdAt (s : State) (r : Nat) (v : AfeCh) : (s.setAfe r v).io.wdAt = s.io.wdAt := rfl
@[simp] theorem State.setAfe_io_wdZero (s : State) (r : Nat) (v : AfeCh) : (s.setAfe r v).io.wdZero = s.io.wdZero := rfl
@[simp] theorem State.setAfe_io_loads (s : State) (r : Nat) (v : AfeCh) : (s.setAfe r v).io.loads = s.io.loads := rfl
@[simp] theorem State.setAfe_io_banks (s : State) (r : Nat) (v : AfeCh) : (s.setAfe r v).io.banks = s.io.banks := rfl
@[simp] theorem State.setAfe_io_loadStart (s : State) (r : Nat) (v : AfeCh) : (s.setAfe r v).io.loadStart = s.io.loadStart := rfl
@[simp] theorem State.setAfe_io_fuseAt (s : State) (r : Nat) (v : AfeCh) : (s.setAfe r v).io.fuseAt = s.io.fuseAt := rfl
@[simp] theorem State.setAfe_io_modAt (s : State) (r : Nat) (v : AfeCh) : (s.setAfe r v).io.modAt = s.io.modAt := rfl
@[simp] theorem State.setAfe_io_modShedAt (s : State) (r : Nat) (v : AfeCh) : (s.setAfe r v).io.modShedAt = s.io.modShedAt := rfl
@[simp] theorem State.setAfe_io_dios (s : State) (r : Nat) (v : AfeCh) : (s.setAfe r v).io.dios = s.io.dios := rfl
@[simp] theorem State.setAfe_io_dgrps (s : State) (r : Nat) (v : AfeCh) : (s.setAfe r v).io.dgrps = s.io.dgrps := rfl
@[simp] theorem State.setAfe_io_onCount (s : State) (r : Nat) (v : AfeCh) : (s.setAfe r v).io.onCount = s.io.onCount := rfl
@[simp] theorem State.setAfe_io_aos (s : State) (r : Nat) (v : AfeCh) : (s.setAfe r v).io.aos = s.io.aos := rfl
@[simp] theorem State.setAfe_io_convs (s : State) (r : Nat) (v : AfeCh) : (s.setAfe r v).io.convs = s.io.convs := rfl
@[simp] theorem State.setAfe_io_sws (s : State) (r : Nat) (v : AfeCh) : (s.setAfe r v).io.sws = s.io.sws := rfl
@[simp] theorem State.setAfe_afe_other (s : State) (r : Nat) (v : AfeCh) (j : Nat) (hj : j ≠ r) : (s.setAfe r v).afe j = s.afe j := Tbl.rd_wr_other _ _ _ _ hj
theorem State.setAfe_afe_same (s : State) (r : Nat) (v : AfeCh) (hw : Tbl.wf AfeCh.dflt s.io.afe = true) : (s.setAfe r v).afe r = v := Tbl.rd_wr_same _ _ _ hw

/-! ### setConv -/
@[simp] theorem State.setConv_pending (s : State) (c : Nat) (v : Conv) : (s.setConv c v).pending = s.pending := rfl
@[simp] theorem State.setConv_free (s : State) (c : Nat) (v : Conv) : (s.setConv c v).free = s.free := rfl
@[simp] theorem State.setConv_wire (s : State) (c : Nat) (v : Conv) : (s.setConv c v).wire = s.wire := rfl
@[simp] theorem State.setConv_aon (s : State) (c : Nat) (v : Conv) : (s.setConv c v).aon = s.aon := rfl
@[simp] theorem State.setConv_pwr (s : State) (c : Nat) (v : Conv) : (s.setConv c v).pwr = s.pwr := rfl
@[simp] theorem State.setConv_start (s : State) (c : Nat) (v : Conv) : (s.setConv c v).start = s.start := rfl
@[simp] theorem State.setConv_net (s : State) (c : Nat) (v : Conv) : (s.setConv c v).net = s.net := rfl
@[simp] theorem State.setConv_spi (s : State) (c : Nat) (v : Conv) : (s.setConv c v).spi = s.spi := rfl
@[simp] theorem State.setConv_auth (s : State) (c : Nat) (v : Conv) : (s.setConv c v).auth = s.auth := rfl
@[simp] theorem State.setConv_sess (s : State) (c : Nat) (v : Conv) : (s.setConv c v).sess = s.sess := rfl
@[simp] theorem State.setConv_host (s : State) (c : Nat) (v : Conv) : (s.setConv c v).host = s.host := rfl
@[simp] theorem State.setConv_jrnl (s : State) (c : Nat) (v : Conv) : (s.setConv c v).jrnl = s.jrnl := rfl
@[simp] theorem State.setConv_own (s : State) (c : Nat) (v : Conv) : (s.setConv c v).own = s.own := rfl
@[simp] theorem State.setConv_fw (s : State) (c : Nat) (v : Conv) : (s.setConv c v).fw = s.fw := rfl
@[simp] theorem State.setConv_rig (s : State) (c : Nat) (v : Conv) : (s.setConv c v).rig = s.rig := rfl
@[simp] theorem State.setConv_tt (s : State) (c : Nat) (v : Conv) : (s.setConv c v).tt = s.tt := rfl
@[simp] theorem State.setConv_hal (s : State) (c : Nat) (v : Conv) : (s.setConv c v).hal = s.hal := rfl
@[simp] theorem State.setConv_scan (s : State) (c : Nat) (v : Conv) : (s.setConv c v).scan = s.scan := rfl
@[simp] theorem State.setConv_points (s : State) (c : Nat) (v : Conv) : (s.setConv c v).points = s.points := rfl
@[simp] theorem State.setConv_fronts (s : State) (c : Nat) (v : Conv) : (s.setConv c v).fronts = s.fronts := rfl
@[simp] theorem State.setConv_cableOvr (s : State) (c : Nat) (v : Conv) : (s.setConv c v).cableOvr = s.cableOvr := rfl
@[simp] theorem State.setConv_trend (s : State) (c : Nat) (v : Conv) : (s.setConv c v).trend = s.trend := rfl
@[simp] theorem State.setConv_shv (s : State) (c : Nat) (v : Conv) : (s.setConv c v).shv = s.shv := rfl
@[simp] theorem State.setConv_masts (s : State) (c : Nat) (v : Conv) : (s.setConv c v).masts = s.masts := rfl
@[simp] theorem State.setConv_dryers (s : State) (c : Nat) (v : Conv) : (s.setConv c v).dryers = s.dryers := rfl
@[simp] theorem State.setConv_routes (s : State) (c : Nat) (v : Conv) : (s.setConv c v).routes = s.routes := rfl
@[simp] theorem State.setConv_io_dies (s : State) (c : Nat) (v : Conv) : (s.setConv c v).io.dies = s.io.dies := rfl
@[simp] theorem State.setConv_io_lockLand (s : State) (c : Nat) (v : Conv) : (s.setConv c v).io.lockLand = s.io.lockLand := rfl
@[simp] theorem State.setConv_io_lockRec (s : State) (c : Nat) (v : Conv) : (s.setConv c v).io.lockRec = s.io.lockRec := rfl
@[simp] theorem State.setConv_io_disagreeAt (s : State) (c : Nat) (v : Conv) : (s.setConv c v).io.disagreeAt = s.io.disagreeAt := rfl
@[simp] theorem State.setConv_io_disagreed (s : State) (c : Nat) (v : Conv) : (s.setConv c v).io.disagreed = s.io.disagreed := rfl
@[simp] theorem State.setConv_io_host (s : State) (c : Nat) (v : Conv) : (s.setConv c v).io.host = s.io.host := rfl
@[simp] theorem State.setConv_io_outs (s : State) (c : Nat) (v : Conv) : (s.setConv c v).io.outs = s.io.outs := rfl
@[simp] theorem State.setConv_io_fans (s : State) (c : Nat) (v : Conv) : (s.setConv c v).io.fans = s.io.fans := rfl
@[simp] theorem State.setConv_io_fanAt (s : State) (c : Nat) (v : Conv) : (s.setConv c v).io.fanAt = s.io.fanAt := rfl
@[simp] theorem State.setConv_io_wdLoad (s : State) (c : Nat) (v : Conv) : (s.setConv c v).io.wdLoad = s.io.wdLoad := rfl
@[simp] theorem State.setConv_io_wdAt (s : State) (c : Nat) (v : Conv) : (s.setConv c v).io.wdAt = s.io.wdAt := rfl
@[simp] theorem State.setConv_io_wdZero (s : State) (c : Nat) (v : Conv) : (s.setConv c v).io.wdZero = s.io.wdZero := rfl
@[simp] theorem State.setConv_io_loads (s : State) (c : Nat) (v : Conv) : (s.setConv c v).io.loads = s.io.loads := rfl
@[simp] theorem State.setConv_io_banks (s : State) (c : Nat) (v : Conv) : (s.setConv c v).io.banks = s.io.banks := rfl
@[simp] theorem State.setConv_io_loadStart (s : State) (c : Nat) (v : Conv) : (s.setConv c v).io.loadStart = s.io.loadStart := rfl
@[simp] theorem State.setConv_io_fuseAt (s : State) (c : Nat) (v : Conv) : (s.setConv c v).io.fuseAt = s.io.fuseAt := rfl
@[simp] theorem State.setConv_io_modAt (s : State) (c : Nat) (v : Conv) : (s.setConv c v).io.modAt = s.io.modAt := rfl
@[simp] theorem State.setConv_io_modShedAt (s : State) (c : Nat) (v : Conv) : (s.setConv c v).io.modShedAt = s.io.modShedAt := rfl
@[simp] theorem State.setConv_io_dios (s : State) (c : Nat) (v : Conv) : (s.setConv c v).io.dios = s.io.dios := rfl
@[simp] theorem State.setConv_io_dgrps (s : State) (c : Nat) (v : Conv) : (s.setConv c v).io.dgrps = s.io.dgrps := rfl
@[simp] theorem State.setConv_io_onCount (s : State) (c : Nat) (v : Conv) : (s.setConv c v).io.onCount = s.io.onCount := rfl
@[simp] theorem State.setConv_io_aos (s : State) (c : Nat) (v : Conv) : (s.setConv c v).io.aos = s.io.aos := rfl
@[simp] theorem State.setConv_io_afe (s : State) (c : Nat) (v : Conv) : (s.setConv c v).io.afe = s.io.afe := rfl
@[simp] theorem State.setConv_io_sws (s : State) (c : Nat) (v : Conv) : (s.setConv c v).io.sws = s.io.sws := rfl
@[simp] theorem State.setConv_conv_other (s : State) (c : Nat) (v : Conv) (j : Nat) (hj : j ≠ c) : (s.setConv c v).conv j = s.conv j := Tbl.rd_wr_other _ _ _ _ hj
theorem State.setConv_conv_same (s : State) (c : Nat) (v : Conv) (hw : Tbl.wf Conv.dflt s.io.convs = true) : (s.setConv c v).conv c = v := Tbl.rd_wr_same _ _ _ hw

/-! ### setSw -/
@[simp] theorem State.setSw_pending (s : State) (n : Nat) (v : ThSw) : (s.setSw n v).pending = s.pending := rfl
@[simp] theorem State.setSw_free (s : State) (n : Nat) (v : ThSw) : (s.setSw n v).free = s.free := rfl
@[simp] theorem State.setSw_wire (s : State) (n : Nat) (v : ThSw) : (s.setSw n v).wire = s.wire := rfl
@[simp] theorem State.setSw_aon (s : State) (n : Nat) (v : ThSw) : (s.setSw n v).aon = s.aon := rfl
@[simp] theorem State.setSw_pwr (s : State) (n : Nat) (v : ThSw) : (s.setSw n v).pwr = s.pwr := rfl
@[simp] theorem State.setSw_start (s : State) (n : Nat) (v : ThSw) : (s.setSw n v).start = s.start := rfl
@[simp] theorem State.setSw_net (s : State) (n : Nat) (v : ThSw) : (s.setSw n v).net = s.net := rfl
@[simp] theorem State.setSw_spi (s : State) (n : Nat) (v : ThSw) : (s.setSw n v).spi = s.spi := rfl
@[simp] theorem State.setSw_auth (s : State) (n : Nat) (v : ThSw) : (s.setSw n v).auth = s.auth := rfl
@[simp] theorem State.setSw_sess (s : State) (n : Nat) (v : ThSw) : (s.setSw n v).sess = s.sess := rfl
@[simp] theorem State.setSw_host (s : State) (n : Nat) (v : ThSw) : (s.setSw n v).host = s.host := rfl
@[simp] theorem State.setSw_jrnl (s : State) (n : Nat) (v : ThSw) : (s.setSw n v).jrnl = s.jrnl := rfl
@[simp] theorem State.setSw_own (s : State) (n : Nat) (v : ThSw) : (s.setSw n v).own = s.own := rfl
@[simp] theorem State.setSw_fw (s : State) (n : Nat) (v : ThSw) : (s.setSw n v).fw = s.fw := rfl
@[simp] theorem State.setSw_rig (s : State) (n : Nat) (v : ThSw) : (s.setSw n v).rig = s.rig := rfl
@[simp] theorem State.setSw_tt (s : State) (n : Nat) (v : ThSw) : (s.setSw n v).tt = s.tt := rfl
@[simp] theorem State.setSw_hal (s : State) (n : Nat) (v : ThSw) : (s.setSw n v).hal = s.hal := rfl
@[simp] theorem State.setSw_scan (s : State) (n : Nat) (v : ThSw) : (s.setSw n v).scan = s.scan := rfl
@[simp] theorem State.setSw_points (s : State) (n : Nat) (v : ThSw) : (s.setSw n v).points = s.points := rfl
@[simp] theorem State.setSw_fronts (s : State) (n : Nat) (v : ThSw) : (s.setSw n v).fronts = s.fronts := rfl
@[simp] theorem State.setSw_cableOvr (s : State) (n : Nat) (v : ThSw) : (s.setSw n v).cableOvr = s.cableOvr := rfl
@[simp] theorem State.setSw_trend (s : State) (n : Nat) (v : ThSw) : (s.setSw n v).trend = s.trend := rfl
@[simp] theorem State.setSw_shv (s : State) (n : Nat) (v : ThSw) : (s.setSw n v).shv = s.shv := rfl
@[simp] theorem State.setSw_masts (s : State) (n : Nat) (v : ThSw) : (s.setSw n v).masts = s.masts := rfl
@[simp] theorem State.setSw_dryers (s : State) (n : Nat) (v : ThSw) : (s.setSw n v).dryers = s.dryers := rfl
@[simp] theorem State.setSw_routes (s : State) (n : Nat) (v : ThSw) : (s.setSw n v).routes = s.routes := rfl
@[simp] theorem State.setSw_io_dies (s : State) (n : Nat) (v : ThSw) : (s.setSw n v).io.dies = s.io.dies := rfl
@[simp] theorem State.setSw_io_lockLand (s : State) (n : Nat) (v : ThSw) : (s.setSw n v).io.lockLand = s.io.lockLand := rfl
@[simp] theorem State.setSw_io_lockRec (s : State) (n : Nat) (v : ThSw) : (s.setSw n v).io.lockRec = s.io.lockRec := rfl
@[simp] theorem State.setSw_io_disagreeAt (s : State) (n : Nat) (v : ThSw) : (s.setSw n v).io.disagreeAt = s.io.disagreeAt := rfl
@[simp] theorem State.setSw_io_disagreed (s : State) (n : Nat) (v : ThSw) : (s.setSw n v).io.disagreed = s.io.disagreed := rfl
@[simp] theorem State.setSw_io_host (s : State) (n : Nat) (v : ThSw) : (s.setSw n v).io.host = s.io.host := rfl
@[simp] theorem State.setSw_io_outs (s : State) (n : Nat) (v : ThSw) : (s.setSw n v).io.outs = s.io.outs := rfl
@[simp] theorem State.setSw_io_fans (s : State) (n : Nat) (v : ThSw) : (s.setSw n v).io.fans = s.io.fans := rfl
@[simp] theorem State.setSw_io_fanAt (s : State) (n : Nat) (v : ThSw) : (s.setSw n v).io.fanAt = s.io.fanAt := rfl
@[simp] theorem State.setSw_io_wdLoad (s : State) (n : Nat) (v : ThSw) : (s.setSw n v).io.wdLoad = s.io.wdLoad := rfl
@[simp] theorem State.setSw_io_wdAt (s : State) (n : Nat) (v : ThSw) : (s.setSw n v).io.wdAt = s.io.wdAt := rfl
@[simp] theorem State.setSw_io_wdZero (s : State) (n : Nat) (v : ThSw) : (s.setSw n v).io.wdZero = s.io.wdZero := rfl
@[simp] theorem State.setSw_io_loads (s : State) (n : Nat) (v : ThSw) : (s.setSw n v).io.loads = s.io.loads := rfl
@[simp] theorem State.setSw_io_banks (s : State) (n : Nat) (v : ThSw) : (s.setSw n v).io.banks = s.io.banks := rfl
@[simp] theorem State.setSw_io_loadStart (s : State) (n : Nat) (v : ThSw) : (s.setSw n v).io.loadStart = s.io.loadStart := rfl
@[simp] theorem State.setSw_io_fuseAt (s : State) (n : Nat) (v : ThSw) : (s.setSw n v).io.fuseAt = s.io.fuseAt := rfl
@[simp] theorem State.setSw_io_modAt (s : State) (n : Nat) (v : ThSw) : (s.setSw n v).io.modAt = s.io.modAt := rfl
@[simp] theorem State.setSw_io_modShedAt (s : State) (n : Nat) (v : ThSw) : (s.setSw n v).io.modShedAt = s.io.modShedAt := rfl
@[simp] theorem State.setSw_io_dios (s : State) (n : Nat) (v : ThSw) : (s.setSw n v).io.dios = s.io.dios := rfl
@[simp] theorem State.setSw_io_dgrps (s : State) (n : Nat) (v : ThSw) : (s.setSw n v).io.dgrps = s.io.dgrps := rfl
@[simp] theorem State.setSw_io_onCount (s : State) (n : Nat) (v : ThSw) : (s.setSw n v).io.onCount = s.io.onCount := rfl
@[simp] theorem State.setSw_io_aos (s : State) (n : Nat) (v : ThSw) : (s.setSw n v).io.aos = s.io.aos := rfl
@[simp] theorem State.setSw_io_afe (s : State) (n : Nat) (v : ThSw) : (s.setSw n v).io.afe = s.io.afe := rfl
@[simp] theorem State.setSw_io_convs (s : State) (n : Nat) (v : ThSw) : (s.setSw n v).io.convs = s.io.convs := rfl
@[simp] theorem State.setSw_sw_other (s : State) (n : Nat) (v : ThSw) (j : Nat) (hj : j ≠ n) : (s.setSw n v).sw j = s.sw j := Tbl.rd_wr_other _ _ _ _ hj
theorem State.setSw_sw_same (s : State) (n : Nat) (v : ThSw) (hw : Tbl.wf ThSw.dflt s.io.sws = true) : (s.setSw n v).sw n = v := Tbl.rd_wr_same _ _ _ hw

/-! ### setLoop -/
@[simp] theorem State.setLoop_pending (s : State) (l : Nat) (v : Loop) : (s.setLoop l v).pending = s.pending := rfl
@[simp] theorem State.setLoop_free (s : State) (l : Nat) (v : Loop) : (s.setLoop l v).free = s.free := rfl
@[simp] theorem State.setLoop_wire (s : State) (l : Nat) (v : Loop) : (s.setLoop l v).wire = s.wire := rfl
@[simp] theorem State.setLoop_aon (s : State) (l : Nat) (v : Loop) : (s.setLoop l v).aon = s.aon := rfl
@[simp] theorem State.setLoop_pwr (s : State) (l : Nat) (v : Loop) : (s.setLoop l v).pwr = s.pwr := rfl
@[simp] theorem State.setLoop_start (s : State) (l : Nat) (v : Loop) : (s.setLoop l v).start = s.start := rfl
@[simp] theorem State.setLoop_net (s : State) (l : Nat) (v : Loop) : (s.setLoop l v).net = s.net := rfl
@[simp] theorem State.setLoop_spi (s : State) (l : Nat) (v : Loop) : (s.setLoop l v).spi = s.spi := rfl
@[simp] theorem State.setLoop_auth (s : State) (l : Nat) (v : Loop) : (s.setLoop l v).auth = s.auth := rfl
@[simp] theorem State.setLoop_sess (s : State) (l : Nat) (v : Loop) : (s.setLoop l v).sess = s.sess := rfl
@[simp] theorem State.setLoop_host (s : State) (l : Nat) (v : Loop) : (s.setLoop l v).host = s.host := rfl
@[simp] theorem State.setLoop_jrnl (s : State) (l : Nat) (v : Loop) : (s.setLoop l v).jrnl = s.jrnl := rfl
@[simp] theorem State.setLoop_own (s : State) (l : Nat) (v : Loop) : (s.setLoop l v).own = s.own := rfl
@[simp] theorem State.setLoop_fw (s : State) (l : Nat) (v : Loop) : (s.setLoop l v).fw = s.fw := rfl
@[simp] theorem State.setLoop_rig (s : State) (l : Nat) (v : Loop) : (s.setLoop l v).rig = s.rig := rfl
@[simp] theorem State.setLoop_tt (s : State) (l : Nat) (v : Loop) : (s.setLoop l v).tt = s.tt := rfl
@[simp] theorem State.setLoop_hal (s : State) (l : Nat) (v : Loop) : (s.setLoop l v).hal = s.hal := rfl
@[simp] theorem State.setLoop_scan (s : State) (l : Nat) (v : Loop) : (s.setLoop l v).scan = s.scan := rfl
@[simp] theorem State.setLoop_points (s : State) (l : Nat) (v : Loop) : (s.setLoop l v).points = s.points := rfl
@[simp] theorem State.setLoop_fronts (s : State) (l : Nat) (v : Loop) : (s.setLoop l v).fronts = s.fronts := rfl
@[simp] theorem State.setLoop_cableOvr (s : State) (l : Nat) (v : Loop) : (s.setLoop l v).cableOvr = s.cableOvr := rfl
@[simp] theorem State.setLoop_trend (s : State) (l : Nat) (v : Loop) : (s.setLoop l v).trend = s.trend := rfl
@[simp] theorem State.setLoop_io (s : State) (l : Nat) (v : Loop) : (s.setLoop l v).io = s.io := rfl
@[simp] theorem State.setLoop_masts (s : State) (l : Nat) (v : Loop) : (s.setLoop l v).masts = s.masts := rfl
@[simp] theorem State.setLoop_dryers (s : State) (l : Nat) (v : Loop) : (s.setLoop l v).dryers = s.dryers := rfl
@[simp] theorem State.setLoop_routes (s : State) (l : Nat) (v : Loop) : (s.setLoop l v).routes = s.routes := rfl
@[simp] theorem State.setLoop_shv_tick (s : State) (l : Nat) (v : Loop) : (s.setLoop l v).shv.tick = s.shv.tick := rfl
@[simp] theorem State.setLoop_shv_ints (s : State) (l : Nat) (v : Loop) : (s.setLoop l v).shv.ints = s.shv.ints := rfl
@[simp] theorem State.setLoop_shv_groups (s : State) (l : Nat) (v : Loop) : (s.setLoop l v).shv.groups = s.shv.groups := rfl
@[simp] theorem State.setLoop_shv_caps (s : State) (l : Nat) (v : Loop) : (s.setLoop l v).shv.caps = s.shv.caps := rfl
@[simp] theorem State.setLoop_loop_other (s : State) (l : Nat) (v : Loop) (j : Nat) (hj : j ≠ l) : (s.setLoop l v).loop j = s.loop j := Tbl.rd_wr_other _ _ _ _ hj
theorem State.setLoop_loop_same (s : State) (l : Nat) (v : Loop) (hw : Tbl.wf Loop.dflt s.shv.loops = true) : (s.setLoop l v).loop l = v := Tbl.rd_wr_same _ _ _ hw

/-! ### setLoopInt -/
@[simp] theorem State.setLoopInt_pending (s : State) (l : Nat) (v : LoopInt) : (s.setLoopInt l v).pending = s.pending := rfl
@[simp] theorem State.setLoopInt_free (s : State) (l : Nat) (v : LoopInt) : (s.setLoopInt l v).free = s.free := rfl
@[simp] theorem State.setLoopInt_wire (s : State) (l : Nat) (v : LoopInt) : (s.setLoopInt l v).wire = s.wire := rfl
@[simp] theorem State.setLoopInt_aon (s : State) (l : Nat) (v : LoopInt) : (s.setLoopInt l v).aon = s.aon := rfl
@[simp] theorem State.setLoopInt_pwr (s : State) (l : Nat) (v : LoopInt) : (s.setLoopInt l v).pwr = s.pwr := rfl
@[simp] theorem State.setLoopInt_start (s : State) (l : Nat) (v : LoopInt) : (s.setLoopInt l v).start = s.start := rfl
@[simp] theorem State.setLoopInt_net (s : State) (l : Nat) (v : LoopInt) : (s.setLoopInt l v).net = s.net := rfl
@[simp] theorem State.setLoopInt_spi (s : State) (l : Nat) (v : LoopInt) : (s.setLoopInt l v).spi = s.spi := rfl
@[simp] theorem State.setLoopInt_auth (s : State) (l : Nat) (v : LoopInt) : (s.setLoopInt l v).auth = s.auth := rfl
@[simp] theorem State.setLoopInt_sess (s : State) (l : Nat) (v : LoopInt) : (s.setLoopInt l v).sess = s.sess := rfl
@[simp] theorem State.setLoopInt_host (s : State) (l : Nat) (v : LoopInt) : (s.setLoopInt l v).host = s.host := rfl
@[simp] theorem State.setLoopInt_jrnl (s : State) (l : Nat) (v : LoopInt) : (s.setLoopInt l v).jrnl = s.jrnl := rfl
@[simp] theorem State.setLoopInt_own (s : State) (l : Nat) (v : LoopInt) : (s.setLoopInt l v).own = s.own := rfl
@[simp] theorem State.setLoopInt_fw (s : State) (l : Nat) (v : LoopInt) : (s.setLoopInt l v).fw = s.fw := rfl
@[simp] theorem State.setLoopInt_rig (s : State) (l : Nat) (v : LoopInt) : (s.setLoopInt l v).rig = s.rig := rfl
@[simp] theorem State.setLoopInt_tt (s : State) (l : Nat) (v : LoopInt) : (s.setLoopInt l v).tt = s.tt := rfl
@[simp] theorem State.setLoopInt_hal (s : State) (l : Nat) (v : LoopInt) : (s.setLoopInt l v).hal = s.hal := rfl
@[simp] theorem State.setLoopInt_scan (s : State) (l : Nat) (v : LoopInt) : (s.setLoopInt l v).scan = s.scan := rfl
@[simp] theorem State.setLoopInt_points (s : State) (l : Nat) (v : LoopInt) : (s.setLoopInt l v).points = s.points := rfl
@[simp] theorem State.setLoopInt_fronts (s : State) (l : Nat) (v : LoopInt) : (s.setLoopInt l v).fronts = s.fronts := rfl
@[simp] theorem State.setLoopInt_cableOvr (s : State) (l : Nat) (v : LoopInt) : (s.setLoopInt l v).cableOvr = s.cableOvr := rfl
@[simp] theorem State.setLoopInt_trend (s : State) (l : Nat) (v : LoopInt) : (s.setLoopInt l v).trend = s.trend := rfl
@[simp] theorem State.setLoopInt_io (s : State) (l : Nat) (v : LoopInt) : (s.setLoopInt l v).io = s.io := rfl
@[simp] theorem State.setLoopInt_masts (s : State) (l : Nat) (v : LoopInt) : (s.setLoopInt l v).masts = s.masts := rfl
@[simp] theorem State.setLoopInt_dryers (s : State) (l : Nat) (v : LoopInt) : (s.setLoopInt l v).dryers = s.dryers := rfl
@[simp] theorem State.setLoopInt_routes (s : State) (l : Nat) (v : LoopInt) : (s.setLoopInt l v).routes = s.routes := rfl
@[simp] theorem State.setLoopInt_shv_tick (s : State) (l : Nat) (v : LoopInt) : (s.setLoopInt l v).shv.tick = s.shv.tick := rfl
@[simp] theorem State.setLoopInt_shv_loops (s : State) (l : Nat) (v : LoopInt) : (s.setLoopInt l v).shv.loops = s.shv.loops := rfl
@[simp] theorem State.setLoopInt_shv_groups (s : State) (l : Nat) (v : LoopInt) : (s.setLoopInt l v).shv.groups = s.shv.groups := rfl
@[simp] theorem State.setLoopInt_shv_caps (s : State) (l : Nat) (v : LoopInt) : (s.setLoopInt l v).shv.caps = s.shv.caps := rfl
@[simp] theorem State.setLoopInt_loopInt_other (s : State) (l : Nat) (v : LoopInt) (j : Nat) (hj : j ≠ l) : (s.setLoopInt l v).loopInt j = s.loopInt j := Tbl.rd_wr_other _ _ _ _ hj
theorem State.setLoopInt_loopInt_same (s : State) (l : Nat) (v : LoopInt) (hw : Tbl.wf LoopInt.dflt s.shv.ints = true) : (s.setLoopInt l v).loopInt l = v := Tbl.rd_wr_same _ _ _ hw

/-! ### setGrp -/
@[simp] theorem State.setGrp_pending (s : State) (g : Nat) (v : Grp) : (s.setGrp g v).pending = s.pending := rfl
@[simp] theorem State.setGrp_free (s : State) (g : Nat) (v : Grp) : (s.setGrp g v).free = s.free := rfl
@[simp] theorem State.setGrp_wire (s : State) (g : Nat) (v : Grp) : (s.setGrp g v).wire = s.wire := rfl
@[simp] theorem State.setGrp_aon (s : State) (g : Nat) (v : Grp) : (s.setGrp g v).aon = s.aon := rfl
@[simp] theorem State.setGrp_pwr (s : State) (g : Nat) (v : Grp) : (s.setGrp g v).pwr = s.pwr := rfl
@[simp] theorem State.setGrp_start (s : State) (g : Nat) (v : Grp) : (s.setGrp g v).start = s.start := rfl
@[simp] theorem State.setGrp_net (s : State) (g : Nat) (v : Grp) : (s.setGrp g v).net = s.net := rfl
@[simp] theorem State.setGrp_spi (s : State) (g : Nat) (v : Grp) : (s.setGrp g v).spi = s.spi := rfl
@[simp] theorem State.setGrp_auth (s : State) (g : Nat) (v : Grp) : (s.setGrp g v).auth = s.auth := rfl
@[simp] theorem State.setGrp_sess (s : State) (g : Nat) (v : Grp) : (s.setGrp g v).sess = s.sess := rfl
@[simp] theorem State.setGrp_host (s : State) (g : Nat) (v : Grp) : (s.setGrp g v).host = s.host := rfl
@[simp] theorem State.setGrp_jrnl (s : State) (g : Nat) (v : Grp) : (s.setGrp g v).jrnl = s.jrnl := rfl
@[simp] theorem State.setGrp_own (s : State) (g : Nat) (v : Grp) : (s.setGrp g v).own = s.own := rfl
@[simp] theorem State.setGrp_fw (s : State) (g : Nat) (v : Grp) : (s.setGrp g v).fw = s.fw := rfl
@[simp] theorem State.setGrp_rig (s : State) (g : Nat) (v : Grp) : (s.setGrp g v).rig = s.rig := rfl
@[simp] theorem State.setGrp_tt (s : State) (g : Nat) (v : Grp) : (s.setGrp g v).tt = s.tt := rfl
@[simp] theorem State.setGrp_hal (s : State) (g : Nat) (v : Grp) : (s.setGrp g v).hal = s.hal := rfl
@[simp] theorem State.setGrp_scan (s : State) (g : Nat) (v : Grp) : (s.setGrp g v).scan = s.scan := rfl
@[simp] theorem State.setGrp_points (s : State) (g : Nat) (v : Grp) : (s.setGrp g v).points = s.points := rfl
@[simp] theorem State.setGrp_fronts (s : State) (g : Nat) (v : Grp) : (s.setGrp g v).fronts = s.fronts := rfl
@[simp] theorem State.setGrp_cableOvr (s : State) (g : Nat) (v : Grp) : (s.setGrp g v).cableOvr = s.cableOvr := rfl
@[simp] theorem State.setGrp_trend (s : State) (g : Nat) (v : Grp) : (s.setGrp g v).trend = s.trend := rfl
@[simp] theorem State.setGrp_io (s : State) (g : Nat) (v : Grp) : (s.setGrp g v).io = s.io := rfl
@[simp] theorem State.setGrp_masts (s : State) (g : Nat) (v : Grp) : (s.setGrp g v).masts = s.masts := rfl
@[simp] theorem State.setGrp_dryers (s : State) (g : Nat) (v : Grp) : (s.setGrp g v).dryers = s.dryers := rfl
@[simp] theorem State.setGrp_routes (s : State) (g : Nat) (v : Grp) : (s.setGrp g v).routes = s.routes := rfl
@[simp] theorem State.setGrp_shv_tick (s : State) (g : Nat) (v : Grp) : (s.setGrp g v).shv.tick = s.shv.tick := rfl
@[simp] theorem State.setGrp_shv_loops (s : State) (g : Nat) (v : Grp) : (s.setGrp g v).shv.loops = s.shv.loops := rfl
@[simp] theorem State.setGrp_shv_ints (s : State) (g : Nat) (v : Grp) : (s.setGrp g v).shv.ints = s.shv.ints := rfl
@[simp] theorem State.setGrp_shv_caps (s : State) (g : Nat) (v : Grp) : (s.setGrp g v).shv.caps = s.shv.caps := rfl
@[simp] theorem State.setGrp_grp_other (s : State) (g : Nat) (v : Grp) (j : Nat) (hj : j ≠ g) : (s.setGrp g v).grp j = s.grp j := Tbl.rd_wr_other _ _ _ _ hj
theorem State.setGrp_grp_same (s : State) (g : Nat) (v : Grp) (hw : Tbl.wf Grp.dflt s.shv.groups = true) : (s.setGrp g v).grp g = v := Tbl.rd_wr_same _ _ _ hw

/-! ### setMast -/
@[simp] theorem State.setMast_pending (s : State) (m : Nat) (v : Mast) : (s.setMast m v).pending = s.pending := rfl
@[simp] theorem State.setMast_free (s : State) (m : Nat) (v : Mast) : (s.setMast m v).free = s.free := rfl
@[simp] theorem State.setMast_wire (s : State) (m : Nat) (v : Mast) : (s.setMast m v).wire = s.wire := rfl
@[simp] theorem State.setMast_aon (s : State) (m : Nat) (v : Mast) : (s.setMast m v).aon = s.aon := rfl
@[simp] theorem State.setMast_pwr (s : State) (m : Nat) (v : Mast) : (s.setMast m v).pwr = s.pwr := rfl
@[simp] theorem State.setMast_start (s : State) (m : Nat) (v : Mast) : (s.setMast m v).start = s.start := rfl
@[simp] theorem State.setMast_net (s : State) (m : Nat) (v : Mast) : (s.setMast m v).net = s.net := rfl
@[simp] theorem State.setMast_spi (s : State) (m : Nat) (v : Mast) : (s.setMast m v).spi = s.spi := rfl
@[simp] theorem State.setMast_auth (s : State) (m : Nat) (v : Mast) : (s.setMast m v).auth = s.auth := rfl
@[simp] theorem State.setMast_sess (s : State) (m : Nat) (v : Mast) : (s.setMast m v).sess = s.sess := rfl
@[simp] theorem State.setMast_host (s : State) (m : Nat) (v : Mast) : (s.setMast m v).host = s.host := rfl
@[simp] theorem State.setMast_jrnl (s : State) (m : Nat) (v : Mast) : (s.setMast m v).jrnl = s.jrnl := rfl
@[simp] theorem State.setMast_own (s : State) (m : Nat) (v : Mast) : (s.setMast m v).own = s.own := rfl
@[simp] theorem State.setMast_fw (s : State) (m : Nat) (v : Mast) : (s.setMast m v).fw = s.fw := rfl
@[simp] theorem State.setMast_rig (s : State) (m : Nat) (v : Mast) : (s.setMast m v).rig = s.rig := rfl
@[simp] theorem State.setMast_tt (s : State) (m : Nat) (v : Mast) : (s.setMast m v).tt = s.tt := rfl
@[simp] theorem State.setMast_hal (s : State) (m : Nat) (v : Mast) : (s.setMast m v).hal = s.hal := rfl
@[simp] theorem State.setMast_scan (s : State) (m : Nat) (v : Mast) : (s.setMast m v).scan = s.scan := rfl
@[simp] theorem State.setMast_points (s : State) (m : Nat) (v : Mast) : (s.setMast m v).points = s.points := rfl
@[simp] theorem State.setMast_fronts (s : State) (m : Nat) (v : Mast) : (s.setMast m v).fronts = s.fronts := rfl
@[simp] theorem State.setMast_cableOvr (s : State) (m : Nat) (v : Mast) : (s.setMast m v).cableOvr = s.cableOvr := rfl
@[simp] theorem State.setMast_trend (s : State) (m : Nat) (v : Mast) : (s.setMast m v).trend = s.trend := rfl
@[simp] theorem State.setMast_shv (s : State) (m : Nat) (v : Mast) : (s.setMast m v).shv = s.shv := rfl
@[simp] theorem State.setMast_io (s : State) (m : Nat) (v : Mast) : (s.setMast m v).io = s.io := rfl
@[simp] theorem State.setMast_dryers (s : State) (m : Nat) (v : Mast) : (s.setMast m v).dryers = s.dryers := rfl
@[simp] theorem State.setMast_routes (s : State) (m : Nat) (v : Mast) : (s.setMast m v).routes = s.routes := rfl
@[simp] theorem State.setMast_masts_mode (s : State) (m : Nat) (v : Mast) : (s.setMast m v).masts.mode = s.masts.mode := rfl
@[simp] theorem State.setMast_masts_led (s : State) (m : Nat) (v : Mast) : (s.setMast m v).masts.led = s.masts.led := rfl
@[simp] theorem State.setMast_masts_saved (s : State) (m : Nat) (v : Mast) : (s.setMast m v).masts.saved = s.masts.saved := rfl
@[simp] theorem State.setMast_masts_savedAt (s : State) (m : Nat) (v : Mast) : (s.setMast m v).masts.savedAt = s.masts.savedAt := rfl
@[simp] theorem State.setMast_masts_saveUs (s : State) (m : Nat) (v : Mast) : (s.setMast m v).masts.saveUs = s.masts.saveUs := rfl
@[simp] theorem State.setMast_masts_checkS (s : State) (m : Nat) (v : Mast) : (s.setMast m v).masts.checkS = s.masts.checkS := rfl
@[simp] theorem State.setMast_mast_other (s : State) (m : Nat) (v : Mast) (j : Nat) (hj : j ≠ m) : (s.setMast m v).mast j = s.mast j := Tbl.rd_wr_other _ _ _ _ hj
theorem State.setMast_mast_same (s : State) (m : Nat) (v : Mast) (hw : Tbl.wf Mast.dflt s.masts.m = true) : (s.setMast m v).mast m = v := Tbl.rd_wr_same _ _ _ hw

/-! ### setDryer -/
@[simp] theorem State.setDryer_pending (s : State) (d : Nat) (v : Dryer) : (s.setDryer d v).pending = s.pending := rfl
@[simp] theorem State.setDryer_free (s : State) (d : Nat) (v : Dryer) : (s.setDryer d v).free = s.free := rfl
@[simp] theorem State.setDryer_wire (s : State) (d : Nat) (v : Dryer) : (s.setDryer d v).wire = s.wire := rfl
@[simp] theorem State.setDryer_aon (s : State) (d : Nat) (v : Dryer) : (s.setDryer d v).aon = s.aon := rfl
@[simp] theorem State.setDryer_pwr (s : State) (d : Nat) (v : Dryer) : (s.setDryer d v).pwr = s.pwr := rfl
@[simp] theorem State.setDryer_start (s : State) (d : Nat) (v : Dryer) : (s.setDryer d v).start = s.start := rfl
@[simp] theorem State.setDryer_net (s : State) (d : Nat) (v : Dryer) : (s.setDryer d v).net = s.net := rfl
@[simp] theorem State.setDryer_spi (s : State) (d : Nat) (v : Dryer) : (s.setDryer d v).spi = s.spi := rfl
@[simp] theorem State.setDryer_auth (s : State) (d : Nat) (v : Dryer) : (s.setDryer d v).auth = s.auth := rfl
@[simp] theorem State.setDryer_sess (s : State) (d : Nat) (v : Dryer) : (s.setDryer d v).sess = s.sess := rfl
@[simp] theorem State.setDryer_host (s : State) (d : Nat) (v : Dryer) : (s.setDryer d v).host = s.host := rfl
@[simp] theorem State.setDryer_jrnl (s : State) (d : Nat) (v : Dryer) : (s.setDryer d v).jrnl = s.jrnl := rfl
@[simp] theorem State.setDryer_own (s : State) (d : Nat) (v : Dryer) : (s.setDryer d v).own = s.own := rfl
@[simp] theorem State.setDryer_fw (s : State) (d : Nat) (v : Dryer) : (s.setDryer d v).fw = s.fw := rfl
@[simp] theorem State.setDryer_rig (s : State) (d : Nat) (v : Dryer) : (s.setDryer d v).rig = s.rig := rfl
@[simp] theorem State.setDryer_tt (s : State) (d : Nat) (v : Dryer) : (s.setDryer d v).tt = s.tt := rfl
@[simp] theorem State.setDryer_hal (s : State) (d : Nat) (v : Dryer) : (s.setDryer d v).hal = s.hal := rfl
@[simp] theorem State.setDryer_scan (s : State) (d : Nat) (v : Dryer) : (s.setDryer d v).scan = s.scan := rfl
@[simp] theorem State.setDryer_points (s : State) (d : Nat) (v : Dryer) : (s.setDryer d v).points = s.points := rfl
@[simp] theorem State.setDryer_fronts (s : State) (d : Nat) (v : Dryer) : (s.setDryer d v).fronts = s.fronts := rfl
@[simp] theorem State.setDryer_cableOvr (s : State) (d : Nat) (v : Dryer) : (s.setDryer d v).cableOvr = s.cableOvr := rfl
@[simp] theorem State.setDryer_trend (s : State) (d : Nat) (v : Dryer) : (s.setDryer d v).trend = s.trend := rfl
@[simp] theorem State.setDryer_shv (s : State) (d : Nat) (v : Dryer) : (s.setDryer d v).shv = s.shv := rfl
@[simp] theorem State.setDryer_io (s : State) (d : Nat) (v : Dryer) : (s.setDryer d v).io = s.io := rfl
@[simp] theorem State.setDryer_masts (s : State) (d : Nat) (v : Dryer) : (s.setDryer d v).masts = s.masts := rfl
@[simp] theorem State.setDryer_routes (s : State) (d : Nat) (v : Dryer) : (s.setDryer d v).routes = s.routes := rfl
@[simp] theorem State.setDryer_dryers_mode (s : State) (d : Nat) (v : Dryer) : (s.setDryer d v).dryers.mode = s.dryers.mode := rfl
@[simp] theorem State.setDryer_dryers_save (s : State) (d : Nat) (v : Dryer) : (s.setDryer d v).dryers.save = s.dryers.save := rfl
@[simp] theorem State.setDryer_dryers_evalAt (s : State) (d : Nat) (v : Dryer) : (s.setDryer d v).dryers.evalAt = s.dryers.evalAt := rfl
@[simp] theorem State.setDryer_dryers_saveAt (s : State) (d : Nat) (v : Dryer) : (s.setDryer d v).dryers.saveAt = s.dryers.saveAt := rfl
@[simp] theorem State.setDryer_dryer_other (s : State) (d : Nat) (v : Dryer) (j : Nat) (hj : j ≠ d) : (s.setDryer d v).dryer j = s.dryer j := Tbl.rd_wr_other _ _ _ _ hj
theorem State.setDryer_dryer_same (s : State) (d : Nat) (v : Dryer) (hw : Tbl.wf Dryer.dflt s.dryers.d = true) : (s.setDryer d v).dryer d = v := Tbl.rd_wr_same _ _ _ hw

/-! ### setRoute -/
@[simp] theorem State.setRoute_pending (s : State) (r : Nat) (v : Route) : (s.setRoute r v).pending = s.pending := rfl
@[simp] theorem State.setRoute_free (s : State) (r : Nat) (v : Route) : (s.setRoute r v).free = s.free := rfl
@[simp] theorem State.setRoute_wire (s : State) (r : Nat) (v : Route) : (s.setRoute r v).wire = s.wire := rfl
@[simp] theorem State.setRoute_aon (s : State) (r : Nat) (v : Route) : (s.setRoute r v).aon = s.aon := rfl
@[simp] theorem State.setRoute_pwr (s : State) (r : Nat) (v : Route) : (s.setRoute r v).pwr = s.pwr := rfl
@[simp] theorem State.setRoute_start (s : State) (r : Nat) (v : Route) : (s.setRoute r v).start = s.start := rfl
@[simp] theorem State.setRoute_net (s : State) (r : Nat) (v : Route) : (s.setRoute r v).net = s.net := rfl
@[simp] theorem State.setRoute_spi (s : State) (r : Nat) (v : Route) : (s.setRoute r v).spi = s.spi := rfl
@[simp] theorem State.setRoute_auth (s : State) (r : Nat) (v : Route) : (s.setRoute r v).auth = s.auth := rfl
@[simp] theorem State.setRoute_sess (s : State) (r : Nat) (v : Route) : (s.setRoute r v).sess = s.sess := rfl
@[simp] theorem State.setRoute_host (s : State) (r : Nat) (v : Route) : (s.setRoute r v).host = s.host := rfl
@[simp] theorem State.setRoute_jrnl (s : State) (r : Nat) (v : Route) : (s.setRoute r v).jrnl = s.jrnl := rfl
@[simp] theorem State.setRoute_own (s : State) (r : Nat) (v : Route) : (s.setRoute r v).own = s.own := rfl
@[simp] theorem State.setRoute_fw (s : State) (r : Nat) (v : Route) : (s.setRoute r v).fw = s.fw := rfl
@[simp] theorem State.setRoute_rig (s : State) (r : Nat) (v : Route) : (s.setRoute r v).rig = s.rig := rfl
@[simp] theorem State.setRoute_tt (s : State) (r : Nat) (v : Route) : (s.setRoute r v).tt = s.tt := rfl
@[simp] theorem State.setRoute_hal (s : State) (r : Nat) (v : Route) : (s.setRoute r v).hal = s.hal := rfl
@[simp] theorem State.setRoute_scan (s : State) (r : Nat) (v : Route) : (s.setRoute r v).scan = s.scan := rfl
@[simp] theorem State.setRoute_points (s : State) (r : Nat) (v : Route) : (s.setRoute r v).points = s.points := rfl
@[simp] theorem State.setRoute_fronts (s : State) (r : Nat) (v : Route) : (s.setRoute r v).fronts = s.fronts := rfl
@[simp] theorem State.setRoute_cableOvr (s : State) (r : Nat) (v : Route) : (s.setRoute r v).cableOvr = s.cableOvr := rfl
@[simp] theorem State.setRoute_trend (s : State) (r : Nat) (v : Route) : (s.setRoute r v).trend = s.trend := rfl
@[simp] theorem State.setRoute_shv (s : State) (r : Nat) (v : Route) : (s.setRoute r v).shv = s.shv := rfl
@[simp] theorem State.setRoute_io (s : State) (r : Nat) (v : Route) : (s.setRoute r v).io = s.io := rfl
@[simp] theorem State.setRoute_masts (s : State) (r : Nat) (v : Route) : (s.setRoute r v).masts = s.masts := rfl
@[simp] theorem State.setRoute_dryers (s : State) (r : Nat) (v : Route) : (s.setRoute r v).dryers = s.dryers := rfl
@[simp] theorem State.setRoute_routes_save (s : State) (r : Nat) (v : Route) : (s.setRoute r v).routes.save = s.routes.save := rfl
@[simp] theorem State.setRoute_routes_e (s : State) (r : Nat) (v : Route) : (s.setRoute r v).routes.e = s.routes.e := rfl
@[simp] theorem State.setRoute_routes_evalAt (s : State) (r : Nat) (v : Route) : (s.setRoute r v).routes.evalAt = s.routes.evalAt := rfl
@[simp] theorem State.setRoute_route_other (s : State) (r : Nat) (v : Route) (j : Nat) (hj : j ≠ r) : (s.setRoute r v).route j = s.route j := Tbl.rd_wr_other _ _ _ _ hj
theorem State.setRoute_route_same (s : State) (r : Nat) (v : Route) (hw : Tbl.wf Route.dflt s.routes.r = true) : (s.setRoute r v).route r = v := Tbl.rd_wr_same _ _ _ hw

/-! ### setElem -/
@[simp] theorem State.setElem_pending (s : State) (e : Nat) (v : Elem) : (s.setElem e v).pending = s.pending := rfl
@[simp] theorem State.setElem_free (s : State) (e : Nat) (v : Elem) : (s.setElem e v).free = s.free := rfl
@[simp] theorem State.setElem_wire (s : State) (e : Nat) (v : Elem) : (s.setElem e v).wire = s.wire := rfl
@[simp] theorem State.setElem_aon (s : State) (e : Nat) (v : Elem) : (s.setElem e v).aon = s.aon := rfl
@[simp] theorem State.setElem_pwr (s : State) (e : Nat) (v : Elem) : (s.setElem e v).pwr = s.pwr := rfl
@[simp] theorem State.setElem_start (s : State) (e : Nat) (v : Elem) : (s.setElem e v).start = s.start := rfl
@[simp] theorem State.setElem_net (s : State) (e : Nat) (v : Elem) : (s.setElem e v).net = s.net := rfl
@[simp] theorem State.setElem_spi (s : State) (e : Nat) (v : Elem) : (s.setElem e v).spi = s.spi := rfl
@[simp] theorem State.setElem_auth (s : State) (e : Nat) (v : Elem) : (s.setElem e v).auth = s.auth := rfl
@[simp] theorem State.setElem_sess (s : State) (e : Nat) (v : Elem) : (s.setElem e v).sess = s.sess := rfl
@[simp] theorem State.setElem_host (s : State) (e : Nat) (v : Elem) : (s.setElem e v).host = s.host := rfl
@[simp] theorem State.setElem_jrnl (s : State) (e : Nat) (v : Elem) : (s.setElem e v).jrnl = s.jrnl := rfl
@[simp] theorem State.setElem_own (s : State) (e : Nat) (v : Elem) : (s.setElem e v).own = s.own := rfl
@[simp] theorem State.setElem_fw (s : State) (e : Nat) (v : Elem) : (s.setElem e v).fw = s.fw := rfl
@[simp] theorem State.setElem_rig (s : State) (e : Nat) (v : Elem) : (s.setElem e v).rig = s.rig := rfl
@[simp] theorem State.setElem_tt (s : State) (e : Nat) (v : Elem) : (s.setElem e v).tt = s.tt := rfl
@[simp] theorem State.setElem_hal (s : State) (e : Nat) (v : Elem) : (s.setElem e v).hal = s.hal := rfl
@[simp] theorem State.setElem_scan (s : State) (e : Nat) (v : Elem) : (s.setElem e v).scan = s.scan := rfl
@[simp] theorem State.setElem_points (s : State) (e : Nat) (v : Elem) : (s.setElem e v).points = s.points := rfl
@[simp] theorem State.setElem_fronts (s : State) (e : Nat) (v : Elem) : (s.setElem e v).fronts = s.fronts := rfl
@[simp] theorem State.setElem_cableOvr (s : State) (e : Nat) (v : Elem) : (s.setElem e v).cableOvr = s.cableOvr := rfl
@[simp] theorem State.setElem_trend (s : State) (e : Nat) (v : Elem) : (s.setElem e v).trend = s.trend := rfl
@[simp] theorem State.setElem_shv (s : State) (e : Nat) (v : Elem) : (s.setElem e v).shv = s.shv := rfl
@[simp] theorem State.setElem_io (s : State) (e : Nat) (v : Elem) : (s.setElem e v).io = s.io := rfl
@[simp] theorem State.setElem_masts (s : State) (e : Nat) (v : Elem) : (s.setElem e v).masts = s.masts := rfl
@[simp] theorem State.setElem_dryers (s : State) (e : Nat) (v : Elem) : (s.setElem e v).dryers = s.dryers := rfl
@[simp] theorem State.setElem_routes_r (s : State) (e : Nat) (v : Elem) : (s.setElem e v).routes.r = s.routes.r := rfl
@[simp] theorem State.setElem_routes_save (s : State) (e : Nat) (v : Elem) : (s.setElem e v).routes.save = s.routes.save := rfl
@[simp] theorem State.setElem_routes_evalAt (s : State) (e : Nat) (v : Elem) : (s.setElem e v).routes.evalAt = s.routes.evalAt := rfl
@[simp] theorem State.setElem_elem_other (s : State) (e : Nat) (v : Elem) (j : Nat) (hj : j ≠ e) : (s.setElem e v).elem j = s.elem j := Tbl.rd_wr_other _ _ _ _ hj
theorem State.setElem_elem_same (s : State) (e : Nat) (v : Elem) (hw : Tbl.wf Elem.dflt s.routes.e = true) : (s.setElem e v).elem e = v := Tbl.rd_wr_same _ _ _ hw

/-! ### setHp -/
@[simp] theorem State.setHp_pending (s : State) (p : Nat) (h : HalPort) : (s.setHp p h).pending = s.pending := rfl
@[simp] theorem State.setHp_free (s : State) (p : Nat) (h : HalPort) : (s.setHp p h).free = s.free := rfl
@[simp] theorem State.setHp_wire (s : State) (p : Nat) (h : HalPort) : (s.setHp p h).wire = s.wire := rfl
@[simp] theorem State.setHp_aon (s : State) (p : Nat) (h : HalPort) : (s.setHp p h).aon = s.aon := rfl
@[simp] theorem State.setHp_pwr (s : State) (p : Nat) (h : HalPort) : (s.setHp p h).pwr = s.pwr := rfl
@[simp] theorem State.setHp_start (s : State) (p : Nat) (h : HalPort) : (s.setHp p h).start = s.start := rfl
@[simp] theorem State.setHp_net (s : State) (p : Nat) (h : HalPort) : (s.setHp p h).net = s.net := rfl
@[simp] theorem State.setHp_spi (s : State) (p : Nat) (h : HalPort) : (s.setHp p h).spi = s.spi := rfl
@[simp] theorem State.setHp_auth (s : State) (p : Nat) (h : HalPort) : (s.setHp p h).auth = s.auth := rfl
@[simp] theorem State.setHp_sess (s : State) (p : Nat) (h : HalPort) : (s.setHp p h).sess = s.sess := rfl
@[simp] theorem State.setHp_host (s : State) (p : Nat) (h : HalPort) : (s.setHp p h).host = s.host := rfl
@[simp] theorem State.setHp_jrnl (s : State) (p : Nat) (h : HalPort) : (s.setHp p h).jrnl = s.jrnl := rfl
@[simp] theorem State.setHp_own (s : State) (p : Nat) (h : HalPort) : (s.setHp p h).own = s.own := rfl
@[simp] theorem State.setHp_fw (s : State) (p : Nat) (h : HalPort) : (s.setHp p h).fw = s.fw := rfl
@[simp] theorem State.setHp_rig (s : State) (p : Nat) (h : HalPort) : (s.setHp p h).rig = s.rig := rfl
@[simp] theorem State.setHp_tt (s : State) (p : Nat) (h : HalPort) : (s.setHp p h).tt = s.tt := rfl
@[simp] theorem State.setHp_scan (s : State) (p : Nat) (h : HalPort) : (s.setHp p h).scan = s.scan := rfl
@[simp] theorem State.setHp_points (s : State) (p : Nat) (h : HalPort) : (s.setHp p h).points = s.points := rfl
@[simp] theorem State.setHp_fronts (s : State) (p : Nat) (h : HalPort) : (s.setHp p h).fronts = s.fronts := rfl
@[simp] theorem State.setHp_cableOvr (s : State) (p : Nat) (h : HalPort) : (s.setHp p h).cableOvr = s.cableOvr := rfl
@[simp] theorem State.setHp_trend (s : State) (p : Nat) (h : HalPort) : (s.setHp p h).trend = s.trend := rfl
@[simp] theorem State.setHp_shv (s : State) (p : Nat) (h : HalPort) : (s.setHp p h).shv = s.shv := rfl
@[simp] theorem State.setHp_io (s : State) (p : Nat) (h : HalPort) : (s.setHp p h).io = s.io := rfl
@[simp] theorem State.setHp_masts (s : State) (p : Nat) (h : HalPort) : (s.setHp p h).masts = s.masts := rfl
@[simp] theorem State.setHp_dryers (s : State) (p : Nat) (h : HalPort) : (s.setHp p h).dryers = s.dryers := rfl
@[simp] theorem State.setHp_routes (s : State) (p : Nat) (h : HalPort) : (s.setHp p h).routes = s.routes := rfl
@[simp] theorem State.setHp_hp_other (s : State) (p : Nat) (h : HalPort) (j : Nat) (hj : j ≠ p) : (s.setHp p h).hp j = s.hp j := Tbl.rd_wr_other _ _ _ _ hj
theorem State.setHp_hp_same (s : State) (p : Nat) (h : HalPort) (hw : Tbl.wf HalPort.dflt s.hal = true) : (s.setHp p h).hp p = h := Tbl.rd_wr_same _ _ _ hw

/-! ### setPoint -/
@[simp] theorem State.setPoint_pending (s : State) (p : Nat) (e : PointE) : (s.setPoint p e).pending = s.pending := rfl
@[simp] theorem State.setPoint_free (s : State) (p : Nat) (e : PointE) : (s.setPoint p e).free = s.free := rfl
@[simp] theorem State.setPoint_wire (s : State) (p : Nat) (e : PointE) : (s.setPoint p e).wire = s.wire := rfl
@[simp] theorem State.setPoint_aon (s : State) (p : Nat) (e : PointE) : (s.setPoint p e).aon = s.aon := rfl
@[simp] theorem State.setPoint_pwr (s : State) (p : Nat) (e : PointE) : (s.setPoint p e).pwr = s.pwr := rfl
@[simp] theorem State.setPoint_start (s : State) (p : Nat) (e : PointE) : (s.setPoint p e).start = s.start := rfl
@[simp] theorem State.setPoint_net (s : State) (p : Nat) (e : PointE) : (s.setPoint p e).net = s.net := rfl
@[simp] theorem State.setPoint_spi (s : State) (p : Nat) (e : PointE) : (s.setPoint p e).spi = s.spi := rfl
@[simp] theorem State.setPoint_auth (s : State) (p : Nat) (e : PointE) : (s.setPoint p e).auth = s.auth := rfl
@[simp] theorem State.setPoint_sess (s : State) (p : Nat) (e : PointE) : (s.setPoint p e).sess = s.sess := rfl
@[simp] theorem State.setPoint_host (s : State) (p : Nat) (e : PointE) : (s.setPoint p e).host = s.host := rfl
@[simp] theorem State.setPoint_jrnl (s : State) (p : Nat) (e : PointE) : (s.setPoint p e).jrnl = s.jrnl := rfl
@[simp] theorem State.setPoint_own (s : State) (p : Nat) (e : PointE) : (s.setPoint p e).own = s.own := rfl
@[simp] theorem State.setPoint_fw (s : State) (p : Nat) (e : PointE) : (s.setPoint p e).fw = s.fw := rfl
@[simp] theorem State.setPoint_rig (s : State) (p : Nat) (e : PointE) : (s.setPoint p e).rig = s.rig := rfl
@[simp] theorem State.setPoint_tt (s : State) (p : Nat) (e : PointE) : (s.setPoint p e).tt = s.tt := rfl
@[simp] theorem State.setPoint_hal (s : State) (p : Nat) (e : PointE) : (s.setPoint p e).hal = s.hal := rfl
@[simp] theorem State.setPoint_scan (s : State) (p : Nat) (e : PointE) : (s.setPoint p e).scan = s.scan := rfl
@[simp] theorem State.setPoint_fronts (s : State) (p : Nat) (e : PointE) : (s.setPoint p e).fronts = s.fronts := rfl
@[simp] theorem State.setPoint_cableOvr (s : State) (p : Nat) (e : PointE) : (s.setPoint p e).cableOvr = s.cableOvr := rfl
@[simp] theorem State.setPoint_trend (s : State) (p : Nat) (e : PointE) : (s.setPoint p e).trend = s.trend := rfl
@[simp] theorem State.setPoint_shv (s : State) (p : Nat) (e : PointE) : (s.setPoint p e).shv = s.shv := rfl
@[simp] theorem State.setPoint_io (s : State) (p : Nat) (e : PointE) : (s.setPoint p e).io = s.io := rfl
@[simp] theorem State.setPoint_masts (s : State) (p : Nat) (e : PointE) : (s.setPoint p e).masts = s.masts := rfl
@[simp] theorem State.setPoint_dryers (s : State) (p : Nat) (e : PointE) : (s.setPoint p e).dryers = s.dryers := rfl
@[simp] theorem State.setPoint_routes (s : State) (p : Nat) (e : PointE) : (s.setPoint p e).routes = s.routes := rfl

/-! ### setFront -/
@[simp] theorem State.setFront_pending (s : State) (c : Nat) (e : FrontE) : (s.setFront c e).pending = s.pending := rfl
@[simp] theorem State.setFront_free (s : State) (c : Nat) (e : FrontE) : (s.setFront c e).free = s.free := rfl
@[simp] theorem State.setFront_wire (s : State) (c : Nat) (e : FrontE) : (s.setFront c e).wire = s.wire := rfl
@[simp] theorem State.setFront_aon (s : State) (c : Nat) (e : FrontE) : (s.setFront c e).aon = s.aon := rfl
@[simp] theorem State.setFront_pwr (s : State) (c : Nat) (e : FrontE) : (s.setFront c e).pwr = s.pwr := rfl
@[simp] theorem State.setFront_start (s : State) (c : Nat) (e : FrontE) : (s.setFront c e).start = s.start := rfl
@[simp] theorem State.setFront_net (s : State) (c : Nat) (e : FrontE) : (s.setFront c e).net = s.net := rfl
@[simp] theorem State.setFront_spi (s : State) (c : Nat) (e : FrontE) : (s.setFront c e).spi = s.spi := rfl
@[simp] theorem State.setFront_auth (s : State) (c : Nat) (e : FrontE) : (s.setFront c e).auth = s.auth := rfl
@[simp] theorem State.setFront_sess (s : State) (c : Nat) (e : FrontE) : (s.setFront c e).sess = s.sess := rfl
@[simp] theorem State.setFront_host (s : State) (c : Nat) (e : FrontE) : (s.setFront c e).host = s.host := rfl
@[simp] theorem State.setFront_jrnl (s : State) (c : Nat) (e : FrontE) : (s.setFront c e).jrnl = s.jrnl := rfl
@[simp] theorem State.setFront_own (s : State) (c : Nat) (e : FrontE) : (s.setFront c e).own = s.own := rfl
@[simp] theorem State.setFront_fw (s : State) (c : Nat) (e : FrontE) : (s.setFront c e).fw = s.fw := rfl
@[simp] theorem State.setFront_rig (s : State) (c : Nat) (e : FrontE) : (s.setFront c e).rig = s.rig := rfl
@[simp] theorem State.setFront_tt (s : State) (c : Nat) (e : FrontE) : (s.setFront c e).tt = s.tt := rfl
@[simp] theorem State.setFront_hal (s : State) (c : Nat) (e : FrontE) : (s.setFront c e).hal = s.hal := rfl
@[simp] theorem State.setFront_scan (s : State) (c : Nat) (e : FrontE) : (s.setFront c e).scan = s.scan := rfl
@[simp] theorem State.setFront_points (s : State) (c : Nat) (e : FrontE) : (s.setFront c e).points = s.points := rfl
@[simp] theorem State.setFront_cableOvr (s : State) (c : Nat) (e : FrontE) : (s.setFront c e).cableOvr = s.cableOvr := rfl
@[simp] theorem State.setFront_trend (s : State) (c : Nat) (e : FrontE) : (s.setFront c e).trend = s.trend := rfl
@[simp] theorem State.setFront_shv (s : State) (c : Nat) (e : FrontE) : (s.setFront c e).shv = s.shv := rfl
@[simp] theorem State.setFront_io (s : State) (c : Nat) (e : FrontE) : (s.setFront c e).io = s.io := rfl
@[simp] theorem State.setFront_masts (s : State) (c : Nat) (e : FrontE) : (s.setFront c e).masts = s.masts := rfl
@[simp] theorem State.setFront_dryers (s : State) (c : Nat) (e : FrontE) : (s.setFront c e).dryers = s.dryers := rfl
@[simp] theorem State.setFront_routes (s : State) (c : Nat) (e : FrontE) : (s.setFront c e).routes = s.routes := rfl
@[simp] theorem State.setFront_front_other (s : State) (c : Nat) (e : FrontE) (j : Nat) (hj : j ≠ c) : (s.setFront c e).front j = s.front j := Tbl.rd_wr_other _ _ _ _ hj
theorem State.setFront_front_same (s : State) (c : Nat) (e : FrontE) (hw : Tbl.wf FrontE.dflt s.fronts = true) : (s.setFront c e).front c = e := Tbl.rd_wr_same _ _ _ hw

/-! ### setStream -/
@[simp] theorem State.setStream_pending (s : State) (n : Nat) (v : Stream) : (s.setStream n v).pending = s.pending := rfl
@[simp] theorem State.setStream_free (s : State) (n : Nat) (v : Stream) : (s.setStream n v).free = s.free := rfl
@[simp] theorem State.setStream_wire (s : State) (n : Nat) (v : Stream) : (s.setStream n v).wire = s.wire := rfl
@[simp] theorem State.setStream_aon (s : State) (n : Nat) (v : Stream) : (s.setStream n v).aon = s.aon := rfl
@[simp] theorem State.setStream_pwr (s : State) (n : Nat) (v : Stream) : (s.setStream n v).pwr = s.pwr := rfl
@[simp] theorem State.setStream_start (s : State) (n : Nat) (v : Stream) : (s.setStream n v).start = s.start := rfl
@[simp] theorem State.setStream_net (s : State) (n : Nat) (v : Stream) : (s.setStream n v).net = s.net := rfl
@[simp] theorem State.setStream_spi (s : State) (n : Nat) (v : Stream) : (s.setStream n v).spi = s.spi := rfl
@[simp] theorem State.setStream_auth (s : State) (n : Nat) (v : Stream) : (s.setStream n v).auth = s.auth := rfl
@[simp] theorem State.setStream_sess (s : State) (n : Nat) (v : Stream) : (s.setStream n v).sess = s.sess := rfl
@[simp] theorem State.setStream_host (s : State) (n : Nat) (v : Stream) : (s.setStream n v).host = s.host := rfl
@[simp] theorem State.setStream_jrnl (s : State) (n : Nat) (v : Stream) : (s.setStream n v).jrnl = s.jrnl := rfl
@[simp] theorem State.setStream_own (s : State) (n : Nat) (v : Stream) : (s.setStream n v).own = s.own := rfl
@[simp] theorem State.setStream_fw (s : State) (n : Nat) (v : Stream) : (s.setStream n v).fw = s.fw := rfl
@[simp] theorem State.setStream_rig (s : State) (n : Nat) (v : Stream) : (s.setStream n v).rig = s.rig := rfl
@[simp] theorem State.setStream_tt (s : State) (n : Nat) (v : Stream) : (s.setStream n v).tt = s.tt := rfl
@[simp] theorem State.setStream_hal (s : State) (n : Nat) (v : Stream) : (s.setStream n v).hal = s.hal := rfl
@[simp] theorem State.setStream_scan (s : State) (n : Nat) (v : Stream) : (s.setStream n v).scan = s.scan := rfl
@[simp] theorem State.setStream_points (s : State) (n : Nat) (v : Stream) : (s.setStream n v).points = s.points := rfl
@[simp] theorem State.setStream_fronts (s : State) (n : Nat) (v : Stream) : (s.setStream n v).fronts = s.fronts := rfl
@[simp] theorem State.setStream_cableOvr (s : State) (n : Nat) (v : Stream) : (s.setStream n v).cableOvr = s.cableOvr := rfl
@[simp] theorem State.setStream_shv (s : State) (n : Nat) (v : Stream) : (s.setStream n v).shv = s.shv := rfl
@[simp] theorem State.setStream_io (s : State) (n : Nat) (v : Stream) : (s.setStream n v).io = s.io := rfl
@[simp] theorem State.setStream_masts (s : State) (n : Nat) (v : Stream) : (s.setStream n v).masts = s.masts := rfl
@[simp] theorem State.setStream_dryers (s : State) (n : Nat) (v : Stream) : (s.setStream n v).dryers = s.dryers := rfl
@[simp] theorem State.setStream_routes (s : State) (n : Nat) (v : Stream) : (s.setStream n v).routes = s.routes := rfl
@[simp] theorem State.setStream_trend_logs (s : State) (n : Nat) (v : Stream) : (s.setStream n v).trend.logs = s.trend.logs := rfl
@[simp] theorem State.setStream_stream_other (s : State) (n : Nat) (v : Stream) (j : Nat) (hj : j ≠ n) : (s.setStream n v).stream j = s.stream j := Tbl.rd_wr_other _ _ _ _ hj
theorem State.setStream_stream_same (s : State) (n : Nat) (v : Stream) (hw : Tbl.wf Stream.dflt s.trend.streams = true) : (s.setStream n v).stream n = v := Tbl.rd_wr_same _ _ _ hw

/-! ### setCursor -/
@[simp] theorem State.setCursor_pending (s : State) (c : Nat) (v : Cursor) : (s.setCursor c v).pending = s.pending := rfl
@[simp] theorem State.setCursor_free (s : State) (c : Nat) (v : Cursor) : (s.setCursor c v).free = s.free := rfl
@[simp] theorem State.setCursor_wire (s : State) (c : Nat) (v : Cursor) : (s.setCursor c v).wire = s.wire := rfl
@[simp] theorem State.setCursor_aon (s : State) (c : Nat) (v : Cursor) : (s.setCursor c v).aon = s.aon := rfl
@[simp] theorem State.setCursor_pwr (s : State) (c : Nat) (v : Cursor) : (s.setCursor c v).pwr = s.pwr := rfl
@[simp] theorem State.setCursor_start (s : State) (c : Nat) (v : Cursor) : (s.setCursor c v).start = s.start := rfl
@[simp] theorem State.setCursor_net (s : State) (c : Nat) (v : Cursor) : (s.setCursor c v).net = s.net := rfl
@[simp] theorem State.setCursor_spi (s : State) (c : Nat) (v : Cursor) : (s.setCursor c v).spi = s.spi := rfl
@[simp] theorem State.setCursor_auth (s : State) (c : Nat) (v : Cursor) : (s.setCursor c v).auth = s.auth := rfl
@[simp] theorem State.setCursor_sess (s : State) (c : Nat) (v : Cursor) : (s.setCursor c v).sess = s.sess := rfl
@[simp] theorem State.setCursor_host (s : State) (c : Nat) (v : Cursor) : (s.setCursor c v).host = s.host := rfl
@[simp] theorem State.setCursor_jrnl (s : State) (c : Nat) (v : Cursor) : (s.setCursor c v).jrnl = s.jrnl := rfl
@[simp] theorem State.setCursor_own (s : State) (c : Nat) (v : Cursor) : (s.setCursor c v).own = s.own := rfl
@[simp] theorem State.setCursor_fw (s : State) (c : Nat) (v : Cursor) : (s.setCursor c v).fw = s.fw := rfl
@[simp] theorem State.setCursor_rig (s : State) (c : Nat) (v : Cursor) : (s.setCursor c v).rig = s.rig := rfl
@[simp] theorem State.setCursor_hal (s : State) (c : Nat) (v : Cursor) : (s.setCursor c v).hal = s.hal := rfl
@[simp] theorem State.setCursor_scan (s : State) (c : Nat) (v : Cursor) : (s.setCursor c v).scan = s.scan := rfl
@[simp] theorem State.setCursor_points (s : State) (c : Nat) (v : Cursor) : (s.setCursor c v).points = s.points := rfl
@[simp] theorem State.setCursor_fronts (s : State) (c : Nat) (v : Cursor) : (s.setCursor c v).fronts = s.fronts := rfl
@[simp] theorem State.setCursor_cableOvr (s : State) (c : Nat) (v : Cursor) : (s.setCursor c v).cableOvr = s.cableOvr := rfl
@[simp] theorem State.setCursor_trend (s : State) (c : Nat) (v : Cursor) : (s.setCursor c v).trend = s.trend := rfl
@[simp] theorem State.setCursor_shv (s : State) (c : Nat) (v : Cursor) : (s.setCursor c v).shv = s.shv := rfl
@[simp] theorem State.setCursor_io (s : State) (c : Nat) (v : Cursor) : (s.setCursor c v).io = s.io := rfl
@[simp] theorem State.setCursor_masts (s : State) (c : Nat) (v : Cursor) : (s.setCursor c v).masts = s.masts := rfl
@[simp] theorem State.setCursor_dryers (s : State) (c : Nat) (v : Cursor) : (s.setCursor c v).dryers = s.dryers := rfl
@[simp] theorem State.setCursor_routes (s : State) (c : Nat) (v : Cursor) : (s.setCursor c v).routes = s.routes := rfl
@[simp] theorem State.setCursor_tt_next (s : State) (c : Nat) (v : Cursor) : (s.setCursor c v).tt.next = s.tt.next := rfl
@[simp] theorem State.setCursor_tt_oldest (s : State) (c : Nat) (v : Cursor) : (s.setCursor c v).tt.oldest = s.tt.oldest := rfl
@[simp] theorem State.setCursor_tt_ring (s : State) (c : Nat) (v : Cursor) : (s.setCursor c v).tt.ring = s.tt.ring := rfl
@[simp] theorem State.setCursor_tt_fifo (s : State) (c : Nat) (v : Cursor) : (s.setCursor c v).tt.fifo = s.tt.fifo := rfl
@[simp] theorem State.setCursor_tt_lost (s : State) (c : Nat) (v : Cursor) : (s.setCursor c v).tt.lost = s.tt.lost := rfl
@[simp] theorem State.setCursor_tt_lostCode (s : State) (c : Nat) (v : Cursor) : (s.setCursor c v).tt.lostCode = s.tt.lostCode := rfl
@[simp] theorem State.setCursor_tt_lostAt (s : State) (c : Nat) (v : Cursor) : (s.setCursor c v).tt.lostAt = s.tt.lostAt := rfl
@[simp] theorem State.setCursor_tt_stores (s : State) (c : Nat) (v : Cursor) : (s.setCursor c v).tt.stores = s.tt.stores := rfl
@[simp] theorem State.setCursor_tt_buckets (s : State) (c : Nat) (v : Cursor) : (s.setCursor c v).tt.buckets = s.tt.buckets := rfl
@[simp] theorem State.setCursor_tt_limits (s : State) (c : Nat) (v : Cursor) : (s.setCursor c v).tt.limits = s.tt.limits := rfl
@[simp] theorem State.setCursor_tt_lx20 (s : State) (c : Nat) (v : Cursor) : (s.setCursor c v).tt.lx20 = s.tt.lx20 := rfl
@[simp] theorem State.setCursor_tt_offset (s : State) (c : Nat) (v : Cursor) : (s.setCursor c v).tt.offset = s.tt.offset := rfl
@[simp] theorem State.setCursor_tt_stamp (s : State) (c : Nat) (v : Cursor) : (s.setCursor c v).tt.stamp = s.tt.stamp := rfl
@[simp] theorem State.setCursor_cursor_other (s : State) (c : Nat) (v : Cursor) (j : Nat) (hj : j ≠ c) : (s.setCursor c v).cursor j = s.cursor j := Tbl.rd_wr_other _ _ _ _ hj
theorem State.setCursor_cursor_same (s : State) (c : Nat) (v : Cursor) (hw : Tbl.wf Cursor.dflt s.tt.cursors = true) : (s.setCursor c v).cursor c = v := Tbl.rd_wr_same _ _ _ hw

/-! ### setRigBank -/
@[simp] theorem State.setRigBank_pending (s : State) (b : Nat) (v : Bank) : (s.setRigBank b v).pending = s.pending := by unfold State.setRigBank; split <;> rfl
@[simp] theorem State.setRigBank_free (s : State) (b : Nat) (v : Bank) : (s.setRigBank b v).free = s.free := by unfold State.setRigBank; split <;> rfl
@[simp] theorem State.setRigBank_wire (s : State) (b : Nat) (v : Bank) : (s.setRigBank b v).wire = s.wire := by unfold State.setRigBank; split <;> rfl
@[simp] theorem State.setRigBank_aon (s : State) (b : Nat) (v : Bank) : (s.setRigBank b v).aon = s.aon := by unfold State.setRigBank; split <;> rfl
@[simp] theorem State.setRigBank_pwr (s : State) (b : Nat) (v : Bank) : (s.setRigBank b v).pwr = s.pwr := by unfold State.setRigBank; split <;> rfl
@[simp] theorem State.setRigBank_start (s : State) (b : Nat) (v : Bank) : (s.setRigBank b v).start = s.start := by unfold State.setRigBank; split <;> rfl
@[simp] theorem State.setRigBank_net (s : State) (b : Nat) (v : Bank) : (s.setRigBank b v).net = s.net := by unfold State.setRigBank; split <;> rfl
@[simp] theorem State.setRigBank_spi (s : State) (b : Nat) (v : Bank) : (s.setRigBank b v).spi = s.spi := by unfold State.setRigBank; split <;> rfl
@[simp] theorem State.setRigBank_auth (s : State) (b : Nat) (v : Bank) : (s.setRigBank b v).auth = s.auth := by unfold State.setRigBank; split <;> rfl
@[simp] theorem State.setRigBank_sess (s : State) (b : Nat) (v : Bank) : (s.setRigBank b v).sess = s.sess := by unfold State.setRigBank; split <;> rfl
@[simp] theorem State.setRigBank_host (s : State) (b : Nat) (v : Bank) : (s.setRigBank b v).host = s.host := by unfold State.setRigBank; split <;> rfl
@[simp] theorem State.setRigBank_jrnl (s : State) (b : Nat) (v : Bank) : (s.setRigBank b v).jrnl = s.jrnl := by unfold State.setRigBank; split <;> rfl
@[simp] theorem State.setRigBank_own (s : State) (b : Nat) (v : Bank) : (s.setRigBank b v).own = s.own := by unfold State.setRigBank; split <;> rfl
@[simp] theorem State.setRigBank_fw (s : State) (b : Nat) (v : Bank) : (s.setRigBank b v).fw = s.fw := by unfold State.setRigBank; split <;> rfl
@[simp] theorem State.setRigBank_tt (s : State) (b : Nat) (v : Bank) : (s.setRigBank b v).tt = s.tt := by unfold State.setRigBank; split <;> rfl
@[simp] theorem State.setRigBank_hal (s : State) (b : Nat) (v : Bank) : (s.setRigBank b v).hal = s.hal := by unfold State.setRigBank; split <;> rfl
@[simp] theorem State.setRigBank_scan (s : State) (b : Nat) (v : Bank) : (s.setRigBank b v).scan = s.scan := by unfold State.setRigBank; split <;> rfl
@[simp] theorem State.setRigBank_points (s : State) (b : Nat) (v : Bank) : (s.setRigBank b v).points = s.points := by unfold State.setRigBank; split <;> rfl
@[simp] theorem State.setRigBank_fronts (s : State) (b : Nat) (v : Bank) : (s.setRigBank b v).fronts = s.fronts := by unfold State.setRigBank; split <;> rfl
@[simp] theorem State.setRigBank_cableOvr (s : State) (b : Nat) (v : Bank) : (s.setRigBank b v).cableOvr = s.cableOvr := by unfold State.setRigBank; split <;> rfl
@[simp] theorem State.setRigBank_trend (s : State) (b : Nat) (v : Bank) : (s.setRigBank b v).trend = s.trend := by unfold State.setRigBank; split <;> rfl
@[simp] theorem State.setRigBank_shv (s : State) (b : Nat) (v : Bank) : (s.setRigBank b v).shv = s.shv := by unfold State.setRigBank; split <;> rfl
@[simp] theorem State.setRigBank_io (s : State) (b : Nat) (v : Bank) : (s.setRigBank b v).io = s.io := by unfold State.setRigBank; split <;> rfl
@[simp] theorem State.setRigBank_masts (s : State) (b : Nat) (v : Bank) : (s.setRigBank b v).masts = s.masts := by unfold State.setRigBank; split <;> rfl
@[simp] theorem State.setRigBank_dryers (s : State) (b : Nat) (v : Bank) : (s.setRigBank b v).dryers = s.dryers := by unfold State.setRigBank; split <;> rfl
@[simp] theorem State.setRigBank_routes (s : State) (b : Nat) (v : Bank) : (s.setRigBank b v).routes = s.routes := by unfold State.setRigBank; split <;> rfl
@[simp] theorem State.setRigBank_rig_live (s : State) (b : Nat) (v : Bank) : (s.setRigBank b v).rig.live = s.rig.live := by unfold State.setRigBank; split <;> rfl
@[simp] theorem State.setRigBank_rig_delta (s : State) (b : Nat) (v : Bank) : (s.setRigBank b v).rig.delta = s.rig.delta := by unfold State.setRigBank; split <;> rfl
@[simp] theorem State.setRigBank_rig_base (s : State) (b : Nat) (v : Bank) : (s.setRigBank b v).rig.base = s.rig.base := by unfold State.setRigBank; split <;> rfl
@[simp] theorem State.setRigBank_rig_next (s : State) (b : Nat) (v : Bank) : (s.setRigBank b v).rig.next = s.rig.next := by unfold State.setRigBank; split <;> rfl
@[simp] theorem State.setRigBank_rig_version (s : State) (b : Nat) (v : Bank) : (s.setRigBank b v).rig.version = s.rig.version := by unfold State.setRigBank; split <;> rfl
@[simp] theorem State.setRigBank_rig_txn (s : State) (b : Nat) (v : Bank) : (s.setRigBank b v).rig.txn = s.rig.txn := by unfold State.setRigBank; split <;> rfl
@[simp] theorem State.setRigBank_rig_imaged (s : State) (b : Nat) (v : Bank) : (s.setRigBank b v).rig.imaged = s.rig.imaged := by unfold State.setRigBank; split <;> rfl
@[simp] theorem State.setRigBank_rig_pendingDone (s : State) (b : Nat) (v : Bank) : (s.setRigBank b v).rig.pendingDone = s.rig.pendingDone := by unfold State.setRigBank; split <;> rfl

/-! ### setLedger -/
@[simp] theorem State.setLedger_pending (s : State) (m : Nat) (v : Ledger) : (s.setLedger m v).pending = s.pending := rfl
@[simp] theorem State.setLedger_free (s : State) (m : Nat) (v : Ledger) : (s.setLedger m v).free = s.free := rfl
@[simp] theorem State.setLedger_wire (s : State) (m : Nat) (v : Ledger) : (s.setLedger m v).wire = s.wire := rfl
@[simp] theorem State.setLedger_aon (s : State) (m : Nat) (v : Ledger) : (s.setLedger m v).aon = s.aon := rfl
@[simp] theorem State.setLedger_pwr (s : State) (m : Nat) (v : Ledger) : (s.setLedger m v).pwr = s.pwr := rfl
@[simp] theorem State.setLedger_start (s : State) (m : Nat) (v : Ledger) : (s.setLedger m v).start = s.start := rfl
@[simp] theorem State.setLedger_net (s : State) (m : Nat) (v : Ledger) : (s.setLedger m v).net = s.net := rfl
@[simp] theorem State.setLedger_spi (s : State) (m : Nat) (v : Ledger) : (s.setLedger m v).spi = s.spi := rfl
@[simp] theorem State.setLedger_auth (s : State) (m : Nat) (v : Ledger) : (s.setLedger m v).auth = s.auth := rfl
@[simp] theorem State.setLedger_sess (s : State) (m : Nat) (v : Ledger) : (s.setLedger m v).sess = s.sess := rfl
@[simp] theorem State.setLedger_host (s : State) (m : Nat) (v : Ledger) : (s.setLedger m v).host = s.host := rfl
@[simp] theorem State.setLedger_jrnl (s : State) (m : Nat) (v : Ledger) : (s.setLedger m v).jrnl = s.jrnl := rfl
@[simp] theorem State.setLedger_own (s : State) (m : Nat) (v : Ledger) : (s.setLedger m v).own = s.own := rfl
@[simp] theorem State.setLedger_fw (s : State) (m : Nat) (v : Ledger) : (s.setLedger m v).fw = s.fw := rfl
@[simp] theorem State.setLedger_rig (s : State) (m : Nat) (v : Ledger) : (s.setLedger m v).rig = s.rig := rfl
@[simp] theorem State.setLedger_tt (s : State) (m : Nat) (v : Ledger) : (s.setLedger m v).tt = s.tt := rfl
@[simp] theorem State.setLedger_hal (s : State) (m : Nat) (v : Ledger) : (s.setLedger m v).hal = s.hal := rfl
@[simp] theorem State.setLedger_scan (s : State) (m : Nat) (v : Ledger) : (s.setLedger m v).scan = s.scan := rfl
@[simp] theorem State.setLedger_points (s : State) (m : Nat) (v : Ledger) : (s.setLedger m v).points = s.points := rfl
@[simp] theorem State.setLedger_fronts (s : State) (m : Nat) (v : Ledger) : (s.setLedger m v).fronts = s.fronts := rfl
@[simp] theorem State.setLedger_cableOvr (s : State) (m : Nat) (v : Ledger) : (s.setLedger m v).cableOvr = s.cableOvr := rfl
@[simp] theorem State.setLedger_trend (s : State) (m : Nat) (v : Ledger) : (s.setLedger m v).trend = s.trend := rfl
@[simp] theorem State.setLedger_shv (s : State) (m : Nat) (v : Ledger) : (s.setLedger m v).shv = s.shv := rfl
@[simp] theorem State.setLedger_io (s : State) (m : Nat) (v : Ledger) : (s.setLedger m v).io = s.io := rfl
@[simp] theorem State.setLedger_dryers (s : State) (m : Nat) (v : Ledger) : (s.setLedger m v).dryers = s.dryers := rfl
@[simp] theorem State.setLedger_routes (s : State) (m : Nat) (v : Ledger) : (s.setLedger m v).routes = s.routes := rfl
@[simp] theorem State.setLedger_masts_m (s : State) (m : Nat) (v : Ledger) : (s.setLedger m v).masts.m = s.masts.m := rfl
@[simp] theorem State.setLedger_masts_mode (s : State) (m : Nat) (v : Ledger) : (s.setLedger m v).masts.mode = s.masts.mode := rfl
@[simp] theorem State.setLedger_masts_saved (s : State) (m : Nat) (v : Ledger) : (s.setLedger m v).masts.saved = s.masts.saved := rfl
@[simp] theorem State.setLedger_masts_savedAt (s : State) (m : Nat) (v : Ledger) : (s.setLedger m v).masts.savedAt = s.masts.savedAt := rfl
@[simp] theorem State.setLedger_masts_saveUs (s : State) (m : Nat) (v : Ledger) : (s.setLedger m v).masts.saveUs = s.masts.saveUs := rfl
@[simp] theorem State.setLedger_masts_checkS (s : State) (m : Nat) (v : Ledger) : (s.setLedger m v).masts.checkS = s.masts.checkS := rfl
@[simp] theorem State.setLedger_ledger_other (s : State) (m : Nat) (v : Ledger) (j : Nat) (hj : j ≠ m) : (s.setLedger m v).ledger j = s.ledger j := Tbl.rd_wr_other _ _ _ _ hj
theorem State.setLedger_ledger_same (s : State) (m : Nat) (v : Ledger) (hw : Tbl.wf Ledger.dflt s.masts.led = true) : (s.setLedger m v).ledger m = v := Tbl.rd_wr_same _ _ _ hw

/-! ### setCap -/
@[simp] theorem State.setCap_pending (s : State) (b : Nat) (v : CapBuf) : (s.setCap b v).pending = s.pending := rfl
@[simp] theorem State.setCap_free (s : State) (b : Nat) (v : CapBuf) : (s.setCap b v).free = s.free := rfl
@[simp] theorem State.setCap_wire (s : State) (b : Nat) (v : CapBuf) : (s.setCap b v).wire = s.wire := rfl
@[simp] theorem State.setCap_aon (s : State) (b : Nat) (v : CapBuf) : (s.setCap b v).aon = s.aon := rfl
@[simp] theorem State.setCap_pwr (s : State) (b : Nat) (v : CapBuf) : (s.setCap b v).pwr = s.pwr := rfl
@[simp] theorem State.setCap_start (s : State) (b : Nat) (v : CapBuf) : (s.setCap b v).start = s.start := rfl
@[simp] theorem State.setCap_net (s : State) (b : Nat) (v : CapBuf) : (s.setCap b v).net = s.net := rfl
@[simp] theorem State.setCap_spi (s : State) (b : Nat) (v : CapBuf) : (s.setCap b v).spi = s.spi := rfl
@[simp] theorem State.setCap_auth (s : State) (b : Nat) (v : CapBuf) : (s.setCap b v).auth = s.auth := rfl
@[simp] theorem State.setCap_sess (s : State) (b : Nat) (v : CapBuf) : (s.setCap b v).sess = s.sess := rfl
@[simp] theorem State.setCap_host (s : State) (b : Nat) (v : CapBuf) : (s.setCap b v).host = s.host := rfl
@[simp] theorem State.setCap_jrnl (s : State) (b : Nat) (v : CapBuf) : (s.setCap b v).jrnl = s.jrnl := rfl
@[simp] theorem State.setCap_own (s : State) (b : Nat) (v : CapBuf) : (s.setCap b v).own = s.own := rfl
@[simp] theorem State.setCap_fw (s : State) (b : Nat) (v : CapBuf) : (s.setCap b v).fw = s.fw := rfl
@[simp] theorem State.setCap_rig (s : State) (b : Nat) (v : CapBuf) : (s.setCap b v).rig = s.rig := rfl
@[simp] theorem State.setCap_tt (s : State) (b : Nat) (v : CapBuf) : (s.setCap b v).tt = s.tt := rfl
@[simp] theorem State.setCap_hal (s : State) (b : Nat) (v : CapBuf) : (s.setCap b v).hal = s.hal := rfl
@[simp] theorem State.setCap_scan (s : State) (b : Nat) (v : CapBuf) : (s.setCap b v).scan = s.scan := rfl
@[simp] theorem State.setCap_points (s : State) (b : Nat) (v : CapBuf) : (s.setCap b v).points = s.points := rfl
@[simp] theorem State.setCap_fronts (s : State) (b : Nat) (v : CapBuf) : (s.setCap b v).fronts = s.fronts := rfl
@[simp] theorem State.setCap_cableOvr (s : State) (b : Nat) (v : CapBuf) : (s.setCap b v).cableOvr = s.cableOvr := rfl
@[simp] theorem State.setCap_trend (s : State) (b : Nat) (v : CapBuf) : (s.setCap b v).trend = s.trend := rfl
@[simp] theorem State.setCap_io (s : State) (b : Nat) (v : CapBuf) : (s.setCap b v).io = s.io := rfl
@[simp] theorem State.setCap_masts (s : State) (b : Nat) (v : CapBuf) : (s.setCap b v).masts = s.masts := rfl
@[simp] theorem State.setCap_dryers (s : State) (b : Nat) (v : CapBuf) : (s.setCap b v).dryers = s.dryers := rfl
@[simp] theorem State.setCap_routes (s : State) (b : Nat) (v : CapBuf) : (s.setCap b v).routes = s.routes := rfl
@[simp] theorem State.setCap_shv_tick (s : State) (b : Nat) (v : CapBuf) : (s.setCap b v).shv.tick = s.shv.tick := rfl
@[simp] theorem State.setCap_shv_loops (s : State) (b : Nat) (v : CapBuf) : (s.setCap b v).shv.loops = s.shv.loops := rfl
@[simp] theorem State.setCap_shv_ints (s : State) (b : Nat) (v : CapBuf) : (s.setCap b v).shv.ints = s.shv.ints := rfl
@[simp] theorem State.setCap_shv_groups (s : State) (b : Nat) (v : CapBuf) : (s.setCap b v).shv.groups = s.shv.groups := rfl
@[simp] theorem State.setCap_capBuf_other (s : State) (b : Nat) (v : CapBuf) (j : Nat) (hj : j ≠ b) : (s.setCap b v).capBuf j = s.capBuf j := Tbl.rd_wr_other _ _ _ _ hj
theorem State.setCap_capBuf_same (s : State) (b : Nat) (v : CapBuf) (hw : Tbl.wf CapBuf.dflt s.shv.caps = true) : (s.setCap b v).capBuf b = v := Tbl.rd_wr_same _ _ _ hw

/-! ### setDomain -/
@[simp] theorem State.setDomain_pending (s : State) (d : Nat) (v : Domain) : (s.setDomain d v).pending = s.pending := rfl
@[simp] theorem State.setDomain_free (s : State) (d : Nat) (v : Domain) : (s.setDomain d v).free = s.free := rfl
@[simp] theorem State.setDomain_wire (s : State) (d : Nat) (v : Domain) : (s.setDomain d v).wire = s.wire := rfl
@[simp] theorem State.setDomain_aon (s : State) (d : Nat) (v : Domain) : (s.setDomain d v).aon = s.aon := rfl
@[simp] theorem State.setDomain_start (s : State) (d : Nat) (v : Domain) : (s.setDomain d v).start = s.start := rfl
@[simp] theorem State.setDomain_net (s : State) (d : Nat) (v : Domain) : (s.setDomain d v).net = s.net := rfl
@[simp] theorem State.setDomain_spi (s : State) (d : Nat) (v : Domain) : (s.setDomain d v).spi = s.spi := rfl
@[simp] theorem State.setDomain_auth (s : State) (d : Nat) (v : Domain) : (s.setDomain d v).auth = s.auth := rfl
@[simp] theorem State.setDomain_sess (s : State) (d : Nat) (v : Domain) : (s.setDomain d v).sess = s.sess := rfl
@[simp] theorem State.setDomain_host (s : State) (d : Nat) (v : Domain) : (s.setDomain d v).host = s.host := rfl
@[simp] theorem State.setDomain_jrnl (s : State) (d : Nat) (v : Domain) : (s.setDomain d v).jrnl = s.jrnl := rfl
@[simp] theorem State.setDomain_own (s : State) (d : Nat) (v : Domain) : (s.setDomain d v).own = s.own := rfl
@[simp] theorem State.setDomain_fw (s : State) (d : Nat) (v : Domain) : (s.setDomain d v).fw = s.fw := rfl
@[simp] theorem State.setDomain_rig (s : State) (d : Nat) (v : Domain) : (s.setDomain d v).rig = s.rig := rfl
@[simp] theorem State.setDomain_tt (s : State) (d : Nat) (v : Domain) : (s.setDomain d v).tt = s.tt := rfl
@[simp] theorem State.setDomain_hal (s : State) (d : Nat) (v : Domain) : (s.setDomain d v).hal = s.hal := rfl
@[simp] theorem State.setDomain_scan (s : State) (d : Nat) (v : Domain) : (s.setDomain d v).scan = s.scan := rfl
@[simp] theorem State.setDomain_points (s : State) (d : Nat) (v : Domain) : (s.setDomain d v).points = s.points := rfl
@[simp] theorem State.setDomain_fronts (s : State) (d : Nat) (v : Domain) : (s.setDomain d v).fronts = s.fronts := rfl
@[simp] theorem State.setDomain_cableOvr (s : State) (d : Nat) (v : Domain) : (s.setDomain d v).cableOvr = s.cableOvr := rfl
@[simp] theorem State.setDomain_trend (s : State) (d : Nat) (v : Domain) : (s.setDomain d v).trend = s.trend := rfl
@[simp] theorem State.setDomain_shv (s : State) (d : Nat) (v : Domain) : (s.setDomain d v).shv = s.shv := rfl
@[simp] theorem State.setDomain_io (s : State) (d : Nat) (v : Domain) : (s.setDomain d v).io = s.io := rfl
@[simp] theorem State.setDomain_masts (s : State) (d : Nat) (v : Domain) : (s.setDomain d v).masts = s.masts := rfl
@[simp] theorem State.setDomain_dryers (s : State) (d : Nat) (v : Domain) : (s.setDomain d v).dryers = s.dryers := rfl
@[simp] theorem State.setDomain_routes (s : State) (d : Nat) (v : Domain) : (s.setDomain d v).routes = s.routes := rfl
@[simp] theorem State.setDomain_pwr_phase (s : State) (d : Nat) (v : Domain) : (s.setDomain d v).pwr.phase = s.pwr.phase := rfl
@[simp] theorem State.setDomain_pwr_vsup (s : State) (d : Nat) (v : Domain) : (s.setDomain d v).pwr.vsup = s.pwr.vsup := rfl
@[simp] theorem State.setDomain_pwr_vio (s : State) (d : Nat) (v : Domain) : (s.setDomain d v).pwr.vio = s.pwr.vio := rfl
@[simp] theorem State.setDomain_pwr_vhal (s : State) (d : Nat) (v : Domain) : (s.setDomain d v).pwr.vhal = s.pwr.vhal := rfl
@[simp] theorem State.setDomain_pwr_vdio (s : State) (d : Nat) (v : Domain) : (s.setDomain d v).pwr.vdio = s.pwr.vdio := rfl
@[simp] theorem State.setDomain_pwr_vbb (s : State) (d : Nat) (v : Domain) : (s.setDomain d v).pwr.vbb = s.pwr.vbb := rfl
@[simp] theorem State.setDomain_pwr_sag (s : State) (d : Nat) (v : Domain) : (s.setDomain d v).pwr.sag = s.pwr.sag := rfl
@[simp] theorem State.setDomain_pwr_sagAt (s : State) (d : Nat) (v : Domain) : (s.setDomain d v).pwr.sagAt = s.pwr.sagAt := rfl
@[simp] theorem State.setDomain_pwr_sags (s : State) (d : Nat) (v : Domain) : (s.setDomain d v).pwr.sags = s.pwr.sags := rfl
@[simp] theorem State.setDomain_pwr_vioLow (s : State) (d : Nat) (v : Domain) : (s.setDomain d v).pwr.vioLow = s.pwr.vioLow := rfl
@[simp] theorem State.setDomain_pwr_xt25Fail (s : State) (d : Nat) (v : Domain) : (s.setDomain d v).pwr.xt25Fail = s.pwr.xt25Fail := rfl
@[simp] theorem State.setDomain_pwr_xt32Fail (s : State) (d : Nat) (v : Domain) : (s.setDomain d v).pwr.xt32Fail = s.pwr.xt32Fail := rfl
@[simp] theorem State.setDomain_pwr_capMw (s : State) (d : Nat) (v : Domain) : (s.setDomain d v).pwr.capMw = s.pwr.capMw := rfl
@[simp] theorem State.setDomain_pwr_statsFrom (s : State) (d : Nat) (v : Domain) : (s.setDomain d v).pwr.statsFrom = s.pwr.statsFrom := rfl
@[simp] theorem State.setDomain_pwr_bsnSeen (s : State) (d : Nat) (v : Domain) : (s.setDomain d v).pwr.bsnSeen = s.pwr.bsnSeen := rfl
@[simp] theorem State.setDomain_pwr_nvmSeen (s : State) (d : Nat) (v : Domain) : (s.setDomain d v).pwr.nvmSeen = s.pwr.nvmSeen := rfl
@[simp] theorem State.setDomain_pwr_saveDone (s : State) (d : Nat) (v : Domain) : (s.setDomain d v).pwr.saveDone = s.pwr.saveDone := rfl
@[simp] theorem State.setDomain_pwr_nrstLow (s : State) (d : Nat) (v : Domain) : (s.setDomain d v).pwr.nrstLow = s.pwr.nrstLow := rfl
@[simp] theorem State.setDomain_pwr_pgood (s : State) (d : Nat) (v : Domain) : (s.setDomain d v).pwr.pgood = s.pwr.pgood := rfl
@[simp] theorem State.setDomain_pwr_coldKind (s : State) (d : Nat) (v : Domain) : (s.setDomain d v).pwr.coldKind = s.pwr.coldKind := rfl
@[simp] theorem State.setDomain_domain_other (s : State) (d : Nat) (v : Domain) (j : Nat) (hj : j ≠ d) : (s.setDomain d v).domain j = s.domain j := Tbl.rd_wr_other _ _ _ _ hj
theorem State.setDomain_domain_same (s : State) (d : Nat) (v : Domain) (hw : Tbl.wf Domain.dflt s.pwr.domains = true) : (s.setDomain d v).domain d = v := Tbl.rd_wr_same _ _ _ hw

/-! ### setFwSlot -/
@[simp] theorem State.setFwSlot_pending (s : State) (i : Nat) (v : FwSlot) : (s.setFwSlot i v).pending = s.pending := by unfold State.setFwSlot; split <;> rfl
@[simp] theorem State.setFwSlot_free (s : State) (i : Nat) (v : FwSlot) : (s.setFwSlot i v).free = s.free := by unfold State.setFwSlot; split <;> rfl
@[simp] theorem State.setFwSlot_wire (s : State) (i : Nat) (v : FwSlot) : (s.setFwSlot i v).wire = s.wire := by unfold State.setFwSlot; split <;> rfl
@[simp] theorem State.setFwSlot_aon (s : State) (i : Nat) (v : FwSlot) : (s.setFwSlot i v).aon = s.aon := by unfold State.setFwSlot; split <;> rfl
@[simp] theorem State.setFwSlot_pwr (s : State) (i : Nat) (v : FwSlot) : (s.setFwSlot i v).pwr = s.pwr := by unfold State.setFwSlot; split <;> rfl
@[simp] theorem State.setFwSlot_start (s : State) (i : Nat) (v : FwSlot) : (s.setFwSlot i v).start = s.start := by unfold State.setFwSlot; split <;> rfl
@[simp] theorem State.setFwSlot_net (s : State) (i : Nat) (v : FwSlot) : (s.setFwSlot i v).net = s.net := by unfold State.setFwSlot; split <;> rfl
@[simp] theorem State.setFwSlot_spi (s : State) (i : Nat) (v : FwSlot) : (s.setFwSlot i v).spi = s.spi := by unfold State.setFwSlot; split <;> rfl
@[simp] theorem State.setFwSlot_auth (s : State) (i : Nat) (v : FwSlot) : (s.setFwSlot i v).auth = s.auth := by unfold State.setFwSlot; split <;> rfl
@[simp] theorem State.setFwSlot_sess (s : State) (i : Nat) (v : FwSlot) : (s.setFwSlot i v).sess = s.sess := by unfold State.setFwSlot; split <;> rfl
@[simp] theorem State.setFwSlot_host (s : State) (i : Nat) (v : FwSlot) : (s.setFwSlot i v).host = s.host := by unfold State.setFwSlot; split <;> rfl
@[simp] theorem State.setFwSlot_jrnl (s : State) (i : Nat) (v : FwSlot) : (s.setFwSlot i v).jrnl = s.jrnl := by unfold State.setFwSlot; split <;> rfl
@[simp] theorem State.setFwSlot_own (s : State) (i : Nat) (v : FwSlot) : (s.setFwSlot i v).own = s.own := by unfold State.setFwSlot; split <;> rfl
@[simp] theorem State.setFwSlot_rig (s : State) (i : Nat) (v : FwSlot) : (s.setFwSlot i v).rig = s.rig := by unfold State.setFwSlot; split <;> rfl
@[simp] theorem State.setFwSlot_tt (s : State) (i : Nat) (v : FwSlot) : (s.setFwSlot i v).tt = s.tt := by unfold State.setFwSlot; split <;> rfl
@[simp] theorem State.setFwSlot_hal (s : State) (i : Nat) (v : FwSlot) : (s.setFwSlot i v).hal = s.hal := by unfold State.setFwSlot; split <;> rfl
@[simp] theorem State.setFwSlot_scan (s : State) (i : Nat) (v : FwSlot) : (s.setFwSlot i v).scan = s.scan := by unfold State.setFwSlot; split <;> rfl
@[simp] theorem State.setFwSlot_points (s : State) (i : Nat) (v : FwSlot) : (s.setFwSlot i v).points = s.points := by unfold State.setFwSlot; split <;> rfl
@[simp] theorem State.setFwSlot_fronts (s : State) (i : Nat) (v : FwSlot) : (s.setFwSlot i v).fronts = s.fronts := by unfold State.setFwSlot; split <;> rfl
@[simp] theorem State.setFwSlot_cableOvr (s : State) (i : Nat) (v : FwSlot) : (s.setFwSlot i v).cableOvr = s.cableOvr := by unfold State.setFwSlot; split <;> rfl
@[simp] theorem State.setFwSlot_trend (s : State) (i : Nat) (v : FwSlot) : (s.setFwSlot i v).trend = s.trend := by unfold State.setFwSlot; split <;> rfl
@[simp] theorem State.setFwSlot_shv (s : State) (i : Nat) (v : FwSlot) : (s.setFwSlot i v).shv = s.shv := by unfold State.setFwSlot; split <;> rfl
@[simp] theorem State.setFwSlot_io (s : State) (i : Nat) (v : FwSlot) : (s.setFwSlot i v).io = s.io := by unfold State.setFwSlot; split <;> rfl
@[simp] theorem State.setFwSlot_masts (s : State) (i : Nat) (v : FwSlot) : (s.setFwSlot i v).masts = s.masts := by unfold State.setFwSlot; split <;> rfl
@[simp] theorem State.setFwSlot_dryers (s : State) (i : Nat) (v : FwSlot) : (s.setFwSlot i v).dryers = s.dryers := by unfold State.setFwSlot; split <;> rfl
@[simp] theorem State.setFwSlot_routes (s : State) (i : Nat) (v : FwSlot) : (s.setFwSlot i v).routes = s.routes := by unfold State.setFwSlot; split <;> rfl
@[simp] theorem State.setFwSlot_fw_upd (s : State) (i : Nat) (v : FwSlot) : (s.setFwSlot i v).fw.upd = s.fw.upd := by unfold State.setFwSlot; split <;> rfl
@[simp] theorem State.setFwSlot_fw_running (s : State) (i : Nat) (v : FwSlot) : (s.setFwSlot i v).fw.running = s.fw.running := by unfold State.setFwSlot; split <;> rfl
@[simp] theorem State.setFwSlot_fw_marked (s : State) (i : Nat) (v : FwSlot) : (s.setFwSlot i v).fw.marked = s.fw.marked := by unfold State.setFwSlot; split <;> rfl
@[simp] theorem State.setFwSlot_fw_version (s : State) (i : Nat) (v : FwSlot) : (s.setFwSlot i v).fw.version = s.fw.version := by unfold State.setFwSlot; split <;> rfl
@[simp] theorem State.setFwSlot_fw_floor (s : State) (i : Nat) (v : FwSlot) : (s.setFwSlot i v).fw.floor = s.fw.floor := by unfold State.setFwSlot; split <;> rfl

end Sys2Proof.Machine
end

