-- ==== Sys2Proof/Laws/Ops.lean ====
section
/-! SUPPORT. What the shared operations can do: which parts of the state each of them writes. -/
namespace Sys2Proof.Machine

/-- A part of the state is left alone by every step of a list. -/
theorem forAll_same {α β : Type} (g : State → β) (l : List α) (f : α → State → State) (h : ∀ a s, g (f a s) = g s) (s : State) :
    g (forAll l f s) = g s := by
  unfold forAll
  induction l generalizing s with
  | nil => rfl
  | cons a l ih => rw [List.foldl_cons, ih, h]

/-- Steps that write one part only write that part only, one after the other. -/
theorem forAll_tt {α : Type} (l : List α) (f : α → State → State) (h : ∀ a s, f a s = { s with tt := (f a s).tt }) (s : State) :
    forAll l f s = { s with tt := (forAll l f s).tt } := by
  unfold forAll
  induction l generalizing s with
  | nil => rfl
  | cons a l ih => rw [List.foldl_cons, ih, h]

theorem forAll_jrnl {α : Type} (l : List α) (f : α → State → State)
    (h : ∀ a s, f a s = { s with jrnl := (f a s).jrnl, sess := (f a s).sess })
    (s : State) : forAll l f s = { s with jrnl := (forAll l f s).jrnl, sess := (forAll l f s).sess } := by
  unfold forAll
  induction l generalizing s with
  | nil => rfl
  | cons a l ih => rw [List.foldl_cons, ih, h]

theorem forAll_own {α : Type} (l : List α) (f : α → State → State) (h : ∀ a s, f a s = { s with own := (f a s).own })
    (s : State) : forAll l f s = { s with own := (forAll l f s).own } := by
  unfold forAll
  induction l generalizing s with
  | nil => rfl
  | cons a l ih => rw [List.foldl_cons, ih, h]

/-! ## Telltale occurrences write the Telltale (R347 to R349) -/

theorem ttLose_only (code : Nat) (s : State) : ttLose code s = { s with tt := (ttLose code s).tt } := by
  unfold ttLose
  split <;> rfl

theorem ttEnter_only (stamp code source : Nat) (data : Bytes) (s : State) :
    ttEnter stamp code source data s = { s with tt := (ttEnter stamp code source data s).tt } := by
  unfold ttEnter
  split
  · rfl
  · exact ttLose_only code s

theorem ttLimit_only (stamp code source : Nat) (data : Bytes) (s : State) :
    ttLimit stamp code source data s = { s with tt := (ttLimit stamp code source data s).tt } := by
  unfold ttLimit
  split
  · exact ttEnter_only stamp code source data s
  · dsimp only
    split
    · rw [ttEnter_only]
      rfl
    · rfl

theorem ttOccur_only (die code source : Nat) (data : Bytes) (s : State) :
    ttOccur die code source data s = { s with tt := (ttOccur die code source data s).tt } := by
  unfold ttOccur
  split
  · rfl
  · exact ttLimit_only _ _ _ _ s
  · split
    · rfl
    · dsimp only
      split
      · rfl
      · exact ttLose_only code s

@[simp] theorem ttOccur_pending (die code source : Nat) (data : Bytes) (s : State) : (ttOccur die code source data s).pending = s.pending := by rw [ttOccur_only]
@[simp] theorem ttOccur_free (die code source : Nat) (data : Bytes) (s : State) : (ttOccur die code source data s).free = s.free := by rw [ttOccur_only]
@[simp] theorem ttOccur_wire (die code source : Nat) (data : Bytes) (s : State) : (ttOccur die code source data s).wire = s.wire := by rw [ttOccur_only]
@[simp] theorem ttOccur_aon (die code source : Nat) (data : Bytes) (s : State) : (ttOccur die code source data s).aon = s.aon := by rw [ttOccur_only]
@[simp] theorem ttOccur_pwr (die code source : Nat) (data : Bytes) (s : State) : (ttOccur die code source data s).pwr = s.pwr := by rw [ttOccur_only]
@[simp] theorem ttOccur_start (die code source : Nat) (data : Bytes) (s : State) : (ttOccur die code source data s).start = s.start := by rw [ttOccur_only]
@[simp] theorem ttOccur_net (die code source : Nat) (data : Bytes) (s : State) : (ttOccur die code source data s).net = s.net := by rw [ttOccur_only]
@[simp] theorem ttOccur_spi (die code source : Nat) (data : Bytes) (s : State) : (ttOccur die code source data s).spi = s.spi := by rw [ttOccur_only]
@[simp] theorem ttOccur_auth (die code source : Nat) (data : Bytes) (s : State) : (ttOccur die code source data s).auth = s.auth := by rw [ttOccur_only]
@[simp] theorem ttOccur_sess (die code source : Nat) (data : Bytes) (s : State) : (ttOccur die code source data s).sess = s.sess := by rw [ttOccur_only]
@[simp] theorem ttOccur_host (die code source : Nat) (data : Bytes) (s : State) : (ttOccur die code source data s).host = s.host := by rw [ttOccur_only]
@[simp] theorem ttOccur_jrnl (die code source : Nat) (data : Bytes) (s : State) : (ttOccur die code source data s).jrnl = s.jrnl := by rw [ttOccur_only]
@[simp] theorem ttOccur_own (die code source : Nat) (data : Bytes) (s : State) : (ttOccur die code source data s).own = s.own := by rw [ttOccur_only]
@[simp] theorem ttOccur_fw (die code source : Nat) (data : Bytes) (s : State) : (ttOccur die code source data s).fw = s.fw := by rw [ttOccur_only]
@[simp] theorem ttOccur_rig (die code source : Nat) (data : Bytes) (s : State) : (ttOccur die code source data s).rig = s.rig := by rw [ttOccur_only]
@[simp] theorem ttOccur_hal (die code source : Nat) (data : Bytes) (s : State) : (ttOccur die code source data s).hal = s.hal := by rw [ttOccur_only]
@[simp] theorem ttOccur_scan (die code source : Nat) (data : Bytes) (s : State) : (ttOccur die code source data s).scan = s.scan := by rw [ttOccur_only]
@[simp] theorem ttOccur_points (die code source : Nat) (data : Bytes) (s : State) : (ttOccur die code source data s).points = s.points := by rw [ttOccur_only]
@[simp] theorem ttOccur_fronts (die code source : Nat) (data : Bytes) (s : State) : (ttOccur die code source data s).fronts = s.fronts := by rw [ttOccur_only]
@[simp] theorem ttOccur_cableOvr (die code source : Nat) (data : Bytes) (s : State) : (ttOccur die code source data s).cableOvr = s.cableOvr := by rw [ttOccur_only]
@[simp] theorem ttOccur_trend (die code source : Nat) (data : Bytes) (s : State) : (ttOccur die code source data s).trend = s.trend := by rw [ttOccur_only]
@[simp] theorem ttOccur_shv (die code source : Nat) (data : Bytes) (s : State) : (ttOccur die code source data s).shv = s.shv := by rw [ttOccur_only]
@[simp] theorem ttOccur_io (die code source : Nat) (data : Bytes) (s : State) : (ttOccur die code source data s).io = s.io := by rw [ttOccur_only]
@[simp] theorem ttOccur_masts (die code source : Nat) (data : Bytes) (s : State) : (ttOccur die code source data s).masts = s.masts := by rw [ttOccur_only]
@[simp] theorem ttOccur_dryers (die code source : Nat) (data : Bytes) (s : State) : (ttOccur die code source data s).dryers = s.dryers := by rw [ttOccur_only]
@[simp] theorem ttOccur_routes (die code source : Nat) (data : Bytes) (s : State) : (ttOccur die code source data s).routes = s.routes := by rw [ttOccur_only]

/-! ## The journal writes the journal and the sessions' windows (R108 to R113) -/

theorem jWrite_only (e : JEntry) (s : State) : jWrite e s = { s with jrnl := (jWrite e s).jrnl, sess := (jWrite e s).sess } := by
  unfold jWrite tailWrite
  dsimp only
  split
  · split <;> rfl
  · rfl

theorem jAdmit_only (c : Cmd) (n : Nat) (m : Bool) (s : State) :
    jAdmit c n m s = { s with jrnl := (jAdmit c n m s).jrnl, sess := (jAdmit c n m s).sess } :=
  forAll_jrnl _ _ jWrite_only s

theorem jClose_only (j st status : Nat) (os : List Nat) (s : State) :
    jClose j st status os s = { s with jrnl := (jClose j st status os s).jrnl, sess := (jClose j st status os s).sess } := by
  unfold jClose
  dsimp only
  split
  · exact forAll_jrnl _ _ jWrite_only s
  · rfl

theorem jDevice_only (kind sess slot reason : Nat) (s : State) :
    jDevice kind sess slot reason s =
      { s with jrnl := (jDevice kind sess slot reason s).jrnl, sess := (jDevice kind sess slot reason s).sess } :=
  jWrite_only _ s

@[simp] theorem jAdmit_pending (c : Cmd) (n : Nat) (m : Bool) (s : State) : (jAdmit c n m s).pending = s.pending := by rw [jAdmit_only]
@[simp] theorem jAdmit_free (c : Cmd) (n : Nat) (m : Bool) (s : State) : (jAdmit c n m s).free = s.free := by rw [jAdmit_only]
@[simp] theorem jAdmit_wire (c : Cmd) (n : Nat) (m : Bool) (s : State) : (jAdmit c n m s).wire = s.wire := by rw [jAdmit_only]
@[simp] theorem jAdmit_aon (c : Cmd) (n : Nat) (m : Bool) (s : State) : (jAdmit c n m s).aon = s.aon := by rw [jAdmit_only]
@[simp] theorem jAdmit_pwr (c : Cmd) (n : Nat) (m : Bool) (s : State) : (jAdmit c n m s).pwr = s.pwr := by rw [jAdmit_only]
@[simp] theorem jAdmit_start (c : Cmd) (n : Nat) (m : Bool) (s : State) : (jAdmit c n m s).start = s.start := by rw [jAdmit_only]
@[simp] theorem jAdmit_net (c : Cmd) (n : Nat) (m : Bool) (s : State) : (jAdmit c n m s).net = s.net := by rw [jAdmit_only]
@[simp] theorem jAdmit_spi (c : Cmd) (n : Nat) (m : Bool) (s : State) : (jAdmit c n m s).spi = s.spi := by rw [jAdmit_only]
@[simp] theorem jAdmit_auth (c : Cmd) (n : Nat) (m : Bool) (s : State) : (jAdmit c n m s).auth = s.auth := by rw [jAdmit_only]
@[simp] theorem jAdmit_host (c : Cmd) (n : Nat) (m : Bool) (s : State) : (jAdmit c n m s).host = s.host := by rw [jAdmit_only]
@[simp] theorem jAdmit_own (c : Cmd) (n : Nat) (m : Bool) (s : State) : (jAdmit c n m s).own = s.own := by rw [jAdmit_only]
@[simp] theorem jAdmit_fw (c : Cmd) (n : Nat) (m : Bool) (s : State) : (jAdmit c n m s).fw = s.fw := by rw [jAdmit_only]
@[simp] theorem jAdmit_rig (c : Cmd) (n : Nat) (m : Bool) (s : State) : (jAdmit c n m s).rig = s.rig := by rw [jAdmit_only]
@[simp] theorem jAdmit_tt (c : Cmd) (n : Nat) (m : Bool) (s : State) : (jAdmit c n m s).tt = s.tt := by rw [jAdmit_only]
@[simp] theorem jAdmit_hal (c : Cmd) (n : Nat) (m : Bool) (s : State) : (jAdmit c n m s).hal = s.hal := by rw [jAdmit_only]
@[simp] theorem jAdmit_scan (c : Cmd) (n : Nat) (m : Bool) (s : State) : (jAdmit c n m s).scan = s.scan := by rw [jAdmit_only]
@[simp] theorem jAdmit_points (c : Cmd) (n : Nat) (m : Bool) (s : State) : (jAdmit c n m s).points = s.points := by rw [jAdmit_only]
@[simp] theorem jAdmit_fronts (c : Cmd) (n : Nat) (m : Bool) (s : State) : (jAdmit c n m s).fronts = s.fronts := by rw [jAdmit_only]
@[simp] theorem jAdmit_cableOvr (c : Cmd) (n : Nat) (m : Bool) (s : State) : (jAdmit c n m s).cableOvr = s.cableOvr := by rw [jAdmit_only]
@[simp] theorem jAdmit_trend (c : Cmd) (n : Nat) (m : Bool) (s : State) : (jAdmit c n m s).trend = s.trend := by rw [jAdmit_only]
@[simp] theorem jAdmit_shv (c : Cmd) (n : Nat) (m : Bool) (s : State) : (jAdmit c n m s).shv = s.shv := by rw [jAdmit_only]
@[simp] theorem jAdmit_io (c : Cmd) (n : Nat) (m : Bool) (s : State) : (jAdmit c n m s).io = s.io := by rw [jAdmit_only]
@[simp] theorem jAdmit_masts (c : Cmd) (n : Nat) (m : Bool) (s : State) : (jAdmit c n m s).masts = s.masts := by rw [jAdmit_only]
@[simp] theorem jAdmit_dryers (c : Cmd) (n : Nat) (m : Bool) (s : State) : (jAdmit c n m s).dryers = s.dryers := by rw [jAdmit_only]
@[simp] theorem jAdmit_routes (c : Cmd) (n : Nat) (m : Bool) (s : State) : (jAdmit c n m s).routes = s.routes := by rw [jAdmit_only]
@[simp] theorem jClose_pending (j st status : Nat) (os : List Nat) (s : State) : (jClose j st status os s).pending = s.pending := by rw [jClose_only]
@[simp] theorem jClose_free (j st status : Nat) (os : List Nat) (s : State) : (jClose j st status os s).free = s.free := by rw [jClose_only]
@[simp] theorem jClose_wire (j st status : Nat) (os : List Nat) (s : State) : (jClose j st status os s).wire = s.wire := by rw [jClose_only]
@[simp] theorem jClose_aon (j st status : Nat) (os : List Nat) (s : State) : (jClose j st status os s).aon = s.aon := by rw [jClose_only]
@[simp] theorem jClose_pwr (j st status : Nat) (os : List Nat) (s : State) : (jClose j st status os s).pwr = s.pwr := by rw [jClose_only]
@[simp] theorem jClose_start (j st status : Nat) (os : List Nat) (s : State) : (jClose j st status os s).start = s.start := by rw [jClose_only]
@[simp] theorem jClose_net (j st status : Nat) (os : List Nat) (s : State) : (jClose j st status os s).net = s.net := by rw [jClose_only]
@[simp] theorem jClose_spi (j st status : Nat) (os : List Nat) (s : State) : (jClose j st status os s).spi = s.spi := by rw [jClose_only]
@[simp] theorem jClose_auth (j st status : Nat) (os : List Nat) (s : State) : (jClose j st status os s).auth = s.auth := by rw [jClose_only]
@[simp] theorem jClose_host (j st status : Nat) (os : List Nat) (s : State) : (jClose j st status os s).host = s.host := by rw [jClose_only]
@[simp] theorem jClose_own (j st status : Nat) (os : List Nat) (s : State) : (jClose j st status os s).own = s.own := by rw [jClose_only]
@[simp] theorem jClose_fw (j st status : Nat) (os : List Nat) (s : State) : (jClose j st status os s).fw = s.fw := by rw [jClose_only]
@[simp] theorem jClose_rig (j st status : Nat) (os : List Nat) (s : State) : (jClose j st status os s).rig = s.rig := by rw [jClose_only]
@[simp] theorem jClose_tt (j st status : Nat) (os : List Nat) (s : State) : (jClose j st status os s).tt = s.tt := by rw [jClose_only]
@[simp] theorem jClose_hal (j st status : Nat) (os : List Nat) (s : State) : (jClose j st status os s).hal = s.hal := by rw [jClose_only]
@[simp] theorem jClose_scan (j st status : Nat) (os : List Nat) (s : State) : (jClose j st status os s).scan = s.scan := by rw [jClose_only]
@[simp] theorem jClose_points (j st status : Nat) (os : List Nat) (s : State) : (jClose j st status os s).points = s.points := by rw [jClose_only]
@[simp] theorem jClose_fronts (j st status : Nat) (os : List Nat) (s : State) : (jClose j st status os s).fronts = s.fronts := by rw [jClose_only]
@[simp] theorem jClose_cableOvr (j st status : Nat) (os : List Nat) (s : State) : (jClose j st status os s).cableOvr = s.cableOvr := by rw [jClose_only]
@[simp] theorem jClose_trend (j st status : Nat) (os : List Nat) (s : State) : (jClose j st status os s).trend = s.trend := by rw [jClose_only]
@[simp] theorem jClose_shv (j st status : Nat) (os : List Nat) (s : State) : (jClose j st status os s).shv = s.shv := by rw [jClose_only]
@[simp] theorem jClose_io (j st status : Nat) (os : List Nat) (s : State) : (jClose j st status os s).io = s.io := by rw [jClose_only]
@[simp] theorem jClose_masts (j st status : Nat) (os : List Nat) (s : State) : (jClose j st status os s).masts = s.masts := by rw [jClose_only]
@[simp] theorem jClose_dryers (j st status : Nat) (os : List Nat) (s : State) : (jClose j st status os s).dryers = s.dryers := by rw [jClose_only]
@[simp] theorem jClose_routes (j st status : Nat) (os : List Nat) (s : State) : (jClose j st status os s).routes = s.routes := by rw [jClose_only]
@[simp] theorem jDevice_pending (kind sess slot reason : Nat) (s : State) : (jDevice kind sess slot reason s).pending = s.pending := by rw [jDevice_only]
@[simp] theorem jDevice_free (kind sess slot reason : Nat) (s : State) : (jDevice kind sess slot reason s).free = s.free := by rw [jDevice_only]
@[simp] theorem jDevice_wire (kind sess slot reason : Nat) (s : State) : (jDevice kind sess slot reason s).wire = s.wire := by rw [jDevice_only]
@[simp] theorem jDevice_aon (kind sess slot reason : Nat) (s : State) : (jDevice kind sess slot reason s).aon = s.aon := by rw [jDevice_only]
@[simp] theorem jDevice_pwr (kind sess slot reason : Nat) (s : State) : (jDevice kind sess slot reason s).pwr = s.pwr := by rw [jDevice_only]
@[simp] theorem jDevice_start (kind sess slot reason : Nat) (s : State) : (jDevice kind sess slot reason s).start = s.start := by rw [jDevice_only]
@[simp] theorem jDevice_net (kind sess slot reason : Nat) (s : State) : (jDevice kind sess slot reason s).net = s.net := by rw [jDevice_only]
@[simp] theorem jDevice_spi (kind sess slot reason : Nat) (s : State) : (jDevice kind sess slot reason s).spi = s.spi := by rw [jDevice_only]
@[simp] theorem jDevice_auth (kind sess slot reason : Nat) (s : State) : (jDevice kind sess slot reason s).auth = s.auth := by rw [jDevice_only]
@[simp] theorem jDevice_host (kind sess slot reason : Nat) (s : State) : (jDevice kind sess slot reason s).host = s.host := by rw [jDevice_only]
@[simp] theorem jDevice_own (kind sess slot reason : Nat) (s : State) : (jDevice kind sess slot reason s).own = s.own := by rw [jDevice_only]
@[simp] theorem jDevice_fw (kind sess slot reason : Nat) (s : State) : (jDevice kind sess slot reason s).fw = s.fw := by rw [jDevice_only]
@[simp] theorem jDevice_rig (kind sess slot reason : Nat) (s : State) : (jDevice kind sess slot reason s).rig = s.rig := by rw [jDevice_only]
@[simp] theorem jDevice_tt (kind sess slot reason : Nat) (s : State) : (jDevice kind sess slot reason s).tt = s.tt := by rw [jDevice_only]
@[simp] theorem jDevice_hal (kind sess slot reason : Nat) (s : State) : (jDevice kind sess slot reason s).hal = s.hal := by rw [jDevice_only]
@[simp] theorem jDevice_scan (kind sess slot reason : Nat) (s : State) : (jDevice kind sess slot reason s).scan = s.scan := by rw [jDevice_only]
@[simp] theorem jDevice_points (kind sess slot reason : Nat) (s : State) : (jDevice kind sess slot reason s).points = s.points := by rw [jDevice_only]
@[simp] theorem jDevice_fronts (kind sess slot reason : Nat) (s : State) : (jDevice kind sess slot reason s).fronts = s.fronts := by rw [jDevice_only]
@[simp] theorem jDevice_cableOvr (kind sess slot reason : Nat) (s : State) : (jDevice kind sess slot reason s).cableOvr = s.cableOvr := by rw [jDevice_only]
@[simp] theorem jDevice_trend (kind sess slot reason : Nat) (s : State) : (jDevice kind sess slot reason s).trend = s.trend := by rw [jDevice_only]
@[simp] theorem jDevice_shv (kind sess slot reason : Nat) (s : State) : (jDevice kind sess slot reason s).shv = s.shv := by rw [jDevice_only]
@[simp] theorem jDevice_io (kind sess slot reason : Nat) (s : State) : (jDevice kind sess slot reason s).io = s.io := by rw [jDevice_only]
@[simp] theorem jDevice_masts (kind sess slot reason : Nat) (s : State) : (jDevice kind sess slot reason s).masts = s.masts := by rw [jDevice_only]
@[simp] theorem jDevice_dryers (kind sess slot reason : Nat) (s : State) : (jDevice kind sess slot reason s).dryers = s.dryers := by rw [jDevice_only]
@[simp] theorem jDevice_routes (kind sess slot reason : Nat) (s : State) : (jDevice kind sess slot reason s).routes = s.routes := by rw [jDevice_only]

/-! ## Ownership writes the ownership records, and a released route's stop (R96, R98, R425) -/

theorem touchObj_only (key jseq : Nat) (s : State) : touchObj key jseq s = { s with own := (touchObj key jseq s).own } := by
  unfold touchObj
  dsimp only
  split <;> rfl

theorem passObj_only (jseq sess role key : Nat) (s : State) :
    passObj jseq sess role key s = { s with own := (passObj jseq sess role key s).own } := by
  unfold passObj
  rw [touchObj_only]
  rfl

theorem releaseObj_only (jseq key : Nat) (s : State) : releaseObj jseq key s = { s with own := (releaseObj jseq key s).own, routes := (releaseObj jseq key s).routes } := by
  unfold releaseObj
  dsimp only
  rw [touchObj_only]
  split
  · unfold stopUnowned
    dsimp only
    split <;> rfl
  · rfl

theorem orphanObj_only (jseq key : Nat) (s : State) : orphanObj jseq key s = { s with own := (orphanObj jseq key s).own } := by
  unfold orphanObj
  rw [touchObj_only]
  rfl

theorem commitItem_only (key jseq sess role : Nat) (s : State) :
    commitItem key jseq sess role s = { s with own := (commitItem key jseq sess role s).own } := by
  unfold commitItem
  dsimp only
  split
  · exact passObj_only _ _ _ _ s
  · exact touchObj_only _ _ s

@[simp] theorem touchObj_pending (key jseq : Nat) (s : State) : (touchObj key jseq s).pending = s.pending := by rw [touchObj_only]
@[simp] theorem touchObj_free (key jseq : Nat) (s : State) : (touchObj key jseq s).free = s.free := by rw [touchObj_only]
@[simp] theorem touchObj_wire (key jseq : Nat) (s : State) : (touchObj key jseq s).wire = s.wire := by rw [touchObj_only]
@[simp] theorem touchObj_aon (key jseq : Nat) (s : State) : (touchObj key jseq s).aon = s.aon := by rw [touchObj_only]
@[simp] theorem touchObj_pwr (key jseq : Nat) (s : State) : (touchObj key jseq s).pwr = s.pwr := by rw [touchObj_only]
@[simp] theorem touchObj_start (key jseq : Nat) (s : State) : (touchObj key jseq s).start = s.start := by rw [touchObj_only]
@[simp] theorem touchObj_net (key jseq : Nat) (s : State) : (touchObj key jseq s).net = s.net := by rw [touchObj_only]
@[simp] theorem touchObj_spi (key jseq : Nat) (s : State) : (touchObj key jseq s).spi = s.spi := by rw [touchObj_only]
@[simp] theorem touchObj_auth (key jseq : Nat) (s : State) : (touchObj key jseq s).auth = s.auth := by rw [touchObj_only]
@[simp] theorem touchObj_sess (key jseq : Nat) (s : State) : (touchObj key jseq s).sess = s.sess := by rw [touchObj_only]
@[simp] theorem touchObj_host (key jseq : Nat) (s : State) : (touchObj key jseq s).host = s.host := by rw [touchObj_only]
@[simp] theorem touchObj_jrnl (key jseq : Nat) (s : State) : (touchObj key jseq s).jrnl = s.jrnl := by rw [touchObj_only]
@[simp] theorem touchObj_fw (key jseq : Nat) (s : State) : (touchObj key jseq s).fw = s.fw := by rw [touchObj_only]
@[simp] theorem touchObj_rig (key jseq : Nat) (s : State) : (touchObj key jseq s).rig = s.rig := by rw [touchObj_only]
@[simp] theorem touchObj_tt (key jseq : Nat) (s : State) : (touchObj key jseq s).tt = s.tt := by rw [touchObj_only]
@[simp] theorem touchObj_hal (key jseq : Nat) (s : State) : (touchObj key jseq s).hal = s.hal := by rw [touchObj_only]
@[simp] theorem touchObj_scan (key jseq : Nat) (s : State) : (touchObj key jseq s).scan = s.scan := by rw [touchObj_only]
@[simp] theorem touchObj_points (key jseq : Nat) (s : State) : (touchObj key jseq s).points = s.points := by rw [touchObj_only]
@[simp] theorem touchObj_fronts (key jseq : Nat) (s : State) : (touchObj key jseq s).fronts = s.fronts := by rw [touchObj_only]
@[simp] theorem touchObj_cableOvr (key jseq : Nat) (s : State) : (touchObj key jseq s).cableOvr = s.cableOvr := by rw [touchObj_only]
@[simp] theorem touchObj_trend (key jseq : Nat) (s : State) : (touchObj key jseq s).trend = s.trend := by rw [touchObj_only]
@[simp] theorem touchObj_shv (key jseq : Nat) (s : State) : (touchObj key jseq s).shv = s.shv := by rw [touchObj_only]
@[simp] theorem touchObj_io (key jseq : Nat) (s : State) : (touchObj key jseq s).io = s.io := by rw [touchObj_only]
@[simp] theorem touchObj_masts (key jseq : Nat) (s : State) : (touchObj key jseq s).masts = s.masts := by rw [touchObj_only]
@[simp] theorem touchObj_dryers (key jseq : Nat) (s : State) : (touchObj key jseq s).dryers = s.dryers := by rw [touchObj_only]
@[simp] theorem touchObj_routes (key jseq : Nat) (s : State) : (touchObj key jseq s).routes = s.routes := by rw [touchObj_only]
@[simp] theorem passObj_pending (jseq sess role key : Nat) (s : State) : (passObj jseq sess role key s).pending = s.pending := by rw [passObj_only]
@[simp] theorem passObj_free (jseq sess role key : Nat) (s : State) : (passObj jseq sess role key s).free = s.free := by rw [passObj_only]
@[simp] theorem passObj_wire (jseq sess role key : Nat) (s : State) : (passObj jseq sess role key s).wire = s.wire := by rw [passObj_only]
@[simp] theorem passObj_aon (jseq sess role key : Nat) (s : State) : (passObj jseq sess role key s).aon = s.aon := by rw [passObj_only]
@[simp] theorem passObj_pwr (jseq sess role key : Nat) (s : State) : (passObj jseq sess role key s).pwr = s.pwr := by rw [passObj_only]
@[simp] theorem passObj_start (jseq sess role key : Nat) (s : State) : (passObj jseq sess role key s).start = s.start := by rw [passObj_only]
@[simp] theorem passObj_net (jseq sess role key : Nat) (s : State) : (passObj jseq sess role key s).net = s.net := by rw [passObj_only]
@[simp] theorem passObj_spi (jseq sess role key : Nat) (s : State) : (passObj jseq sess role key s).spi = s.spi := by rw [passObj_only]
@[simp] theorem passObj_auth (jseq sess role key : Nat) (s : State) : (passObj jseq sess role key s).auth = s.auth := by rw [passObj_only]
@[simp] theorem passObj_sess (jseq sess role key : Nat) (s : State) : (passObj jseq sess role key s).sess = s.sess := by rw [passObj_only]
@[simp] theorem passObj_host (jseq sess role key : Nat) (s : State) : (passObj jseq sess role key s).host = s.host := by rw [passObj_only]
@[simp] theorem passObj_jrnl (jseq sess role key : Nat) (s : State) : (passObj jseq sess role key s).jrnl = s.jrnl := by rw [passObj_only]
@[simp] theorem passObj_fw (jseq sess role key : Nat) (s : State) : (passObj jseq sess role key s).fw = s.fw := by rw [passObj_only]
@[simp] theorem passObj_rig (jseq sess role key : Nat) (s : State) : (passObj jseq sess role key s).rig = s.rig := by rw [passObj_only]
@[simp] theorem passObj_tt (jseq sess role key : Nat) (s : State) : (passObj jseq sess role key s).tt = s.tt := by rw [passObj_only]
@[simp] theorem passObj_hal (jseq sess role key : Nat) (s : State) : (passObj jseq sess role key s).hal = s.hal := by rw [passObj_only]
@[simp] theorem passObj_scan (jseq sess role key : Nat) (s : State) : (passObj jseq sess role key s).scan = s.scan := by rw [passObj_only]
@[simp] theorem passObj_points (jseq sess role key : Nat) (s : State) : (passObj jseq sess role key s).points = s.points := by rw [passObj_only]
@[simp] theorem passObj_fronts (jseq sess role key : Nat) (s : State) : (passObj jseq sess role key s).fronts = s.fronts := by rw [passObj_only]
@[simp] theorem passObj_cableOvr (jseq sess role key : Nat) (s : State) : (passObj jseq sess role key s).cableOvr = s.cableOvr := by rw [passObj_only]
@[simp] theorem passObj_trend (jseq sess role key : Nat) (s : State) : (passObj jseq sess role key s).trend = s.trend := by rw [passObj_only]
@[simp] theorem passObj_shv (jseq sess role key : Nat) (s : State) : (passObj jseq sess role key s).shv = s.shv := by rw [passObj_only]
@[simp] theorem passObj_io (jseq sess role key : Nat) (s : State) : (passObj jseq sess role key s).io = s.io := by rw [passObj_only]
@[simp] theorem passObj_masts (jseq sess role key : Nat) (s : State) : (passObj jseq sess role key s).masts = s.masts := by rw [passObj_only]
@[simp] theorem passObj_dryers (jseq sess role key : Nat) (s : State) : (passObj jseq sess role key s).dryers = s.dryers := by rw [passObj_only]
@[simp] theorem passObj_routes (jseq sess role key : Nat) (s : State) : (passObj jseq sess role key s).routes = s.routes := by rw [passObj_only]
@[simp] theorem releaseObj_pending (jseq key : Nat) (s : State) : (releaseObj jseq key s).pending = s.pending := by rw [releaseObj_only]
@[simp] theorem releaseObj_free (jseq key : Nat) (s : State) : (releaseObj jseq key s).free = s.free := by rw [releaseObj_only]
@[simp] theorem releaseObj_wire (jseq key : Nat) (s : State) : (releaseObj jseq key s).wire = s.wire := by rw [releaseObj_only]
@[simp] theorem releaseObj_aon (jseq key : Nat) (s : State) : (releaseObj jseq key s).aon = s.aon := by rw [releaseObj_only]
@[simp] theorem releaseObj_pwr (jseq key : Nat) (s : State) : (releaseObj jseq key s).pwr = s.pwr := by rw [releaseObj_only]
@[simp] theorem releaseObj_start (jseq key : Nat) (s : State) : (releaseObj jseq key s).start = s.start := by rw [releaseObj_only]
@[simp] theorem releaseObj_net (jseq key : Nat) (s : State) : (releaseObj jseq key s).net = s.net := by rw [releaseObj_only]
@[simp] theorem releaseObj_spi (jseq key : Nat) (s : State) : (releaseObj jseq key s).spi = s.spi := by rw [releaseObj_only]
@[simp] theorem releaseObj_auth (jseq key : Nat) (s : State) : (releaseObj jseq key s).auth = s.auth := by rw [releaseObj_only]
@[simp] theorem releaseObj_sess (jseq key : Nat) (s : State) : (releaseObj jseq key s).sess = s.sess := by rw [releaseObj_only]
@[simp] theorem releaseObj_host (jseq key : Nat) (s : State) : (releaseObj jseq key s).host = s.host := by rw [releaseObj_only]
@[simp] theorem releaseObj_jrnl (jseq key : Nat) (s : State) : (releaseObj jseq key s).jrnl = s.jrnl := by rw [releaseObj_only]
@[simp] theorem releaseObj_fw (jseq key : Nat) (s : State) : (releaseObj jseq key s).fw = s.fw := by rw [releaseObj_only]
@[simp] theorem releaseObj_rig (jseq key : Nat) (s : State) : (releaseObj jseq key s).rig = s.rig := by rw [releaseObj_only]
@[simp] theorem releaseObj_tt (jseq key : Nat) (s : State) : (releaseObj jseq key s).tt = s.tt := by rw [releaseObj_only]
@[simp] theorem releaseObj_hal (jseq key : Nat) (s : State) : (releaseObj jseq key s).hal = s.hal := by rw [releaseObj_only]
@[simp] theorem releaseObj_scan (jseq key : Nat) (s : State) : (releaseObj jseq key s).scan = s.scan := by rw [releaseObj_only]
@[simp] theorem releaseObj_points (jseq key : Nat) (s : State) : (releaseObj jseq key s).points = s.points := by rw [releaseObj_only]
@[simp] theorem releaseObj_fronts (jseq key : Nat) (s : State) : (releaseObj jseq key s).fronts = s.fronts := by rw [releaseObj_only]
@[simp] theorem releaseObj_cableOvr (jseq key : Nat) (s : State) : (releaseObj jseq key s).cableOvr = s.cableOvr := by rw [releaseObj_only]
@[simp] theorem releaseObj_trend (jseq key : Nat) (s : State) : (releaseObj jseq key s).trend = s.trend := by rw [releaseObj_only]
@[simp] theorem releaseObj_shv (jseq key : Nat) (s : State) : (releaseObj jseq key s).shv = s.shv := by rw [releaseObj_only]
@[simp] theorem releaseObj_io (jseq key : Nat) (s : State) : (releaseObj jseq key s).io = s.io := by rw [releaseObj_only]
@[simp] theorem releaseObj_masts (jseq key : Nat) (s : State) : (releaseObj jseq key s).masts = s.masts := by rw [releaseObj_only]
@[simp] theorem releaseObj_dryers (jseq key : Nat) (s : State) : (releaseObj jseq key s).dryers = s.dryers := by rw [releaseObj_only]
@[simp] theorem commitItem_pending (key jseq sess role : Nat) (s : State) : (commitItem key jseq sess role s).pending = s.pending := by rw [commitItem_only]
@[simp] theorem commitItem_free (key jseq sess role : Nat) (s : State) : (commitItem key jseq sess role s).free = s.free := by rw [commitItem_only]
@[simp] theorem commitItem_wire (key jseq sess role : Nat) (s : State) : (commitItem key jseq sess role s).wire = s.wire := by rw [commitItem_only]
@[simp] theorem commitItem_aon (key jseq sess role : Nat) (s : State) : (commitItem key jseq sess role s).aon = s.aon := by rw [commitItem_only]
@[simp] theorem commitItem_pwr (key jseq sess role : Nat) (s : State) : (commitItem key jseq sess role s).pwr = s.pwr := by rw [commitItem_only]
@[simp] theorem commitItem_start (key jseq sess role : Nat) (s : State) : (commitItem key jseq sess role s).start = s.start := by rw [commitItem_only]
@[simp] theorem commitItem_net (key jseq sess role : Nat) (s : State) : (commitItem key jseq sess role s).net = s.net := by rw [commitItem_only]
@[simp] theorem commitItem_spi (key jseq sess role : Nat) (s : State) : (commitItem key jseq sess role s).spi = s.spi := by rw [commitItem_only]
@[simp] theorem commitItem_auth (key jseq sess role : Nat) (s : State) : (commitItem key jseq sess role s).auth = s.auth := by rw [commitItem_only]
@[simp] theorem commitItem_sess (key jseq sess role : Nat) (s : State) : (commitItem key jseq sess role s).sess = s.sess := by rw [commitItem_only]
@[simp] theorem commitItem_host (key jseq sess role : Nat) (s : State) : (commitItem key jseq sess role s).host = s.host := by rw [commitItem_only]
@[simp] theorem commitItem_jrnl (key jseq sess role : Nat) (s : State) : (commitItem key jseq sess role s).jrnl = s.jrnl := by rw [commitItem_only]
@[simp] theorem commitItem_fw (key jseq sess role : Nat) (s : State) : (commitItem key jseq sess role s).fw = s.fw := by rw [commitItem_only]
@[simp] theorem commitItem_rig (key jseq sess role : Nat) (s : State) : (commitItem key jseq sess role s).rig = s.rig := by rw [commitItem_only]
@[simp] theorem commitItem_tt (key jseq sess role : Nat) (s : State) : (commitItem key jseq sess role s).tt = s.tt := by rw [commitItem_only]
@[simp] theorem commitItem_hal (key jseq sess role : Nat) (s : State) : (commitItem key jseq sess role s).hal = s.hal := by rw [commitItem_only]
@[simp] theorem commitItem_scan (key jseq sess role : Nat) (s : State) : (commitItem key jseq sess role s).scan = s.scan := by rw [commitItem_only]
@[simp] theorem commitItem_points (key jseq sess role : Nat) (s : State) : (commitItem key jseq sess role s).points = s.points := by rw [commitItem_only]
@[simp] theorem commitItem_fronts (key jseq sess role : Nat) (s : State) : (commitItem key jseq sess role s).fronts = s.fronts := by rw [commitItem_only]
@[simp] theorem commitItem_cableOvr (key jseq sess role : Nat) (s : State) : (commitItem key jseq sess role s).cableOvr = s.cableOvr := by rw [commitItem_only]
@[simp] theorem commitItem_trend (key jseq sess role : Nat) (s : State) : (commitItem key jseq sess role s).trend = s.trend := by rw [commitItem_only]
@[simp] theorem commitItem_shv (key jseq sess role : Nat) (s : State) : (commitItem key jseq sess role s).shv = s.shv := by rw [commitItem_only]
@[simp] theorem commitItem_io (key jseq sess role : Nat) (s : State) : (commitItem key jseq sess role s).io = s.io := by rw [commitItem_only]
@[simp] theorem commitItem_masts (key jseq sess role : Nat) (s : State) : (commitItem key jseq sess role s).masts = s.masts := by rw [commitItem_only]
@[simp] theorem commitItem_dryers (key jseq sess role : Nat) (s : State) : (commitItem key jseq sess role s).dryers = s.dryers := by rw [commitItem_only]
@[simp] theorem commitItem_routes (key jseq sess role : Nat) (s : State) : (commitItem key jseq sess role s).routes = s.routes := by rw [commitItem_only]

/-! ## Sending writes the wire, the ports' queues and the sessions' counts of what was lost (R37 to R39) -/

theorem dropFor_only (slot sess : Nat) (s : State) : dropFor slot sess s = { s with sess := (dropFor slot sess s).sess } := by
  unfold dropFor
  dsimp only
  split <;> rfl

theorem send_only (port addr slot sess : Nat) (notice : Bool) (bytes : Bytes) (s : State) :
    send port addr slot sess notice bytes s = { s with
      wire := (send port addr slot sess notice bytes s).wire, net := (send port addr slot sess notice bytes s).net,
      sess := (send port addr slot sess notice bytes s).sess } := by
  unfold send
  dsimp only
  (repeat' split) <;> first | rfl | (rw [dropFor_only])

@[simp] theorem send_pending (port addr slot sess : Nat) (notice : Bool) (bytes : Bytes) (s : State) : (send port addr slot sess notice bytes s).pending = s.pending := by rw [send_only]
@[simp] theorem send_free (port addr slot sess : Nat) (notice : Bool) (bytes : Bytes) (s : State) : (send port addr slot sess notice bytes s).free = s.free := by rw [send_only]
@[simp] theorem send_aon (port addr slot sess : Nat) (notice : Bool) (bytes : Bytes) (s : State) : (send port addr slot sess notice bytes s).aon = s.aon := by rw [send_only]
@[simp] theorem send_pwr (port addr slot sess : Nat) (notice : Bool) (bytes : Bytes) (s : State) : (send port addr slot sess notice bytes s).pwr = s.pwr := by rw [send_only]
@[simp] theorem send_start (port addr slot sess : Nat) (notice : Bool) (bytes : Bytes) (s : State) : (send port addr slot sess notice bytes s).start = s.start := by rw [send_only]
@[simp] theorem send_spi (port addr slot sess : Nat) (notice : Bool) (bytes : Bytes) (s : State) : (send port addr slot sess notice bytes s).spi = s.spi := by rw [send_only]
@[simp] theorem send_auth (port addr slot sess : Nat) (notice : Bool) (bytes : Bytes) (s : State) : (send port addr slot sess notice bytes s).auth = s.auth := by rw [send_only]
@[simp] theorem send_host (port addr slot sess : Nat) (notice : Bool) (bytes : Bytes) (s : State) : (send port addr slot sess notice bytes s).host = s.host := by rw [send_only]
@[simp] theorem send_jrnl (port addr slot sess : Nat) (notice : Bool) (bytes : Bytes) (s : State) : (send port addr slot sess notice bytes s).jrnl = s.jrnl := by rw [send_only]
@[simp] theorem send_own (port addr slot sess : Nat) (notice : Bool) (bytes : Bytes) (s : State) : (send port addr slot sess notice bytes s).own = s.own := by rw [send_only]
@[simp] theorem send_fw (port addr slot sess : Nat) (notice : Bool) (bytes : Bytes) (s : State) : (send port addr slot sess notice bytes s).fw = s.fw := by rw [send_only]
@[simp] theorem send_rig (port addr slot sess : Nat) (notice : Bool) (bytes : Bytes) (s : State) : (send port addr slot sess notice bytes s).rig = s.rig := by rw [send_only]
@[simp] theorem send_tt (port addr slot sess : Nat) (notice : Bool) (bytes : Bytes) (s : State) : (send port addr slot sess notice bytes s).tt = s.tt := by rw [send_only]
@[simp] theorem send_hal (port addr slot sess : Nat) (notice : Bool) (bytes : Bytes) (s : State) : (send port addr slot sess notice bytes s).hal = s.hal := by rw [send_only]
@[simp] theorem send_scan (port addr slot sess : Nat) (notice : Bool) (bytes : Bytes) (s : State) : (send port addr slot sess notice bytes s).scan = s.scan := by rw [send_only]
@[simp] theorem send_points (port addr slot sess : Nat) (notice : Bool) (bytes : Bytes) (s : State) : (send port addr slot sess notice bytes s).points = s.points := by rw [send_only]
@[simp] theorem send_fronts (port addr slot sess : Nat) (notice : Bool) (bytes : Bytes) (s : State) : (send port addr slot sess notice bytes s).fronts = s.fronts := by rw [send_only]
@[simp] theorem send_cableOvr (port addr slot sess : Nat) (notice : Bool) (bytes : Bytes) (s : State) : (send port addr slot sess notice bytes s).cableOvr = s.cableOvr := by rw [send_only]
@[simp] theorem send_trend (port addr slot sess : Nat) (notice : Bool) (bytes : Bytes) (s : State) : (send port addr slot sess notice bytes s).trend = s.trend := by rw [send_only]
@[simp] theorem send_shv (port addr slot sess : Nat) (notice : Bool) (bytes : Bytes) (s : State) : (send port addr slot sess notice bytes s).shv = s.shv := by rw [send_only]
@[simp] theorem send_io (port addr slot sess : Nat) (notice : Bool) (bytes : Bytes) (s : State) : (send port addr slot sess notice bytes s).io = s.io := by rw [send_only]
@[simp] theorem send_masts (port addr slot sess : Nat) (notice : Bool) (bytes : Bytes) (s : State) : (send port addr slot sess notice bytes s).masts = s.masts := by rw [send_only]
@[simp] theorem send_dryers (port addr slot sess : Nat) (notice : Bool) (bytes : Bytes) (s : State) : (send port addr slot sess notice bytes s).dryers = s.dryers := by rw [send_only]
@[simp] theorem send_routes (port addr slot sess : Nat) (notice : Bool) (bytes : Bytes) (s : State) : (send port addr slot sess notice bytes s).routes = s.routes := by rw [send_only]

/-! ## A packet heard (R90, R91, R94) -/

theorem heard_only (k port addr : Nat) (s : State) : heard k port addr s = { s with
    tt := (heard k port addr s).tt, sess := (heard k port addr s).sess, host := (heard k port addr s).host,
    io := (heard k port addr s).io } := by
  unfold heard silenceEnds wdReload
  dsimp only
  split
  · split
    · rw [ttOccur_only]; rfl
    · rfl
  · rfl

@[simp] theorem heard_pending (k port addr : Nat) (s : State) : (heard k port addr s).pending = s.pending := by rw [heard_only]
@[simp] theorem heard_free (k port addr : Nat) (s : State) : (heard k port addr s).free = s.free := by rw [heard_only]
@[simp] theorem heard_wire (k port addr : Nat) (s : State) : (heard k port addr s).wire = s.wire := by rw [heard_only]
@[simp] theorem heard_aon (k port addr : Nat) (s : State) : (heard k port addr s).aon = s.aon := by rw [heard_only]
@[simp] theorem heard_pwr (k port addr : Nat) (s : State) : (heard k port addr s).pwr = s.pwr := by rw [heard_only]
@[simp] theorem heard_start (k port addr : Nat) (s : State) : (heard k port addr s).start = s.start := by rw [heard_only]
@[simp] theorem heard_net (k port addr : Nat) (s : State) : (heard k port addr s).net = s.net := by rw [heard_only]
@[simp] theorem heard_spi (k port addr : Nat) (s : State) : (heard k port addr s).spi = s.spi := by rw [heard_only]
@[simp] theorem heard_auth (k port addr : Nat) (s : State) : (heard k port addr s).auth = s.auth := by rw [heard_only]
@[simp] theorem heard_jrnl (k port addr : Nat) (s : State) : (heard k port addr s).jrnl = s.jrnl := by rw [heard_only]
@[simp] theorem heard_own (k port addr : Nat) (s : State) : (heard k port addr s).own = s.own := by rw [heard_only]
@[simp] theorem heard_fw (k port addr : Nat) (s : State) : (heard k port addr s).fw = s.fw := by rw [heard_only]
@[simp] theorem heard_rig (k port addr : Nat) (s : State) : (heard k port addr s).rig = s.rig := by rw [heard_only]
@[simp] theorem heard_hal (k port addr : Nat) (s : State) : (heard k port addr s).hal = s.hal := by rw [heard_only]
@[simp] theorem heard_scan (k port addr : Nat) (s : State) : (heard k port addr s).scan = s.scan := by rw [heard_only]
@[simp] theorem heard_points (k port addr : Nat) (s : State) : (heard k port addr s).points = s.points := by rw [heard_only]
@[simp] theorem heard_fronts (k port addr : Nat) (s : State) : (heard k port addr s).fronts = s.fronts := by rw [heard_only]
@[simp] theorem heard_cableOvr (k port addr : Nat) (s : State) : (heard k port addr s).cableOvr = s.cableOvr := by rw [heard_only]
@[simp] theorem heard_trend (k port addr : Nat) (s : State) : (heard k port addr s).trend = s.trend := by rw [heard_only]
@[simp] theorem heard_shv (k port addr : Nat) (s : State) : (heard k port addr s).shv = s.shv := by rw [heard_only]
@[simp] theorem heard_masts (k port addr : Nat) (s : State) : (heard k port addr s).masts = s.masts := by rw [heard_only]
@[simp] theorem heard_dryers (k port addr : Nat) (s : State) : (heard k port addr s).dryers = s.dryers := by rw [heard_only]
@[simp] theorem heard_routes (k port addr : Nat) (s : State) : (heard k port addr s).routes = s.routes := by rw [heard_only]

/-- The queues of commands stand as they were. -/
theorem heard_queue (k port addr : Nat) (s : State) :
    (heard k port addr s).host.queue = s.host.queue ∧ (heard k port addr s).host.running = s.host.running := by
  unfold heard silenceEnds wdReload
  dsimp only
  split
  · split <;> simp
  · simp

end Sys2Proof.Machine
end

