-- ==== Sys2Proof/Laws/Packets.lean ====
section
/-! SUPPORT. Little-endian fields, and where a packet's fields lie (R58, R59). -/
namespace Sys2Proof.Machine

@[simp] theorem le_length (n v : Nat) : (le n v).length = n := by
  induction n generalizing v with
  | zero => rfl
  | succ n ih => simp [le, ih]

@[simp] theorem zeros_length (n : Nat) : (zeros n).length = n := by simp [zeros]

@[simp] theorem fit_length (n : Nat) (bs : Bytes) : (fit n bs).length = n := by
  simp [fit, zeros]
  omega

/-- A number of `n` bytes is what its bytes spell (R7). -/
theorem leNat_le (n v : Nat) : leNat (le n v) = v % 256 ^ n := by
  induction n generalizing v with
  | zero => simp [le, leNat, Nat.mod_one]
  | succ n ih =>
    simp only [le, leNat, ih, BitVec.toNat_ofNat]
    rw [show 256 ^ (n + 1) = 256 * 256 ^ n by rw [Nat.pow_succ, Nat.mul_comm], Nat.mod_mul]

theorem leNat_le_of_lt {n v : Nat} (h : v < 256 ^ n) : leNat (le n v) = v := by
  rw [leNat_le, Nat.mod_eq_of_lt h]

/-- A field lies after what stands before it. -/
theorem cut_append (a b c : Bytes) : cut (a ++ b ++ c) a.length b.length = b := by
  simp [cut, List.append_assoc]

theorem fld_append (a b c : Bytes) : fld (a ++ b ++ c) a.length b.length = leNat b := by
  simp [fld, List.append_assoc]

/-- The header of a packet (R59). -/
def packetHead (op : Nat) (p : Packet) : Bytes :=
  [0x58#8, 0x4C#8, p.version, p.flags, p.session, p.rsvd5] ++ le 2 op ++ le 8 p.hostTag.toNat ++ le 2 p.payload.length
    ++ fit 6 p.rsvd18

theorem packetBytes_eq (op : Nat) (p : Packet) : packetBytes op p = packetHead op p ++ p.payload ++ p.mac := by
  simp [packetBytes, packetHead]

@[simp] theorem packetHead_length (op : Nat) (p : Packet) : (packetHead op p).length = 24 := by simp [packetHead]

theorem packetBytes_length (op : Nat) (p : Packet) (h : p.wf = true) : (packetBytes op p).length = 40 + p.payload.length := by
  simp only [Packet.wf, Bool.and_eq_true, beq_iff_eq] at h
  simp [packetBytes_eq, h.2]
  omega

/-- MAGIC is right. -/
theorem packet_magic (op : Nat) (p : Packet) : fld (packetBytes op p) 0 2 = 0x4C58 := by
  simp [packetBytes, fld, leNat]

theorem packet_version (op : Nat) (p : Packet) : fld (packetBytes op p) 2 1 = p.version.toNat := by
  simp [packetBytes, fld, leNat]

theorem packet_flags (op : Nat) (p : Packet) : fld (packetBytes op p) 3 1 = p.flags.toNat := by
  simp [packetBytes, fld, leNat]

theorem packet_session (op : Nat) (p : Packet) : fld (packetBytes op p) 4 1 = p.session.toNat := by
  simp [packetBytes, fld, leNat]

theorem packet_opcode (op : Nat) (p : Packet) (h : op < 65536) : fld (packetBytes op p) 6 2 = op := by
  have := fld_append [0x58#8, 0x4C#8, p.version, p.flags, p.session, p.rsvd5] (le 2 op)
    (le 8 p.hostTag.toNat ++ le 2 p.payload.length ++ fit 6 p.rsvd18 ++ p.payload ++ p.mac)
  simp only [le_length] at this
  simpa [packetBytes, leNat_le_of_lt (n := 2) (by simpa using h)] using this

theorem packet_tag (op : Nat) (p : Packet) : fld (packetBytes op p) 8 8 = p.hostTag.toNat := by
  have := fld_append ([0x58#8, 0x4C#8, p.version, p.flags, p.session, p.rsvd5] ++ le 2 op) (le 8 p.hostTag.toNat)
    (le 2 p.payload.length ++ fit 6 p.rsvd18 ++ p.payload ++ p.mac)
  have h : p.hostTag.toNat < 256 ^ 8 := p.hostTag.isLt
  rw [leNat_le_of_lt h] at this
  simpa [packetBytes] using this

theorem packet_plen (op : Nat) (p : Packet) (h : p.wf = true) : fld (packetBytes op p) 16 2 = p.payload.length := by
  have := fld_append ([0x58#8, 0x4C#8, p.version, p.flags, p.session, p.rsvd5] ++ le 2 op ++ le 8 p.hostTag.toNat)
    (le 2 p.payload.length) (fit 6 p.rsvd18 ++ p.payload ++ p.mac)
  simp only [Packet.wf, Bool.and_eq_true, decide_eq_true_eq] at h
  rw [leNat_le_of_lt (by have := h.1.2; omega : p.payload.length < 256 ^ 2)] at this
  simpa [packetBytes] using this

theorem packet_payload (op : Nat) (p : Packet) (h : p.wf = true) :
    cut (packetBytes op p) 24 ((packetBytes op p).length - 40) = p.payload := by
  rw [packetBytes_length op p h, packetBytes_eq, show 40 + p.payload.length - 40 = p.payload.length by omega]
  have := cut_append (packetHead op p) p.payload p.mac
  simpa using this

end Sys2Proof.Machine
end

