-- ==== Sys2Proof/Laws/Resets.lean ====
section
/-! SUPPORT. The operations that reset, start or write the mailbox: what each leaves alone of the queue, POWERCYCLE and
SEC_FLOOR, and that each keeps the invariant of the block. -/
namespace Sys2Proof.Machine

/-- What nothing but a start changes: the queue, POWERCYCLE and SEC_FLOOR. -/
def State.stable (s : State) : List Instr × Nat × Nat := (s.pending, s.aon.powercycle, s.fw.floor)

/-- What the invariant looks at: WARM_RUN and the mailbox. -/
def State.guarded (s : State) : Nat × Spi := (s.start.warmRun, s.spi)

theorem stable_of_kept {s t : State} (h : t.kept = s.kept) : t.stable = s.stable := by
  simp only [State.kept, Prod.mk.injEq] at h
  simp [State.stable, h]

theorem guarded_of_kept {s t : State} (h : t.kept = s.kept) : t.guarded = s.guarded := by
  simp only [State.kept, Prod.mk.injEq] at h
  simp [State.guarded, h]

theorem inv_of_guarded {s t : State} (h : t.guarded = s.guarded) (hi : Safety.Inv s) : Safety.Inv t := by
  simp only [State.guarded, Prod.mk.injEq] at h
  unfold Safety.Inv Safety.warmRunHeld at *
  rw [h.1, h.2]
  exact hi

theorem inv_of_kept {s t : State} (h : t.kept = s.kept) (hi : Safety.Inv s) : Safety.Inv t :=
  inv_of_guarded (guarded_of_kept h) hi

/-- Everything a reset, the end of a command or a read may do to what is watched: the stable part stays and the invariant
is kept. -/
structure Steady (s t : State) : Prop where
  stable : t.stable = s.stable
  inv : Safety.Inv s → Safety.Inv t

theorem Steady.refl (s : State) : Steady s s := ⟨rfl, id⟩

theorem Steady.trans {s t u : State} (h : Steady s t) (k : Steady t u) : Steady s u :=
  ⟨k.stable.trans h.stable, fun i => k.inv (h.inv i)⟩

theorem Steady.of_kept {s t : State} (h : t.kept = s.kept) : Steady s t := ⟨stable_of_kept h, inv_of_kept h⟩

/-- An operation after one that touches nothing watched. -/
theorem Steady.via {s s' t : State} (h : Steady s' t) (k : s'.kept = s.kept) : Steady s t := (Steady.of_kept k).trans h

/-- The last operation first, for an intermediate state that it gives. -/
theorem Steady.after {s s' t : State} (h : Steady s' t) (k : Steady s s') : Steady s t := k.trans h

/-- A mailbox in its reset state and a WARM_RUN below 3 make the invariant. -/
theorem inv_mk {s : State} (h : s.start.warmRun < 3) (hs : s.spi = Spi.reset) : Safety.Inv s := by
  refine ⟨h, ?_⟩
  rw [hs]
  unfold Safety.spiInRange Spi.reset
  decide

theorem forAll_steady {α : Type} (l : List α) (f : α → State → State) (h : ∀ a s, Steady s (f a s)) (s : State) :
    Steady s (forAll l f s) := by
  unfold forAll
  induction l generalizing s with
  | nil => exact Steady.refl s
  | cons a l ih => exact (h a s).trans (ih (f a s))

/-! ## Resets -/

@[simp] theorem controlReset_pending (s : State) : (controlReset s).pending = s.pending := by
  have := rigReset_kept s
  simp only [State.kept, Prod.mk.injEq] at this
  simp [controlReset, this]

@[simp] theorem controlReset_powercycle (s : State) : (controlReset s).aon.powercycle = s.aon.powercycle := by
  have := rigReset_kept s
  simp only [State.kept, Prod.mk.injEq] at this
  simp [controlReset, this]

@[simp] theorem controlReset_floor (s : State) : (controlReset s).fw.floor = s.fw.floor := by
  have := rigReset_kept s
  simp only [State.kept, Prod.mk.injEq] at this
  simp [controlReset, this]

@[simp] theorem controlReset_warmRun (s : State) : (controlReset s).start.warmRun = s.start.warmRun := by
  have := rigReset_kept s
  simp only [State.kept, Prod.mk.injEq] at this
  simp [controlReset, this]

@[simp] theorem controlReset_spi (s : State) : (controlReset s).spi = Spi.reset := rfl

/-- A cold reset makes the invariant hold, whatever stood before. -/
theorem coldReset_steady (k : Nat) (s : State) : Steady s (coldReset k s) := by
  refine ⟨?_, fun _ => inv_mk (by simp [coldReset]) rfl⟩
  have h := ttColdReset_kept (controlReset s)
  simp only [State.kept, Prod.mk.injEq] at h
  simp [State.stable, coldReset, h]

theorem warmReset_steady (k : Nat) (s : State) : Steady s (warmReset k s) := by
  unfold warmReset
  split
  · exact Steady.refl s
  · dsimp only
    split
    · exact coldReset_steady 5 s
    · rename_i hn
      have h := (clearStats_kept (ttDropFifo (controlReset s))).trans (ttDropFifo_kept (controlReset s))
      simp only [State.kept, Prod.mk.injEq] at h
      generalize clearStats (ttDropFifo (controlReset s)) = r at h ⊢
      refine ⟨?_, fun i => ?_⟩
      · refine Eq.trans (stable_of_kept (forAll_kept _ _ (fun d st => by simp) _)) ?_
        simp [State.stable, h]
      · refine inv_of_kept (forAll_kept _ _ (fun d st => by simp) _) (inv_mk ?_ ?_)
        · have := i.1
          unfold Safety.warmRunHeld at this
          show s.start.warmRun + 1 < 3
          omega
        · simpa using h.2.1

theorem takeReset_steady (s : State) : Steady s (takeReset s) := by
  unfold takeReset
  split
  · exact Steady.refl s
  · split
    · exact coldReset_steady 4 s
    · exact warmReset_steady _ s

theorem resetIfDue_steady (s : State) : Steady s (resetIfDue s) := by
  unfold resetIfDue
  split
  · exact Steady.refl s
  · split
    · exact takeReset_steady s
    · exact Steady.refl s

theorem lockstepMismatch_steady (s : State) : Steady s (lockstepMismatch s) := warmReset_steady _ s

theorem bosunWatchdog_steady (s : State) : Steady s (bosunWatchdog s) := by
  unfold bosunWatchdog
  split
  · exact warmReset_steady _ s
  · exact Steady.refl s

theorem nrstAssert_steady (s : State) : Steady s (nrstAssert s) := by
  unfold nrstAssert
  dsimp only
  split
  · exact Steady.of_kept rfl
  · exact (coldReset_steady 3 _).via rfl

theorem powerFail_steady (cV : Nat) (s : State) : Steady s (powerFail cV s) := by
  unfold powerFail
  dsimp only
  split
  · exact Steady.of_kept rfl
  · split
    · exact Steady.of_kept rfl
    · exact (coldReset_steady 0 _).via rfl
    · refine (coldReset_steady 0 _).via ?_
      simp

/-! ## Errors of the Hold -/

theorem doubleError_steady (a : Nat) (s : State) : Steady s (doubleError a s) := by
  unfold doubleError
  split
  all_goals first
    | exact warmReset_steady _ s
    | (refine Steady.of_kept ?_; simp)

theorem holdError_steady (e : HoldEcc) (s : State) : Steady s (holdError e s) := by
  unfold holdError
  dsimp only
  split
  · exact Steady.refl s
  · split
    · exact Steady.of_kept (by simp)
    · split
      · exact doubleError_steady _ _
      · exact (doubleError_steady _ _).via (by simp)

theorem holdErrors_steady (l : List HoldEcc) (s : State) : Steady s (holdErrors l s) :=
  forAll_steady l holdError holdError_steady s

/-! ## Commands -/

theorem finish_steady (c : Cmd) (r : Res) (s : State) : Steady s (finish c r s) :=
  (Steady.of_kept (by simp)).trans (resetIfDue_steady _)

theorem executeAuth_steady (c : Cmd) (q : List Cmd) (s : State) : Steady s (executeAuth c q s) := by
  unfold executeAuth
  dsimp only
  split
  · exact Steady.of_kept (by simp)
  · exact (finish_steady _ _ _).via (by simp)

theorem execute_steady (c : Cmd) (ecc : List HoldEcc) (s : State) : Steady s (execute c ecc s) := by
  unfold execute
  have h0 : Steady s (holdErrors ecc { s with host := { s.host with
      queue := s.host.queue.filter (fun d => d.jseq != c.jseq) } }) := (holdErrors_steady ecc _).via rfl
  generalize (holdErrors ecc { s with host := { s.host with
      queue := s.host.queue.filter (fun d => d.jseq != c.jseq) } }) = s1 at h0
  dsimp only
  refine h0.trans ?_
  have h1 : (if c.op / 256 = 3 then txnHeard c.sess s1 else s1).kept = s1.kept := by simp
  generalize (if c.op / 256 = 3 then txnHeard c.sess s1 else s1) = s2 at h1 ⊢
  have h2 : (runCmd c s2).1.kept = s1.kept := by simp [h1]
  split
  · exact Steady.refl _
  · split
    · exact finish_steady _ _ _
    · split
      · exact executeAuth_steady _ _ _
      · split
        · exact Steady.of_kept h2
        · exact (finish_steady _ _ _).via h2

theorem commandExecution_steady (ecc : List HoldEcc) (s : State) : Steady s (commandExecution ecc s) := by
  unfold commandExecution
  split
  · exact Steady.refl s
  · split
    · exact execute_steady _ _ s
    · exact Steady.refl s

theorem hostRow_steady (op : Nat) (p : Packet) (s : State) : Steady s (hostRow op p s) := by
  unfold hostRow
  dsimp only
  refine Steady.trans (Steady.of_kept (t := arrive p.port p.addr (packetBytes op p) p.ecc s) (by simp)) ?_
  split
  · split
    · exact execute_steady _ _ _
    · exact Steady.refl _
  · exact Steady.refl _

theorem finishRun_steady (c : Cmd) (r : Res) (s : State) : Steady s (finishRun c r s) :=
  (finish_steady c r _).via rfl

theorem endRun_steady (op : Nat) (f : Cmd → State → State × Res) (h : ∀ c s, (f c s).1.kept = s.kept) (s : State) :
    Steady s (endRun op f s) := by
  unfold endRun
  split
  · exact Steady.refl s
  · split
    · exact Steady.refl s
    · exact (finishRun_steady _ _ _).via (h _ s)

theorem enumRunEnd_steady (p : Nat) (good : List (Nat × SlotRx)) (s : State) : Steady s (enumRunEnd p good s) := by
  unfold enumRunEnd
  dsimp only
  split
  · exact Steady.refl s
  · have h : Steady s (enumEnd p good s).1 := Steady.of_kept (by simp)
    split
    · exact Steady.refl s
    · split
      · exact h
      · exact h.trans (finishRun_steady _ _ _)

/-! ## The scan's rows and RS-485 -/

theorem pointRecord_steady (ecc : List HoldEcc) (s : State) : Steady s (pointRecord ecc s) := by
  unfold pointRecord
  refine (holdErrors_steady ecc s).trans ?_
  generalize holdErrors ecc s = s1
  dsimp only
  split
  · exact Steady.of_kept (by simp)
  · split
    · exact Steady.of_kept (by simp)
    · refine Steady.of_kept ?_
      simp

theorem frontJobRow_steady (ecc : List HoldEcc) (s : State) : Steady s (frontJobRow ecc s) := by
  unfold frontJobRow
  refine (holdErrors_steady ecc s).trans ?_
  generalize holdErrors ecc s = s1
  dsimp only
  split
  · exact Steady.refl _
  · split
    · exact Steady.refl _
    · refine Steady.of_kept ?_
      simp

theorem rs485Window_steady (p : Nat) (s : State) : Steady s (rs485Window p s) := by
  unfold rs485Window
  dsimp only
  split
  · exact Steady.refl s
  · split
    · split
      · exact Steady.of_kept (by simp)
      · exact (resetIfDue_steady _).via (by simp)
    · exact Steady.of_kept (by simp)

/-! ## The tick -/

theorem pass_steady (s : State) : Steady s (pass s) := by
  unfold pass
  dsimp only
  split
  · exact Steady.refl s
  · have h : (domainTime 250 (fanTime 250 (dioSampled (readyEdge (halyardEdge s))))).kept = s.kept := by simp
    generalize domainTime 250 (fanTime 250 (dioSampled (readyEdge (halyardEdge s)))) = s1 at h ⊢
    refine Steady.trans (Steady.of_kept h) ⟨rfl, fun i => i⟩

/-- Outside a cold reset 250 µs pass. -/
theorem pass_time (s : State) (h : s.pwr.phase ≠ .cold) : (pass s).aon.nowUs = s.aon.nowUs + 250 := by
  unfold pass
  rw [if_neg (by simpa using h)]
  have h : (domainTime 250 (fanTime 250 (dioSampled (readyEdge (halyardEdge s))))).kept = s.kept := by simp
  simp only [State.kept, Prod.mk.injEq] at h
  simp [h]

theorem tick_steady (e : TickEnv) (s : State) : Steady s (tick e s) := by
  unfold tick
  have h1 : Steady s (holdErrors e.ecc (takeMeas e.meas s)) := (holdErrors_steady e.ecc _).via (by simp)
  generalize holdErrors e.ecc (takeMeas e.meas s) = s1 at h1
  have h2 : (portsIfDue (forAll [0, 1, 2, 3, 4] sendNext s1)).kept = s1.kept := by simp
  generalize portsIfDue (forAll [0, 1, 2, 3, 4] sendNext s1) = s2 at h2
  exact (pass_steady _).after (Steady.trans (h1.trans (Steady.of_kept h2))
    (Steady.trans (resetIfDue_steady _) (Steady.of_kept (by simp))))

/-! ## The mailbox (R54, R55) -/

/-- An operation that writes only the mailbox, and keeps its registers in range. -/
theorem steady_of_spi {s t : State} (h : t.stable = s.stable) (w : t.start.warmRun = s.start.warmRun)
    (r : Safety.spiInRange s.spi → Safety.spiInRange t.spi) : Steady s t := by
  refine ⟨h, fun i => ⟨?_, r i.2⟩⟩
  have := i.1
  unfold Safety.warmRunHeld at *
  omega

theorem spiErr_steady (s : State) : Steady s (spiErr s) := by
  refine steady_of_spi rfl rfl fun r => ⟨⟨r.1.1, r.1.2.1, ?_, ?_⟩, r.2⟩
  · exact Nat.or_lt_two_pow r.1.2.2.1 (by decide)
  · have := r.1.2.2.2
    show satInc 0xFFFFFFFF s.spi.errCount ≤ _
    unfold satInc
    split <;> omega

theorem spiGo_steady (s : State) : Steady s (spiGo s) := by
  unfold spiGo
  split
  · exact steady_of_spi rfl rfl id
  · exact spiErr_steady s

theorem spiDone_steady (s : State) : Steady s (spiDone s) := by
  unfold spiDone
  split
  · exact steady_of_spi rfl rfl id
  · exact spiErr_steady s

theorem spiPut_steady (a : Nat) (b : Byte) (s : State) : Steady s (spiPut a b s) := by
  unfold spiPut
  have hb : b.toNat < 256 := b.isLt
  dsimp only
  split
  · split
    · exact steady_of_spi rfl rfl fun r => ⟨r.1, Memory.write_wf _ _ _ r.2.1, r.2.2⟩
    · exact Steady.refl s
  · split
    · have h1 : Steady s (if bit b.toNat 0 then spiGo s else s) := by
        split
        · exact spiGo_steady s
        · exact Steady.refl s
      split
      · exact h1.trans (spiDone_steady _)
      · exact h1
    · refine steady_of_spi rfl rfl fun r => ⟨⟨?_, r.1.2⟩, r.2⟩
      have := r.1.1
      show s.spi.inLen / 256 * 256 + b.toNat < 2 ^ 14
      omega
    · refine steady_of_spi rfl rfl fun r => ⟨⟨?_, r.1.2⟩, r.2⟩
      show b.toNat % 64 * 256 + s.spi.inLen % 256 < 2 ^ 14
      omega
    · refine steady_of_spi rfl rfl fun r => ⟨⟨r.1.1, ?_, r.1.2.2⟩, r.2⟩
      show b.toNat % 8 < 2 ^ 3
      omega
    · refine steady_of_spi rfl rfl fun r => ⟨⟨r.1.1, r.1.2.1, ?_, r.1.2.2.2⟩, r.2⟩
      have := r.1.2.2.1
      show s.spi.irqStatus - (s.spi.irqStatus &&& b.toNat) < 2 ^ 3
      omega
    · exact Steady.refl s

theorem spiPuts_steady (bs : Bytes) (a : Nat) (r : State × Bool) : Steady r.1 (spiPuts a bs r).1 := by
  induction bs generalizing a r with
  | nil => exact Steady.refl _
  | cons b bs ih =>
    rw [spiPuts]
    exact (ih _ _).after (spiPut_steady a b r.1)

theorem spiWrite_steady (a : Nat) (data : Bytes) (s : State) : Steady s (spiWrite a data s) := by
  unfold spiWrite
  dsimp only
  split
  · exact Steady.refl s
  · have h := spiPuts_steady data (a % 65536) (s, false)
    split
    · exact h.trans (spiErr_steady _)
    · exact h

theorem spiTaken_steady (s : State) : Steady s (spiTaken s) := by
  unfold spiTaken
  split
  · exact Steady.refl s
  · dsimp only
    refine (Steady.of_kept (arrive_kept _ _ _ _ _)).after (steady_of_spi rfl rfl fun r =>
      ⟨⟨r.1.1, r.1.2.1, ?_, r.1.2.2.2⟩, r.2⟩)
    exact Nat.or_lt_two_pow r.1.2.2.1 (by decide)

theorem spiPlace_steady (s : State) : Steady s (spiPlace s) := by
  unfold spiPlace
  split
  · exact Steady.refl s
  · split
    · exact Steady.refl s
    · dsimp only
      refine (resetIfDue_steady _).after ((Steady.of_kept (emit_kept _ _)).after
        (steady_of_spi rfl rfl fun r =>
          ⟨⟨r.1.1, r.1.2.1, ?_, r.1.2.2.2⟩, r.2.1, Memory.write_wf _ _ _ r.2.2⟩))
      exact Nat.or_lt_two_pow r.1.2.2.1 (by decide)

/-! ## Starts: SEC_FLOOR may rise (R86), POWERCYCLE rises once in a cold start (R377) -/

/-- What is watched stays, but for a SEC_FLOOR that never falls. -/
structure Rises (s t : State) : Prop where
  pending : t.pending = s.pending
  spi : t.spi = s.spi
  warmRun : t.start.warmRun = s.start.warmRun
  powercycle : t.aon.powercycle = s.aon.powercycle
  floor : s.fw.floor ≤ t.fw.floor

theorem Rises.of_kept {s t : State} (h : t.kept = s.kept) : Rises s t := by
  simp only [State.kept, Prod.mk.injEq] at h
  exact ⟨h.1, h.2.1, h.2.2.1, h.2.2.2.1, Nat.le_of_eq h.2.2.2.2.1.symm⟩

theorem Rises.trans {s t u : State} (h : Rises s t) (k : Rises t u) : Rises s u :=
  ⟨k.pending.trans h.pending, k.spi.trans h.spi, k.warmRun.trans h.warmRun, k.powercycle.trans h.powercycle,
    Nat.le_trans h.floor k.floor⟩

/-- The last operation first. -/
theorem Rises.then_kept {s s' t : State} (h : t.kept = s'.kept) (k : Rises s s') : Rises s t := k.trans (Rises.of_kept h)

theorem Rises.inv {s t : State} (h : Rises s t) (i : Safety.Inv s) : Safety.Inv t :=
  inv_of_guarded (by simp [State.guarded, h.warmRun, h.spi]) i

/-- SEC_FLOOR takes the SEC_VERSION of what runs when it is higher (R86). -/
theorem startFirmware_rises (s : State) : Rises s (startFirmware s) := by
  unfold startFirmware
  dsimp only
  split
  · exact ⟨rfl, rfl, rfl, rfl, Nat.le_max_left _ _⟩
  · exact Rises.then_kept (ttOccur_kept _ _ _ _ _) ⟨rfl, rfl, rfl, rfl, Nat.le_max_left _ _⟩

/-- ADOPTION: WARM_RUN ends, and no more of what is watched changes. -/
theorem adoption_spec (s : State) : adoption s = s ∨
    Rises { s with pwr := { s.pwr with phase := .run }, start := { s.start with warmRun := 0 } } (adoption s) := by
  unfold adoption
  split
  · right
    dsimp only
    generalize hs0 : ({ s with pwr := { s.pwr with phase := .run }, start := { s.start with warmRun := 0 } } : State) = s0
    have h1 : (ttMerge (keepersShow s0)).kept = s0.kept := by simp
    generalize ttMerge (keepersShow s0) = s1 at h1 ⊢
    have h2 : Rises s0 (startFirmware s1) := (Rises.of_kept h1).trans (startFirmware_rises s1)
    generalize startFirmware s1 = s2 at h2 ⊢
    refine Rises.then_kept ?_ h2
    simp
  · exact Or.inl rfl

theorem adoption_stable (s : State) : (adoption s).pending = s.pending ∧ (adoption s).aon.powercycle = s.aon.powercycle
    ∧ s.fw.floor ≤ (adoption s).fw.floor := by
  rcases adoption_spec s with h | h
  · rw [h]; exact ⟨rfl, rfl, Nat.le_refl _⟩
  · exact ⟨h.pending, h.powercycle, h.floor⟩

theorem adoption_inv (s : State) (i : Safety.Inv s) : Safety.Inv (adoption s) := by
  rcases adoption_spec s with h | h
  · rw [h]; exact i
  · exact h.inv ⟨by show (0 : Nat) < 3; decide, i.2⟩

/-- COLD_START: what is not ready to start only reads its supply; otherwise POWERCYCLE rises once (R377, R380). -/
theorem coldStart_spec (cV : Nat) (s : State) : (s.mayStart cV = false ∧ Rises s (coldStart cV s)) ∨
    (s.mayStart cV = true ∧ Rises { s with aon := { s.aon with powercycle := (s.aon.powercycle + 1) % 4294967296 } }
      (coldStart cV s)) := by
  unfold coldStart
  split
  · rename_i h
    exact Or.inl ⟨by simpa using h, Rises.of_kept rfl⟩
  · rename_i h
    refine Or.inr ⟨by simpa using h, ?_⟩
    dsimp only
    generalize hs0 : ({ s with aon := { s.aon with powercycle := (s.aon.powercycle + 1) % 4294967296 } } : State) = s0
    generalize hs2 : ({ coldTime s with
      pwr := { (coldTime s).pwr with phase := .run, vsup := cV, saveDone := false, coldKind := 0, pgood := true }
      start := { (coldTime s).start with startOptime := (coldTime s).optime, kind := s.coldKindNow, keep := 0, correctedN := 0,
                                         corrected := 0, ready := 0, ports := 0 } } : State) = s2
    have h2 : Rises s0 s2 := by subst hs2 hs0; exact ⟨rfl, rfl, rfl, rfl, Nat.le_refl _⟩
    have h3 : (hoist 12 (hoist 1 (clearStats s2))).kept = s2.kept := by simp
    generalize hoist 12 (hoist 1 (clearStats s2)) = s3 at h3 ⊢
    have h4 : Rises s0 (startFirmware s3) := (h2.trans (Rises.of_kept h3)).trans (startFirmware_rises s3)
    generalize startFirmware s3 = s4 at h4 ⊢
    refine Rises.then_kept ?_ h4
    simp

theorem coldStart_inv (cV : Nat) (s : State) (i : Safety.Inv s) : Safety.Inv (coldStart cV s) := by
  rcases coldStart_spec cV s with h | h
  · exact h.2.inv i
  · exact h.2.inv ⟨i.1, i.2⟩

/-- NRST_RELEASE: a cold start from the rising edge, or nothing watched (R378). -/
theorem nrstRelease_spec (s : State) : (nrstRelease s).kept = s.kept ∨
    nrstRelease s = coldStart s.pwr.vsup { s with pwr := { s.pwr with nrstLow := false } } := by
  unfold nrstRelease
  dsimp only
  split
  · exact Or.inr rfl
  · exact Or.inl rfl

theorem nrstRelease_inv (s : State) (i : Safety.Inv s) : Safety.Inv (nrstRelease s) := by
  rcases nrstRelease_spec s with h | h
  · exact inv_of_kept h i
  · rw [h]
    exact coldStart_inv _ _ ⟨i.1, i.2⟩

end Sys2Proof.Machine
end

