-- ==== Sys2Proof/Laws/RigKept.lean ====
section
/-! SUPPORT. The activation of a rig (R133) reaches many blocks and never the rig itself: one lemma for each operation on its
way. -/
namespace Sys2Proof.Machine

theorem forAll_rig {α : Type} (l : List α) (f : α → State → State) (h : ∀ a s, (f a s).rig = s.rig) (s : State) :
    (forAll l f s).rig = s.rig := forAll_same (fun x => x.rig) l f h s

@[simp] theorem rig_ite (c : Prop) [Decidable c] (s t : State) : (if c then s else t).rig = if c then s.rig else t.rig := by
  split <;> rfl

@[simp] theorem dropFor_rig (slot : Nat) (sess : Nat) (s : Sys2Proof.Machine.State) : (dropFor slot sess s).rig = s.rig := by simp [dropFor]

@[simp] theorem notifyOne_rig (k : Nat) (bitNo : Nat) (op : Nat) (body : Sys2Proof.Bytes) (s : Sys2Proof.Machine.State) : (notifyOne k bitNo op body s).rig = s.rig := by simp [notifyOne]

@[simp] theorem notify_rig (bitNo : Nat) (op : Nat) (body : Sys2Proof.Bytes) (s : Sys2Proof.Machine.State) : (notify bitNo op body s).rig = s.rig := by simp [notify, forAll_rig]

@[simp] theorem loopNotice_rig (l : Nat) (new : Nat) (event : Nat) (s : Sys2Proof.Machine.State) : (loopNotice l new event s).rig = s.rig := by simp [loopNotice]

@[simp] theorem raiseFlags_rig (l : Nat) (f : Nat) (event : Nat) (s : Sys2Proof.Machine.State) : (raiseFlags l f event s).rig = s.rig := by simp [raiseFlags]

@[simp] theorem abortInj_rig (l : Nat) (s : Sys2Proof.Machine.State) : (abortInj l s).rig = s.rig := by
  simp only [abortInj]
  repeat' split
  all_goals simp [forAll_rig]

@[simp] theorem keepForCycle_rig (key : Nat) (s : Sys2Proof.Machine.State) : (keepForCycle key s).rig = s.rig := by simp [keepForCycle]

@[simp] theorem fanSettle_rig (i : Nat) (s : Sys2Proof.Machine.State) : (fanSettle i s).rig = s.rig := by rfl

@[simp] theorem fanProve_rig (i : Nat) (s : Sys2Proof.Machine.State) : (fanProve i s).rig = s.rig := by simp [fanProve]

@[simp] theorem fanKicked_rig (i : Nat) (s : Sys2Proof.Machine.State) : (fanKicked i s).rig = s.rig := by simp [fanKicked]

@[simp] theorem fanKick_rig (i : Nat) (tries : Nat) (s : Sys2Proof.Machine.State) : (fanKick i tries s).rig = s.rig := by simp [fanKick]

@[simp] theorem fanSeq_rig (i : Nat) (s : Sys2Proof.Machine.State) : (fanSeq i s).rig = s.rig := by simp [fanSeq]

@[simp] theorem formFan_rig (step : Bool) (i : Nat) (s : Sys2Proof.Machine.State) : (formFan step i s).rig = s.rig := by simp [formFan]

@[simp] theorem ttLose_rig (code : Nat) (s : Sys2Proof.Machine.State) : (ttLose code s).rig = s.rig := by simp [ttLose]

@[simp] theorem ttEnter_rig (stamp : Nat) (code : Nat) (source : Nat) (data : Sys2Proof.Bytes) (s : Sys2Proof.Machine.State) : (ttEnter stamp code source data s).rig = s.rig := by simp [ttEnter]

@[simp] theorem ttLimit_rig (stamp : Nat) (code : Nat) (source : Nat) (data : Sys2Proof.Bytes) (s : Sys2Proof.Machine.State) : (ttLimit stamp code source data s).rig = s.rig := by simp [ttLimit]

@[simp] theorem bankTo_rig (b : Nat) (st : Nat) (s : Sys2Proof.Machine.State) : (bankTo b st s).rig = s.rig := by simp [bankTo]

@[simp] theorem bankDone_rig (b : Nat) (s : Sys2Proof.Machine.State) : (bankDone b s).rig = s.rig := by simp [bankDone]

@[simp] theorem driveLoad_rig (i : Nat) (s : Sys2Proof.Machine.State) : (driveLoad i s).rig = s.rig := by simp [driveLoad]

@[simp] theorem barTest_rig (i : Nat) (s : Sys2Proof.Machine.State) : (barTest i s).rig = s.rig := by simp [barTest]

@[simp] theorem endTests_rig (i : Nat) (s : Sys2Proof.Machine.State) : (endTests i s).rig = s.rig := by
  unfold endTests
  exact forAll_rig _ _ (fun _ _ => by simp) s

@[simp] theorem driveDio_rig (i : Nat) (s : Sys2Proof.Machine.State) : (driveDio i s).rig = s.rig := by simp [driveDio]

@[simp] theorem driveAo_rig (i : Nat) (s : Sys2Proof.Machine.State) : (driveAo i s).rig = s.rig := by rfl

@[simp] theorem applyOut_rig (k : Nat) (s : Sys2Proof.Machine.State) : (applyOut k s).rig = s.rig := by
  simp only [applyOut]
  repeat' split
  all_goals simp

@[simp] theorem forcesNow_rig (s : Sys2Proof.Machine.State) : (forcesNow s).rig = s.rig := by simp [forcesNow, forAll_rig]

@[simp] theorem sheavePlls_rig (s : Sys2Proof.Machine.State) : (sheavePlls s).rig = s.rig := by simp [sheavePlls, forAll_rig]

@[simp] theorem putLine_rig (p : Nat) (h : Sys2Proof.Machine.HalPort) (s : Sys2Proof.Machine.State) : (putLine p h s).rig = s.rig := by simp [putLine]

@[simp] theorem switchOn_rig (p : Nat) (s : Sys2Proof.Machine.State) : (switchOn p s).rig = s.rig := by simp [switchOn]

@[simp] theorem switchOff_rig (p : Nat) (l : Sys2Proof.Machine.LineSt) (s : Sys2Proof.Machine.State) : (switchOff p l s).rig = s.rig := by simp [switchOff]

@[simp] theorem halActivate_rig (old : Sys2Proof.Bytes) (new : Sys2Proof.Bytes) (p : Nat) (s : Sys2Proof.Machine.State) : (halActivate old new p s).rig = s.rig := by simp [halActivate]

@[simp] theorem restartFront_rig (c : Nat) (s : Sys2Proof.Machine.State) : (restartFront c s).rig = s.rig := by rfl

@[simp] theorem pointActivate_rig (old : Sys2Proof.Bytes) (new : Sys2Proof.Bytes) (p : Nat) (s : Sys2Proof.Machine.State) : (pointActivate old new p s).rig = s.rig := by simp [pointActivate]

@[simp] theorem cableActivate_rig (c : Nat) (s : Sys2Proof.Machine.State) : (cableActivate c s).rig = s.rig := by rfl

@[simp] theorem mastActivate_rig (old : Sys2Proof.Bytes) (new : Sys2Proof.Bytes) (m : Nat) (s : Sys2Proof.Machine.State) : (mastActivate old new m s).rig = s.rig := by simp [mastActivate]

@[simp] theorem loopChanged_rig (old : Sys2Proof.Bytes) (new : Sys2Proof.Bytes) (l : Nat) (s : Sys2Proof.Machine.State) : (loopChanged old new l s).rig = s.rig := by simp [loopChanged]

@[simp] theorem loopActivate_rig (old : Sys2Proof.Bytes) (new : Sys2Proof.Bytes) (l : Nat) (s : Sys2Proof.Machine.State) : (loopActivate old new l s).rig = s.rig := by simp [loopActivate]

@[simp] theorem dryActivate_rig (old : Sys2Proof.Bytes) (new : Sys2Proof.Bytes) (i : Nat) (s : Sys2Proof.Machine.State) : (dryActivate old new i s).rig = s.rig := by simp [dryActivate]

@[simp] theorem routeActivate_rig (old : Sys2Proof.Bytes) (new : Sys2Proof.Bytes) (r : Nat) (s : Sys2Proof.Machine.State) : (routeActivate old new r s).rig = s.rig := by simp [routeActivate]

@[simp] theorem elemActivate_rig (new : Sys2Proof.Bytes) (e : Nat) (s : Sys2Proof.Machine.State) : (elemActivate new e s).rig = s.rig := by simp [elemActivate]

@[simp] theorem outActivate_rig (old : Sys2Proof.Machine.State) (k : Nat) (s : Sys2Proof.Machine.State) : (outActivate old k s).rig = s.rig := by
  simp only [outActivate]
  repeat' split
  all_goals simp

@[simp] theorem afeActivate_rig (old : Sys2Proof.Bytes) (new : Sys2Proof.Bytes) (r : Nat) (s : Sys2Proof.Machine.State) : (afeActivate old new r s).rig = s.rig := by simp [afeActivate]

@[simp] theorem setSwitch_rig (n : Nat) (on : Bool) (s : Sys2Proof.Machine.State) : (setSwitch n on s).rig = s.rig := by simp [setSwitch]

@[simp] theorem switchActivate_rig (old : Sys2Proof.Bytes) (new : Sys2Proof.Bytes) (n : Nat) (s : Sys2Proof.Machine.State) : (switchActivate old new n s).rig = s.rig := by simp [switchActivate]

@[simp] theorem setTimeouts_rig (s : Sys2Proof.Machine.State) : (setTimeouts s).rig = s.rig := by rfl

@[simp] theorem periodChanged_rig (old : Nat) (s : Sys2Proof.Machine.State) : (periodChanged old s).rig = s.rig := by simp [periodChanged]

@[simp] theorem portActivate_rig (old : Sys2Proof.Bytes) (new : Sys2Proof.Bytes) (p : Nat) (s : Sys2Proof.Machine.State) : (portActivate old new p s).rig = s.rig := by simp [portActivate]

@[simp] theorem activateKey_rig (old : Sys2Proof.Machine.State) (k : Nat) (s : Sys2Proof.Machine.State) : (activateKey old k s).rig = s.rig := by
  simp only [activateKey]
  repeat' split
  all_goals simp

@[simp] theorem dropQueued_rig (p : Nat) (s : Sys2Proof.Machine.State) : (dropQueued p s).rig = s.rig := by simp [dropQueued, forAll_rig]

@[simp] theorem portRestart_rig (p : Nat) (s : Sys2Proof.Machine.State) : (portRestart p s).rig = s.rig := by simp [portRestart]

@[simp] theorem portsIfDue_rig (s : Sys2Proof.Machine.State) : (portsIfDue s).rig = s.rig := by simp [portsIfDue, forAll_rig]

/-- Of the rig, an activation changes the live descriptors, RIG_VERSION and the transaction, and nothing else (R133). -/
theorem activate_rig (t : Txn) (s : State) (h : s.rig.txn = some t) :
    (activate s).rig = { s.rig with txn := none, live := s.staged t, version := (s.rig.version + 1) % 4294967296 } := by
  unfold activate
  rw [h]
  dsimp only
  rw [ttOccur_rig, portsIfDue_rig, forAll_rig _ _ (fun _ _ => touchObj_rig _ _ _)]
  unfold switchRig
  dsimp only
  rw [forcesNow_rig, sheavePlls_rig, forAll_rig _ _ (fun _ _ => activateKey_rig _ _ _), forAll_rig _ _ (fun _ _ => keepForCycle_rig _ _)]

end Sys2Proof.Machine
end

