-- ==== Sys2Proof/Laws/Served.lean ====
section
/-! SUPPORT. The one lemma every opcode row goes through: a packet that is served runs its command at once. -/
namespace Sys2Proof.Machine
/-- A packet that is admitted with nothing before it: its command is queued, taken and run (R69, R100, R111; log 6). -/
theorem served_row (op : Nat) (p : Packet) (s : State) (h : Safety.servable op p s = true) (hello : op ≠ 0x0101) (auth : op ≠ 0x0102) :
    hostRow op p s = Safety.served runCmd op p s := by
  simp only [Safety.servable, Safety.arrives, Bool.and_eq_true, decide_eq_true_eq, beq_iff_eq, bne_iff_ne, Option.isNone_iff_eq_none, List.isEmpty_iff] at h
  obtain ⟨⟨⟨⟨⟨⟨⟨⟨⟨⟨hwf, hlt⟩, hport⟩, hreq⟩, hroom⟩, hecc⟩, hq⟩, hr⟩, hd⟩, hs⟩, hadm⟩ := h
  have hk : p.session.toNat ≠ 0xFF := fun e => hs (BitVec.eq_of_toNat_eq (by simpa using e))
  have harr : arrive p.port p.addr (packetBytes op p) p.ecc s = enqueue (Safety.cmdOf op p s) (heard p.session.toNat p.port p.addr s) := by
    unfold arrive
    simp only [packet_session, packet_opcode op p hlt, packet_tag, packet_payload op p hwf, hport, hreq, hroom, hd, hk, hecc, if_false]
    simp [sessionPacket, hadm, Safety.cmdOf, hello, auth]
  have hh := heard_queue p.session.toNat p.port p.addr s
  have hup : s.up = true := by
    simp only [State.portOn, Bool.and_eq_true] at hport; exact hport.1.1.1
  have hc : (Safety.cmdOf op p s).op = op := rfl
  unfold hostRow
  simp only [harr]
  have hjs : s.jrnl.head < (Safety.cmdOf op p s).jseq := by
    simp [Safety.cmdOf, newCmd, hh]
  generalize hs1 : enqueue (Safety.cmdOf op p s) (heard p.session.toNat p.port p.addr s) = s1
  have hqq : s1.host.queue = [Safety.cmdOf op p s] ∧ s1.host.running = [] ∧ s1.pwr = s.pwr := by
    subst hs1
    simp [enqueue, hh, hq, hr]
  have hnext : s1.nextCmd = some (Safety.cmdOf op p s) := by
    simp [State.nextCmd, hqq, State.authWaits, hc, auth]
  rw [hnext]
  simp only [hjs, if_true]
  have hecc' : (Safety.cmdOf op p s).ecc = [] := rfl
  unfold execute Safety.served Safety.before
  rw [hecc']
  simp only [holdErrors, forAll, List.foldl, hs1, hc, hqq]
  simp [State.up, eccHits] at hup ⊢
  simp [hqq, hup, auth]
end Sys2Proof.Machine
end

