-- ==== Sys2Proof/Machine/Lands.lean ====
section
/-! DEFINITION. What the module shows at its lands in each state (R394): the state of every land group as a function of the
machine's state. -/
namespace Sys2Proof.Machine

/-! ## Fans (R325, R327, R331, R336, R340) -/

/-- An FPWM land. -/
inductive FanLand where
  /-- Nothing drives or pulls the land. -/
  | highZ
  /-- The open drain is released. -/
  | released
  /-- The open drain sinks. -/
  | low
  /-- In each period of `period` FAN cycles the land is released for `on` cycles and held low for the rest. -/
  | releasedFor (on period : Nat)
  /-- In each period the land sinks for `on` cycles and is released for the rest. -/
  | lowFor (on period : Nat)
deriving DecidableEq, Repr

/-- P = round(50,000,000 / PWM_HZ), in FAN cycles (R325). -/
def fanPeriod (hz : Nat) : Nat := (divRound 50000000 hz).toNat

/-- The on time of a duty, round(D × P / 2,047) FAN cycles (R325). -/
def fanOnTime (duty hz : Nat) : Nat := (divRound (duty * fanPeriod hz : Nat) 2047).toNat

/-- What a working channel shows for a duty (R325). -/
def fanWave (inv : Bool) (hz duty : Nat) : FanLand :=
  let p := fanPeriod hz
  let on := fanOnTime duty hz
  if on = 0 then (if inv then .released else .low)
  else if p ≤ on then (if inv then .low else .released)
  else if inv then .lowFor on p else .releasedFor on p

/-- FPWMn: high impedance in a cold reset (R340), released while the channel is disabled (R327) or has PWM_SHORT (R331, R336),
and otherwise by the driven duty. BLOCKED leaves duty 0, which PWM_INV makes low or released. The phase of the PWM is not held:
a new duty shows at once, within the period it waits for (log 67). -/
def State.fpwm (s : State) (i : Nat) : FanLand :=
  let c := s.fan i
  if s.pwr.phase == .cold || !(s.die 1).conf then .highZ
  else if !s.en 0x0A i || c.fault = 3 then .released
  else fanWave (s.db 0x0A i 0 4 1 == 1) (s.df 0x0A i 2 2) c.driven

/-- The pull-up of FTACHn to VIO is on (R327, R340, R363). -/
def State.ftachPull (s : State) (i : Nat) : Bool :=
  s.pwr.phase != .cold && (s.die 1).conf && !s.pwr.vioLow && s.db 0x0A i 0 6 1 == 1

/-! ## DIO and loads (R294, R297, R301, R302, R306, R309, R321) -/

/-- A DIO land. -/
inductive DioLand where
  | highZ
  /-- An input draws up to this current, in 0.1 mA (R296). -/
  | limiter (dmA : Nat)
  /-- The switch from VDIO is on. -/
  | supply
  /-- The switch is off and blocks. -/
  | off
deriving DecidableEq, Repr

/-- DIOn. -/
def State.dioPin (s : State) (i : Nat) : DioLand :=
  if !s.dioLive i then .highZ
  else if s.db 0x0C i 0 1 1 = 0 then .limiter (if s.db 0x0C i 0 2 2 = 2 then 70 else 25)
  else if (s.dio i).on && !s.dioPulsed i then .supply
  else .off

/-- The output lands of a load channel. -/
inductive LoadLand where
  | highZ
  /-- The switch from VBB is on. -/
  | supply
  /-- Lamp mode: on for `duty` of 1,024 at `hz` (R309). -/
  | lamp (hz duty : Nat)
  | off
deriving DecidableEq, Repr

/-- LSWn. -/
def State.lsw (s : State) (i : Nat) : LoadLand :=
  if !s.loadLive i then .highZ
  else if !(s.load i).on then .off
  else if s.loadDuty i = 1024 then .supply
  else .lamp (fld (s.ld i) 18 2) (s.loadDuty i)

/-! ## The front end (R277, R288, R289, R293) -/

/-- The channels whose switches join analogue pin `a` now: every enabled direct channel on it, and of each converter the scan
channel that is made. `ns` is the time since t0 of each converter's step. None in a cold reset (R293). -/
def State.apJoined (s : State) (a ns : Nat) : List Nat :=
  if !s.afeUp then [] else
    ((s.enabled 0x0F).map (dkey 0x0F)).filter (fun r => (afePins (s.afd r)).contains a)
      ++ (List.range 8).filterMap (fun c => match (s.scanSw c ns).made with
        | some i => if (afePins (s.d 0x10 i)).contains a then some (dkey 0x10 i) else none
        | none => none)

/-- An analogue output: the quantity it drives, in V or in mA. -/
inductive AoLand where
  | highZ
  | volts (v : Rat)
  | milliamps (v : Rat)
deriving DecidableEq, Repr

/-- AOn (R288 to R290, R293): 0 V or 0 mA while it does not drive, high impedance while the module is unpowered. -/
def State.aoPin (s : State) (i : Nat) : AoLand :=
  let c := s.ao i
  let current := s.db 0x0D i 0 1 1 == 1
  let v : Rat := (c.value : Rat) / 65535
  if s.pwr.vsup = 0 then .highZ
  else if !s.aoLive i || (s.out (dkey 0x0D i)).row = 1 then (if current then .milliamps 0 else .volts 0)
  else if current then .milliamps (4 + 16 * v)
  else .volts (10 * v)

/-! ## Halyard lines (R146, R147, R163) -/

/-- An HL line. -/
inductive HalLand where
  | highZ
  /-- The switch is off; the port forwards no supply. -/
  | off
  /-- The switch is on with its current limited, in mA. -/
  | supply (limit : Nat)
deriving DecidableEq, Repr

/-- HLp: the probe limits the current to 60 mA, and the port's LIMIT stands after it (R147). -/
def State.hl (s : State) (p : Nat) : HalLand :=
  let h := s.hp p
  if !s.halRuns then .highZ
  else if !h.isOn then .off
  else .supply (if h.probing then 60 else s.df 0x01 p 2 2)

/-! ## Host ports (R36, R43, R55, R394) -/

/-- A host port's lands. -/
inductive PortLand where
  | highZ
  /-- 10BASE-T1L: the termination alone. -/
  | termination
  /-- 10BASE-T1L through a warm reset: the PHY keeps the link, and frames received are discarded. -/
  | linkOnly
  /-- CAN: driven recessive. -/
  | recessive
  /-- The port takes part on its medium. -/
  | active
deriving DecidableEq, Repr

/-- The lands of host port `p`: T1L0, T1L1, RMII, CAN0, CAN1, RS0, RS1, SPI. -/
def State.portLand (s : State) (p : Nat) : PortLand :=
  let enabled := s.pwr.phase != .cold && s.portEn p && !(vioPort p && s.pwr.vioLow)
  if s.portOn p then .active
  else match p with
    | 0 | 1 => if enabled && s.pwr.phase == .warm then .linkOnly else .termination
    | 3 | 4 => if s.pwr.vio = 0 then .highZ else .recessive
    | _ => .highZ

/-- RMII_TXEN is held low by its 100 kΩ while the outputs are high impedance (R394). -/
def State.txenPulled (s : State) : Bool := s.portLand 2 == .highZ

/-- SPI_SDO drives only while its port takes part (R36). -/
def State.sdoDrives (s : State) : Bool := s.portLand 7 == .active

/-- nSPIIRQ is pulled low (R55); otherwise it is released. -/
def State.irqLow (s : State) : Bool := spiIrq s

/-- PGOOD is low (R378). -/
def State.pgoodLow (s : State) : Bool := !s.pwr.pgood

end Sys2Proof.Machine
end

