-- ==== Sys2Proof/Machine/Package.lean ====
section
/-! DEFINITION. The land grid of the package (R396 to R401): which land stands at each position, where it lies, and what it
shows (R394, R397). -/
namespace Sys2Proof.Machine

/-- A land of the module, by the names of R397. -/
inductive Land where
  | hl (p : Nat) | vhal (g : Nat) | hgnd (g : Nat)
  | dio (n : Nat) | vdio (d : Nat)
  | lsw (n : Nat) | lswS (n : Nat) | vbb (b : Nat) | pgnd
  | fpwm (n : Nat) | ftach (n : Nat)
  | ap (k : Nat) | ao (k : Nat) | aref
  | t1lP (p : Nat) | t1lN (p : Nat)
  | rmiiRefclk | rmiiTxen | rmiiTxd (b : Nat) | rmiiCrsdv | rmiiRxd (b : Nat) | rmiiRxer | rmiiMdc | rmiiMdio
  | canTx (c : Nat) | canRx (c : Nat)
  | rsA (r : Nat) | rsB (r : Nat)
  | spiNcs | spiSck | spiSdi | spiSdo | nSpiIrq
  | xt32A | xt32B | xt25A | xt25B
  | nRst | pgood | lockout
  | vsup | vio | vcap (n : Nat) | dnc | gnd | th
deriving DecidableEq, Repr

/-! ## Positions (R396, R398 to R401) -/

/-- The north band (R398): row 1 to 12, column `x` 1 to 18 of power die `e`. -/
def northLand (e r x : Nat) : Land :=
  if r ≤ 4 then
    let n := 12 * (2 * e + (r - 1) / 2) + 6 * ((r - 1) % 2) + (x - 1) / 3
    if x % 3 = 0 then .lswS n else .lsw n
  else if r ≤ 6 then (if x ≤ 16 then .vbb (2 * e + (r - 5)) else .pgnd)
  else if r ≤ 8 then (if x ≤ 16 then .pgnd else .th)
  else
    let d := 2 * e + (r - 9) / 2
    if x ≤ 12 then .dio (24 * d + 12 * ((r - 9) % 2) + (x - 1))
    else if x ≤ 15 then .vdio d
    else .th

/-- The east band (R399): row 13 to 28, column 28 to 39. -/
def eastLand (r c : Nat) : Land :=
  let g := (r - 13) / 2
  if c = 28 then .th
  else if c = 29 then .hgnd g
  else if c ≤ 31 then .vhal g
  else .hl (16 * g + 8 * ((r - 13) % 2) + (c - 32))

/-- The south band (R400): row 29 to 39. -/
def southLand (r c : Nat) : Land :=
  let n := 39 * ((39 - r) / 2) + (c - 1)
  if r = 29 || 192 ≤ n then .gnd
  else if (39 - r) % 2 = 0 then .fpwm n
  else .ftach n

/-- The logic block (R401), rows 21 to 28 from column 1. -/
def logicRows : List (List Land) :=
  [[.t1lP 0, .t1lN 0, .gnd, .t1lP 1, .t1lN 1, .gnd, .rsA 0, .rsB 0, .gnd, .rsA 1, .rsB 1, .gnd],
   [.canTx 0, .canRx 0, .canTx 1, .canRx 1, .gnd, .spiNcs, .spiSck, .spiSdi, .spiSdo, .nSpiIrq, .gnd, .vio],
   [.rmiiRefclk, .gnd, .rmiiTxen, .rmiiTxd 0, .rmiiTxd 1, .rmiiCrsdv, .rmiiRxd 0, .rmiiRxd 1, .rmiiRxer, .rmiiMdc, .rmiiMdio,
    .vio],
   [.xt32A, .xt32B, .gnd, .xt25A, .xt25B, .gnd, .nRst, .pgood, .lockout, .gnd, .vio, .vio],
   List.replicate 8 .vsup ++ List.replicate 4 .gnd,
   [.vcap 0, .vcap 1, .vcap 2, .vcap 3, .vcap 4, .vcap 5] ++ List.replicate 6 .gnd,
   List.replicate 12 .dnc,
   List.replicate 9 .dnc ++ List.replicate 3 .gnd]

/-- The west band (R401): row 13 to 28, column 1 to 12. -/
def westLand (r c : Nat) : Land :=
  if r ≤ 20 then
    if c ≤ 8 then .ap (8 * (r - 13) + (c - 1))
    else if c = 9 then .aref
    else if c ≤ 11 then .ao ((r - 13) + 8 * (c - 10))
    else .gnd
  else ((logicRows.getD (r - 21) []).getD (c - 1) .dnc)

/-- The land at row `r` and column `c` (R396); none off the grid. -/
def landAt (r c : Nat) : Option Land :=
  if r = 0 || c = 0 || 39 < r || 39 < c then none
  else if r ≤ 12 then some (if c ≤ 18 then northLand 0 r c else if c ≤ 21 then .th else northLand 1 r (c - 21))
  else if r ≤ 28 then some (if c ≤ 12 then westLand r c else if c ≤ 27 then .th else eastLand r c)
  else some (southLand r c)

/-- Every position of the grid. -/
def landGrid : List (Nat × Nat) := (List.range 39).flatMap (fun r => (List.range 39).map (fun c => (r + 1, c + 1)))

/-- The positions of a land (R398 to R401). -/
def landPositions (l : Land) : List (Nat × Nat) := landGrid.filter (fun p => landAt p.1 p.2 == some l)

/-- The centre of a land from the centre of the body, µm, east and north (R396). -/
def landCentre (r c : Nat) : Int × Int := (((c : Int) - 20) * 1500, (20 - (r : Int)) * 1500)

/-! ## What the lands show (R394) -/

/-- A logic-level or power-good land. -/
inductive LogicLand where
  | highZ
  /-- Open drain, released. -/
  | released
  /-- Open drain, low. -/
  | low
  /-- Held low by the internal resistor. -/
  | heldLow
  /-- Driven recessive. -/
  | recessive
  /-- Driven by a working port, or an input that a working port reads. -/
  | inUse
  /-- The 50 MHz clock. -/
  | clock
deriving DecidableEq, Repr

/-- What a land shows: the state of its group. -/
inductive Shown where
  | fan (l : FanLand)
  | tach (pulledUp : Bool)
  | dio (l : DioLand)
  | load (l : LoadLand)
  | sense
  /-- An analogue pin and the channels whose switches join it. -/
  | pin (joined : List Nat)
  | analogue (l : AoLand)
  | halyard (l : HalLand)
  | port (l : PortLand)
  | logic (l : LogicLand)
  /-- A supply, reference, ground, crystal, thermal or unconnected land, and an input that nothing changes. -/
  | passive
deriving DecidableEq, Repr

/-- A land of the RMII, CAN or SPI ports that works with its port. -/
def State.logicOf (s : State) (p : Nat) : Shown := .logic (if s.portLand p == .active then .inUse else .highZ)

/-- What each land shows now (R394); `ns` is the time since t0 of each scan converter's step. -/
def State.shows (s : State) (ns : Nat) : Land → Shown
  | .hl p => .halyard (s.hl p)
  | .dio n => .dio (s.dioPin n)
  | .lsw n => .load (s.lsw n)
  | .lswS _ => .sense
  | .fpwm n => .fan (s.fpwm n)
  | .ftach n => .tach (s.ftachPull n)
  | .ap k => .pin (s.apJoined k ns)
  | .ao k => .analogue (s.aoPin k)
  | .t1lP p | .t1lN p => .port (s.portLand p)
  | .rsA r | .rsB r => .port (s.portLand (5 + r))
  | .rmiiRefclk => if s.refclkOut then .logic .clock else s.logicOf 2
  | .rmiiTxen => if s.txenPulled then .logic .heldLow else s.logicOf 2
  | .rmiiTxd _ | .rmiiCrsdv | .rmiiRxd _ | .rmiiRxer | .rmiiMdc | .rmiiMdio => s.logicOf 2
  | .canTx c => match s.portLand (3 + c) with
    | .active => .logic .inUse
    | .recessive => .logic .recessive
    | _ => .logic .highZ
  | .spiSdo => .logic (if s.sdoDrives then .inUse else .highZ)
  | .nSpiIrq => .logic (if s.irqLow then .low else .released)
  | .pgood => .logic (if s.pgoodLow then .low else .released)
  | .canRx _ | .spiNcs | .spiSck | .spiSdi | .nRst | .lockout => .passive
  | .vhal _ | .hgnd _ | .vdio _ | .vbb _ | .pgnd | .aref | .vsup | .vio | .vcap _ | .dnc | .gnd | .th => .passive
  | .xt32A | .xt32B | .xt25A | .xt25B => .passive

end Sys2Proof.Machine
end

