-- ==== Sys2Proof/Machine/Ratings.lean ====
section
/-! DEFINITION. The figures of the module that no step reads: supply ranges (R360, R410), the draw and dissipation tables (R364,
R369 to R371), the levels of inputs (R411, R412), absolute limits (R408), and the thermal and life figures (R415 to R417). -/
namespace Sys2Proof.Machine

/-! ## Supplies (R360, R364, R410) -/

/-- A supply in its range of service, 0.01 V (R360, R410). -/
def inService : Land → Nat → Bool
  | .vsup, v => decide (900 ≤ v ∧ v ≤ 3600)
  | .vio, v => decide (300 ≤ v ∧ v ≤ 360)
  | .vhal _, v => decide (1000 ≤ v ∧ v ≤ 1500)
  | .vdio _, v | .vbb _, v => decide (1200 ≤ v ∧ v ≤ 3200)
  | _, _ => false

/-- Every supply as last read is in its range. -/
def State.supplied (s : State) : Bool :=
  inService .vsup s.pwr.vsup && inService .vio s.pwr.vio
    && (List.range 8).all (fun g => inService (.vhal g) (Tbl.rd 0 s.pwr.vhal g))
    && (List.range 4).all (fun g => inService (.vdio g) (Tbl.rd 0 s.pwr.vdio g) && inService (.vbb g) (Tbl.rd 0 s.pwr.vbb g))

/-- The least capacitance on VSUP for a draw of `mW` over `us` from 5.5 V to 3.5 V, µF (R364). -/
def holdUp (mW us : Nat) : Rat := 2 * (mW : Rat) / 1000 * us / (55 * 55 - 35 * 35) * 100

/-! ## Draw and dissipation (R369 to R371) -/

/-- Idle, typical and peak draw of each domain in the order of R369, 0.1 mW. -/
def domainDraw : List (Nat × Nat × Nat) :=
  [(40, 40, 40), (120, 950, 7500), (1000, 1300, 4500), (0, 400, 3500), (0, 50, 2500), (0, 65, 1500), (0, 65, 1500),
   (0, 425, 10750), (0, 425, 10750), (0, 1400, 2500), (0, 750, 2000), (0, 1100, 4000), (60, 260, 4300), (0, 350, 3240)]

/-- Draw of the reference and PLLs, of the platform and of the analogue drive (R369), 0.1 mW. -/
def otherDraw : List (Nat × Nat × Nat) := [(60, 200, 300), (520, 520, 6120), (0, 700, 9400)]

/-- Platform draw by junction temperature, °C and mW (R370). -/
def platformDraw : List (Int × Nat) := [(-40, 45), (25, 52), (85, 190), (125, 380), (150, 612)]

/-- Worst dissipation of logic, analogue drive, loads, DIO and Halyard ports, mW (R371). -/
def worstDissipation : List Nat := [6500, 940, 12000, 4260, 1300]

/-! ## Limits (R402, R408) -/

/-- Absolute limits of a land, 0.01 V, against the ground of its group, with VIO as it stands (R408); none where a land is not
to be driven or has no limit. -/
def absoluteLimits (vio : Nat) : Land → Option (Int × Int)
  | .vsup => some (-3600, 6000)
  | .vhal _ | .vdio _ | .vbb _ => some (-3600, 3600)
  | .vio => some (-30, 400)
  | .hl _ | .dio _ | .lsw _ | .lswS _ | .fpwm _ | .ftach _ | .lockout | .pgood => some (-3600, 3600)
  | .ap _ | .ao _ => some (-3000, 3000)
  | .rsA _ | .rsB _ => some (-1500, 1500)
  | .t1lP _ | .t1lN _ => some (-50, 550)
  | .rmiiRefclk | .rmiiTxen | .rmiiTxd _ | .rmiiCrsdv | .rmiiRxd _ | .rmiiRxer | .rmiiMdc | .rmiiMdio
  | .canTx _ | .canRx _ | .spiNcs | .spiSck | .spiSdi | .spiSdo | .nSpiIrq => some (-30, min (vio + 30) 400)
  | .nRst => some (-30, 600)
  | .xt32A | .xt32B | .xt25A | .xt25B => some (-30, 200)
  | .pgnd | .hgnd _ | .aref => some (-50, 50)
  | .vcap _ | .dnc | .gnd | .th => none

/-- Current that a land carries, mA: continuously, and for 20 µs (R402). -/
def landCurrent : Nat × Nat := (1500, 15000)

/-- What a logic-level input reads: low up to 0.3 VIO, high from 0.7 VIO (R411); none between. -/
def logicReads (vio cV : Nat) : Option Bool :=
  if 10 * cV ≤ 3 * vio then some false else if 7 * vio ≤ 10 * cV then some true else none

/-- What a die reads on LOCKOUT: inactive below 0.8 V, active above 2.0 V (R412); none between. -/
def lockoutReads (cV : Nat) : Option Bool := if cV < 80 then some false else if 200 < cV then some true else none

/-! ## Heat and life (R415 to R417) -/

/-- Junction over lid, and junction over board, in 0.1 K/W (R415). -/
def thetaJc : Nat := 6
def thetaJb : Nat := 30

/-- The highest lid temperature at a dissipation of `mW`, °C (R416). -/
def lidLimit (mW : Nat) : Rat := 150 - thetaJc * (mW : Rat) / 10000

/-- Acceleration of wear at a junction temperature in °C, relative to 85 °C (R417): above 150 °C as at 150 °C. -/
def wearFactor (t : Rat) : Rat :=
  let k : Rat := min t 150 + 27315 / 100
  ((fxExp (fxOf (8123 * (1 / (35815 / 100) - 1 / k)))).getD 0 : Rat)

/-- The powered hours of a life, each with its junction temperature, stay within the budget of R417. -/
def lifeHeld (l : List (Rat × Rat)) : Bool := decide ((l.map (fun e => e.1 * wearFactor e.2)).sum ≤ 768700)

end Sys2Proof.Machine
end

