-- ==== Sys2Proof/Tests/Slice0.lean ====
section
/-! SUPPORT. Tests of the model: a concrete state for every hypothesis of the statements, ill-formed terms for every check of
`Instr.wf`, and the spec's own worked figures. -/
open Sys2Proof Sys2Proof.Machine
namespace Sys2Proof.Tests
set_option Elab.async false

/-! ## A packet of session 0, tagged with its key -/

/-- The key of session 0 in these states. -/
def ks : Bytes := [1#8]

/-- A packet of session 0 for port 0 before its tag is put on. -/
def bare (pl : Bytes) : Packet :=
  { port := 0, addr := 1, version := 1#8, flags := 0#8, session := 0#8, rsvd5 := 0#8, hostTag := 1#64, rsvd18 := zeros 6,
    payload := pl, mac := [], ecc := [] }

/-- A packet of session 0 with HOST_TAG 1. -/
def pkt (op : Nat) (pl : Bytes) : Packet := { bare pl with mac := (hmac ks (packetBytes op (bare pl))).take 16 }

/-- What is left to check once the tag is right. -/
def quick (op : Nat) (pl : Bytes) (s : State) : Bool :=
  decide (op < 65536) && decide (pl.length ≤ 8192) && s.portOn 0 && s.start.resetReq.isNone && s.roomFor (40 + pl.length)
    && s.host.queue.isEmpty && s.host.running.isEmpty && (s.ses 0).live && (s.ses 0).ending.isNone && (s.ses 0).ks == ks
    && admission 0 op 1 true pl (heard 0 0 1 s) == 0

theorem sha256_length (b : Bytes) : (sha256 b).length = 32 := by
  unfold sha256
  generalize b ++ [0x80#8] ++ zeros ((119 - b.length % 64) % 64) ++ be 8 (8 * b.length) = m
  have h : ∀ n hs bs, hs.length = 8 → (shaBlocks n hs bs).length = 8 := by
    intro n
    induction n with
    | zero => intro hs bs h; exact h
    | succ n ih => intro hs bs h; exact ih _ _ (by simp [shaBlock, h])
  have h8 := h (m.length / 64) (beWords 8 (be 32 shaStart)) m rfl
  simp only []
  generalize shaBlocks _ _ _ = l at h8 ⊢
  have : (fun a => (be 4 a).length) = fun _ => 4 := by funext a; simp [be]
  rw [List.length_flatMap, this]
  match l, h8 with
  | [_, _, _, _, _, _, _, _], _ => rfl

theorem hmac_length (k b : Bytes) : (hmac k b).length = 32 := sha256_length _

theorem pkt_wf (op : Nat) (pl : Bytes) (h : pl.length ≤ 8192) : (pkt op pl).wf = true := by
  simp [Packet.wf, pkt, bare, h, hmac_length]

theorem pkt_tag_right (op : Nat) (pl : Bytes) :
    (hmac ks ((packetBytes op (pkt op pl)).take ((packetBytes op (pkt op pl)).length - 16))).take 16
      = (packetBytes op (pkt op pl)).drop ((packetBytes op (pkt op pl)).length - 16) := by
  have hb : packetBytes op (pkt op pl) = packetBytes op (bare pl) ++ (pkt op pl).mac := by
    simp [packetBytes, pkt, bare]
  have hm : (pkt op pl).mac.length = 16 := by simp [pkt, hmac_length]
  rw [hb]
  simp [hm]
  rfl

theorem servable_pkt {op : Nat} {pl : Bytes} {s : State} (h : quick op pl s = true) : Safety.servable op (pkt op pl) s = true := by
  simp only [quick, Bool.and_eq_true, decide_eq_true_eq, beq_iff_eq] at h
  obtain ⟨⟨⟨⟨⟨⟨⟨⟨⟨⟨hop, hl⟩, hp⟩, hr⟩, hroom⟩, hq⟩, hrun⟩, hlive⟩, hend⟩, hks⟩, hadm⟩ := h
  have hw := pkt_wf op pl hl
  have hlen := packetBytes_length op (pkt op pl) hw
  have hpl : (pkt op pl).payload = pl := rfl
  have hrsv : headerRsv (packetBytes op (pkt op pl)) = true := by
    simp [headerRsv, rsv, packetBytes, pkt, bare, fit, zeros, fld, leNat, le, cut, allZero]
  have hd : discardReason (packetBytes op (pkt op pl)) s = none := by
    have ht := pkt_tag_right op pl
    unfold discardReason
    simp only [packet_magic, packet_version, packet_flags, packet_session, packet_plen op _ hw, hlen, hpl] at ht ⊢
    have e1 : (pkt op pl).session.toNat = 0 := rfl
    have e2 : (pkt op pl).version.toNat = 1 := rfl
    have e3 : bit (pkt op pl).flags.toNat 0 = false := by simp [pkt, bare, bit]
    simp [e1, e2, e3, hlive, hks, ht]
    omega
  have hadm' : admission (pkt op pl).session.toNat op (pkt op pl).hostTag.toNat true (pkt op pl).payload
      (heard (pkt op pl).session.toNat (pkt op pl).port (pkt op pl).addr s) = 0 := hadm
  have hp' : s.portOn (pkt op pl).port = true := hp
  simp [Safety.servable, Safety.arrives, hd, hrsv, hw, hlen, hpl, hop, hp', hroom]
  exact ⟨⟨⟨⟨⟨by simpa using hr, rfl⟩, by simpa using hq⟩, by simpa using hrun⟩, fun e => absurd e (show ¬ (0#8 = 255#8) by decide)⟩, hadm'⟩

theorem withByte_pkt {op off : Nat} {v : Byte} {pl : Bytes} (h : setAt pl off v = pl) :
    withByte off v (pkt op pl) = pkt op pl := by simp [withByte, pkt, bare, h]

/-! ## States -/

/-- A die with a live configuration. -/
def liveDie : Die := { Die.dflt with conf := true }

/-- The bare rig with descriptors patched: DTYPE, INDEX, offset and bytes. -/
def rigOf (l : List (Nat × Nat × List (Nat × Bytes))) : Tbl Bytes :=
  l.foldl (fun t e => descPut t (dkey e.1 e.2.1) (e.2.2.foldl (fun bs p => patch bs p.1 p.2) (descOf t e.1 e.2.1))) bareRig

/-- A module that runs, everything ready, its dies configured, Ethernet 0 up, session 0 live, long after every timer. -/
def alive : State :=
  { State.reset with
    aon := { State.reset.aon with nowUs := 1000000000000 }
    pwr := { State.reset.pwr with phase := .run, vsup := 2400, vio := 330, domains := [(0, { Domain.dflt with hoisted := true }),
      (9, { Domain.dflt with hoisted := true })] }
    start := { State.reset.start with ready := 0x3FFFF }
    net := { State.reset.net with ports := [(1, { PortSt.dflt with up := false }), (2, { PortSt.dflt with up := false })] }
    sess := [(0, { Sess.dflt with live := true, role := 4, jseq := 1, ks := ks, quota := Quota.std, tok := 50000000 })]
    io := { State.reset.io with dies := [(1, liveDie), (2, liveDie), (3, liveDie)] }
    rig := { State.reset.rig with live := bareRig } }

/-- That module with descriptors patched. -/
def rigged (l : List (Nat × Nat × List (Nat × Bytes))) : State := { alive with rig := { alive.rig with live := rigOf l } }

/-- ENABLE alone, or a byte 0 that holds it. -/
def on (b : Byte) : List (Nat × Bytes) := [(0, [b])]

/-- All eight host ports enabled. -/
def wired : State := rigged [(0x21, 1, on 1#8), (0x21, 2, on 1#8), (0x21, 3, on 1#8), (0x21, 4, on 1#8), (0x21, 6, on 1#8)]

/-! ## The whole block -/

theorem witness_StepRunsFront : { alive with pending := [.readyNotice] }.pending = [.readyNotice] ∧ alive.pending = [] := by decide

theorem witness_Inv : Safety.Inv alive ∧ Safety.Inv State.reset := by
  unfold Safety.Inv Safety.warmRunHeld Safety.spiInRange
  decide

/-- Every row answers a next state, so every statement about one has its case (ExecKeepsQueue, FloorNeverFalls and their kin). -/
theorem witness_next : exec .xt25Fail alive = .next { alive with pwr := { alive.pwr with xt25Fail := true } }
    ∧ step { alive with pending := [.xt25Fail] } = .next { alive with pwr := { alive.pwr with xt25Fail := true } } := ⟨rfl, rfl⟩

theorem witness_ColdEnds : ∃ t, exec (.coldStart 2400) State.reset = .next t ∧ State.reset.pwr.phase = .cold ∧ t.pwr.phase ≠ .cold :=
  ⟨_, rfl, rfl, by decide +kernel⟩

/-- Each reason of R61: a short packet; MAGIC; VERSION; FROM_DEVICE; PLEN; no such slot; no session; a wrong tag. -/
theorem witness_DiscardsAreSilent :
    alive.portOn 0 = true ∧ alive.start.resetReq = none ∧ alive.roomFor 40 = true
    ∧ (zeros 39).length < 40 ∧ fld (zeros 40) 0 2 ≠ 0x4C58 ∧ fld (0x58#8 :: 0x4C#8 :: zeros 38) 2 1 ≠ 1
    ∧ bit (fld ([0x58#8, 0x4C#8, 1#8, 1#8] ++ zeros 36) 3 1) 0 = true
    ∧ 40 + fld ([0x58#8, 0x4C#8, 1#8, 0#8] ++ zeros 12 ++ [1#8] ++ zeros 23) 16 2 ≠ 40
    ∧ 8 ≤ fld ([0x58#8, 0x4C#8, 1#8, 0#8, 8#8] ++ zeros 35) 4 1 ∧ (alive.ses 1).live = false
    ∧ (let b := [0x58#8, 0x4C#8, 1#8, 0#8] ++ zeros 36
       (hmac (alive.ses (fld b 4 1)).ks (b.take (b.length - 16))).take 16 ≠ b.drop (b.length - 16)) := by decide +kernel

/-- Commands of a wrong length are refused, one with its tag used before is a resend. -/
def heardTag : State := alive.setSes 0 { alive.ses 0 with highTag := 1 }

theorem discard_pkt {op : Nat} {pl : Bytes} {s : State} (hl : pl.length ≤ 8192) (h : (s.ses 0).live = true)
    (hk : (s.ses 0).ks = ks) : discardReason (packetBytes op (pkt op pl)) s = none := by
  have hw := pkt_wf op pl hl
  have hlen := packetBytes_length op (pkt op pl) hw
  have ht := pkt_tag_right op pl
  have e4 : (pkt op pl).payload = pl := rfl
  unfold discardReason
  simp only [packet_magic, packet_version, packet_flags, packet_session, packet_plen op _ hw, hlen, e4] at ht ⊢
  have e1 : (pkt op pl).session.toNat = 0 := rfl
  have e2 : (pkt op pl).version.toNat = 1 := rfl
  have e3 : bit (pkt op pl).flags.toNat 0 = false := by simp [pkt, bare, bit]
  simp [e1, e2, e3, h, hk, ht]
  omega

theorem arrives_pkt {op : Nat} {pl : Bytes} {s : State} (h : quick op pl s = true ∨
    (op < 65536 ∧ pl.length ≤ 8192 ∧ s.portOn 0 = true ∧ s.start.resetReq = none ∧ s.roomFor (40 + pl.length) = true
      ∧ s.host.queue = [] ∧ s.host.running = [])) : Safety.arrives op (pkt op pl) s = true := by
  rcases h with h | ⟨h1, h2, h3, h4, h5, h6, h7⟩
  · have := servable_pkt h
    simp only [Safety.servable, Bool.and_eq_true] at this
    exact this.1.1.1
  · have hw := pkt_wf op pl h2
    have hp : s.portOn (pkt op pl).port = true := h3
    have he : (pkt op pl).ecc = [] := rfl
    simp [Safety.arrives, hw, packetBytes_length op _ hw, show (pkt op pl).payload = pl from rfl, h1, hp, h4, h5, h6, h7, he]

theorem witness_RefusalsChangeNothing :
    Safety.arrives 0x0103 (pkt 0x0103 [1#8]) alive = true ∧ discardReason (packetBytes 0x0103 (pkt 0x0103 [1#8])) alive = none
    ∧ (pkt 0x0103 [1#8]).session ≠ 0xFF#8
    ∧ admission 0 0x0103 1 true [1#8] (heard 0 0 1 alive) = 0x0401 :=
  ⟨arrives_pkt (.inr (by decide +kernel)), discard_pkt (by decide) rfl rfl, by decide, by decide +kernel⟩

theorem witness_ResendsExecuteNothing :
    Safety.arrives 0x0103 (pkt 0x0103 []) heardTag = true ∧ discardReason (packetBytes 0x0103 (pkt 0x0103 [])) heardTag = none
    ∧ (pkt 0x0103 []).session ≠ 0xFF#8 ∧ (pkt 0x0103 []).hostTag.toNat ≤ (heardTag.ses (pkt 0x0103 []).session.toNat).highTag :=
  ⟨arrives_pkt (.inr (by decide +kernel)), discard_pkt (by decide) rfl rfl, by decide, by decide +kernel⟩

theorem witness_Mailbox :
    Safety.occurs (.spiInBufferWrite 4096 [1#8, 2#8]) alive = true ∧ Safety.occurs (.spiInBufferWrite 12327 [1#8]) alive = true
    ∧ alive.portOn 7 = true ∧ { alive.spi with inFree := false }.inFree = false ∧ alive.spi.inLen < 40
    ∧ 8232 < { alive.spi with inLen := 8233 }.inLen := by decide +kernel

/-- A module with one digital output, enabled and configured. -/
def withDo : State := rigged [(0x0C, 0, on 3#8), (0x0C, 1, on 3#8)]

/-- Each row of R26. -/
theorem witness_FirstConditionSelects :
    (let k := dkey 0x0C 0
     withDo.outOn k = true ∧ (withDo.die (dieOf k)).conf = true ∧ withDo.forced k = none ∧ sourceValue withDo k = some 0 ∧ (withDo.die (dieOf k)).silent = false
     ∧ (withDo.die (dieOf k)).keepOver = false ∧ (withDo.die (dieOf k)).keeping = false ∧ (select withDo k).2 = 5
     ∧ (select (withDo.setDie 2 { liveDie with keeping := true }) k).2 = 4
     ∧ (select (withDo.setDie 2 { liveDie with silent := true }) k).2 = 3
     ∧ (let s := (rigged [(0x0B, 0, on 9#8)]).setDie 2 { liveDie with force := true }
        s.outOn (dkey 0x0B 0) = true ∧ s.forced (dkey 0x0B 0) = some 0 ∧ (select s (dkey 0x0B 0)).2 = 2)
     ∧ (select { withDo with pwr := { withDo.pwr with phase := .cold } } k).2 = 1) := by decide +kernel

/-- A WRITE to an output that follows a loop. -/
def cmdOn (pl : Bytes) : Cmd :=
  { jseq := 1, slot := 0, sess := 1, role := 4, op := 0x0901, tag := 1, payload := pl, port := 0, addr := 1, at_ := 0, ecc := [] }

theorem witness_WriteNeedsHostSource :
    (let s := rigged [(0x0C, 0, [(0, [3#8, 1#8])])]
     let k := fld (cut (cmdOn (le 4 1 ++ le 4 (dkey 0x0C 0) ++ le 4 1)).payload (4 + 8 * 0) 8) 0 4
     k = dkey 0x0C 0 ∧ s.fieldReady k = true ∧ s.mayOperate k 1 = true ∧ s.outOn k = true ∧ s.srcKind k ≠ 0)
    ∧ (withDo.outOn (dkey 0x0C 0) = true ∧ withDo.srcKind (dkey 0x0C 0) = 0 ∧ alive.outOn (dkey 0x0C 0) = false) := by decide +kernel

theorem witness_NotOwnerChangesNothing :
    (let s := (rigged [(0x0C, 0, on 0x23#8)]).setOwn (dkey 0x0C 0) { Own.dflt with own := 1, owner := 2, role := 3 }
     let k := fld (cut (cmdOn (le 4 1 ++ le 4 (dkey 0x0C 0) ++ le 4 1)).payload (4 + 8 * 0) 8) 0 4
     s.mayOperate k 1 = false ∧ s.fieldReady k = true) := by decide +kernel

theorem witness_WarmRunEscalates :
    alive.pwr.phase ≠ .cold ∧ alive.start.warmRun + 1 ≠ 3 ∧ { alive.start with warmRun := 2 }.warmRun + 1 = 3
    ∧ ({ alive with pwr := { alive.pwr with phase := .warm } } : State).pwr.phase = .warm
    ∧ ((alive.setDie 1 { liveDie with keeping := true }).die 1).keeping = true
    ∧ Safety.occurs (.keepWindowExpiry 1) (alive.setDie 1 { liveDie with keeping := true }) = true := by decide +kernel

/-- An open transaction of session 1. -/
def txnOf (mode : Nat) : Txn :=
  { slot := 0, sess := 1, mode := mode, bank := 0, length := 64, staged := [], commitSet := [], at_ := 0, waiting := false,
    commit := 0, doneAt := 0, scan := false, image := [] }

def waitingTxn : Txn := { txnOf 0 with waiting := true }

def withTxn (t : Txn) : State := { alive with rig := { alive.rig with txn := some t } }

theorem witness_AbortClosesTransaction :
    Safety.servable 0x0304 (pkt 0x0304 []) (withTxn (txnOf 1)) = true ∧ (withTxn (txnOf 1)).rig.txn = some (txnOf 1)
    ∧ (txnOf 1).waiting = false ∧ (txnOf 1).sess = (cmdOn []).sess ∧ (txnOf 1).mode = 1 ∧ (txnOf 0).mode ≠ 1
    ∧ alive.rig.txn = none ∧ (withTxn waitingTxn).rig.txn = some waitingTxn ∧ waitingTxn.waiting = true :=
  ⟨servable_pkt (by decide +kernel), rfl, rfl, rfl, rfl, by decide, rfl, rfl, rfl⟩

/-! ## The transports -/

def dgram : UdpIn := { iface := 0, tagged := false, srcIp := 0xC0A8FE01#32, dstIp := 0xC0A8FE64#32, srcPort := 5000#16,
                       dstPort := 18430#16, cksum := 0#16, data := zeros 40 }

def frag0 : IpFrag := { iface := 0, tagged := false, srcIp := 0xC0A8FE01#32, dstIp := 0xC0A8FE64#32, ident := 7#16, proto := 17#8,
                        offset := 0, more := true, data := zeros 16 }

def fragCtx : FragCtx := { iface := 0, src := 0xC0A8FE01, dst := 0xC0A8FE64, ident := 17 * 65536 + 7, at_ := 0, parts := [], total := none }

theorem witness_EthernetRowsComplete :
    Safety.occurs (.udpDatagram dgram) alive = true ∧ Safety.occurs (.ipFragment frag0) alive = true
    ∧ Safety.occurs (.fragmentTimeout 0 0xC0A8FE01#32 7#16) { alive with net := { alive.net with frags := [fragCtx] } } = true
    ∧ Safety.occurs (.arpRequest 0 0xC0A8FE64#32 0xC0A8FE01#32 1#48) alive = true
    ∧ Safety.occurs (.icmpEcho 0 0xC0A8FE01#32 0xC0A8FE64#32 []) alive = true := by decide +kernel

theorem witness_LinkRowsComplete :
    Safety.occurs (.t1lLinkChange 0 false) wired = true ∧ Safety.occurs (.t1lLinkChange 1 true) wired = true
    ∧ (let l := [(wired.phyAddr, true)]
       Safety.occurs (.rmiiLinkPoll l) wired = true ∧ (wired.phyAddr, true) ∈ l)
    ∧ (let s := wired.setPort 2 { wired.port 2 with up := true }
       let l := [(s.phyAddr, false), (s.phyAddr + 1, true)]
       Safety.occurs (.rmiiLinkPoll l) s = true ∧ (s.phyAddr, true) ∉ l) := by decide +kernel

/-- The first segment of a packet of 100 B from node 2 to node 1 (R47, R48). -/
def seg0 : CanFrame := { port := 3, fd := true, ext := true, ident := 131584#29, data := 0x80#8 :: (le 2 100 ++ zeros 61) }

theorem witness_CanRowsComplete :
    Safety.occurs (.canSegment seg0) wired = true
    ∧ Safety.occurs (.canSegmentTimeout 3 2) { wired with net := { wired.net with
        can := [{ port := 3, node := 2, seq := 1, plen := 100, got := [], at_ := 0 }] } } = true
    ∧ Safety.occurs (.canBusOff 4) wired = true
    ∧ Safety.occurs (.canBusOffRecovery 4) { wired with net := { wired.net with busOff := [4] } } = true := by decide +kernel

/-- A POLL for address 1 (R51, R52). -/
def poll : Bytes := [0xA5#8, 0x5A#8, 1#8, 2#8, 0#8, 0#8] ++ le 4 (crc32 [1#8, 2#8, 0#8, 0#8])

def out0 : OutPkt := { slot := 0, sess := 1, notice := false, addr := 0, bytes := zeros 40 }

theorem witness_Rs485RowsComplete :
    Safety.occurs (.rs485Frame 5 poll) alive = true ∧ Safety.occurs (.rs485GapTimeout 5) alive = true
    ∧ Safety.occurs (.rs485ReplyWindow 5) (alive.setPort 5 { PortSt.dflt with window := true }) = true
    ∧ (let s := alive.setPort 5 { PortSt.dflt with window := true, outQ := [out0] }
       s.portOn 5 = true ∧ s.start.resetReq = none ∧ (s.port 5).window = true ∧ (s.port 5).empty = false ∧ (s.port 5).outQ = [out0]) := by
  decide +kernel

theorem witness_SpiRowsComplete :
    Safety.occurs (.spiInGo 1#32) { alive with spi := { alive.spi with inLen := 40 } } = true
    ∧ Safety.occurs .spiInTaken { alive with spi := { alive.spi with inFree := false } } = true
    ∧ Safety.occurs (.spiOutDone 2#32) { alive with spi := { alive.spi with outValid := true } } = true
    ∧ Safety.occurs .spiOutPlace (alive.setPort 7 { PortSt.dflt with outQ := [out0] }) = true ∧ alive.start.resetReq = none
    ∧ Safety.occurs (.spiInBufferWrite 4096 [1#8]) alive = true ∧ Safety.occurs (.spiIrqStatusClear 7#32) alive = true
    ∧ Safety.occurs (.spiRegisterWrite 12 (le 4 40)) alive = true ∧ Safety.occurs (.spiRegisterWrite 16 (le 4 7)) alive = true := by
  decide +kernel

/-! ## Sessions, timers and commands -/

def helloPkt : Packet := { bare (zeros 16) with session := 255#8, mac := zeros 16 }

/-- A context of nonces of zeros, and a Viewer key known to this host. -/
def greeted : State :=
  { alive with auth := { alive.auth with
      ctxs := [{ hostNonce := zeros 16, devNonce := zeros 16, at_ := alive.aon.nowUs }], keys := [(1, some 5)] } }

/-- The session key of that context (R62). -/
def ks1 : Bytes := hmac (be 32 5) ([0x4C#8, 0x58#8, 0x53#8, 0x31#8] ++ zeros 16 ++ zeros 16)

/-- An AUTH as Viewer, with its tag. -/
def authPkt : Packet :=
  let p : Packet := { bare (zeros 16 ++ [1#8] ++ zeros 15) with session := 255#8 }
  { p with mac := (hmac ks1 (packetBytes 0x0102 p)).take 16 }

theorem witness_OpeningRowsComplete :
    Safety.occurs (.hello helloPkt) alive = true ∧ Safety.occurs (.auth authPkt) greeted = true
    ∧ (slots.find? (fun k => !(greeted.ses k).live)) = some 1 ∧ (Safety.authKey authPkt greeted).isSome = true := by decide +kernel

theorem witness_SessionTimersComplete :
    Safety.occurs (.helloContextExpiry (zeros 16)) { greeted with aon := { greeted.aon with nowUs := 2000000000000 } } = true
    ∧ Safety.occurs .hostSilence alive = true ∧ Safety.occurs (.sessionSilent 0) alive = true
    ∧ Safety.occurs (.sessionExpiry 0) alive = true
    ∧ Safety.occurs (.orphanHoldExpiry 9) (alive.setOwn (dkey 0x05 0) { Own.dflt with own := 2, owner := 9 }) = true
    ∧ Safety.occurs .readyNotice { alive with start := { alive.start with readyAt := some 0 } } = true := by decide +kernel

/-- A command of session 1 with an opcode and payload. -/
def cmdFor (op : Nat) (pl : Bytes) : Cmd := { cmdOn pl with op := op }

/-- That command at work. -/
def running (op : Nat) (pl : Bytes) : State := { alive with host := { alive.host with running := [cmdFor op pl] } }

theorem witness_CommandRowsComplete :
    (let s : State := { alive with host := { alive.host with queue := [cmdFor 0x0103 []] } }
     Safety.occurs (.commandExecution []) s = true ∧ s.nextCmd = some (cmdFor 0x0103 []) ∧ (cmdFor 0x0103 []).op ≠ 0x0102)
    ∧ (let s : State := { alive with host := { alive.host with queue := [cmdFor 0x0102 []] } }
       Safety.occurs (.commandExecution []) s = true ∧ s.nextCmd = some (cmdFor 0x0102 []))
    ∧ Safety.occurs .rigCommitComplete (running 0x0303 []) = true
    ∧ (running 0x0303 []).host.running.find? (fun d => d.op == 0x0303) = some (cmdFor 0x0303 [])
    ∧ Safety.occurs .rigSaveComplete (running 0x0306 []) = true
    ∧ (running 0x0306 []).host.running.find? (fun d => d.op == 0x0306) = some (cmdFor 0x0306 [])
    ∧ Safety.occurs .fwEndComplete (running 0x0C08 []) = true
    ∧ (running 0x0C08 []).host.running.find? (fun d => d.op == 0x0C08) = some (cmdFor 0x0C08 [])
    ∧ Safety.occurs .fwUpdateTimeout { alive with fw := { alive.fw with
        upd := some { slot := 0, sess := 1, length := 128, got := 0, at_ := 0, endOk := false } } } = true
    ∧ (let u : FwUpd := { slot := 0, sess := 1, length := 128, got := 0, at_ := 0, endOk := false }
       let s : State := { running 0x0C08 [] with fw := { alive.fw with upd := some u } }
       Safety.occurs .fwEndComplete s = true ∧ s.fw.upd = some u
         ∧ s.host.running.find? (fun d => d.op == 0x0C08) = some (cmdFor 0x0C08 []))
    ∧ Safety.occurs .rigTxnTimeout (withTxn (txnOf 0)) = true ∧ (withTxn (txnOf 0)).rig.txn = some (txnOf 0)
    ∧ Safety.occurs .rigActivation (withTxn waitingTxn) = true ∧ (withTxn waitingTxn).rig.txn = some waitingTxn := by decide +kernel

/-- A commit of a transaction of FIELDS that stages nothing ends: the rig that would result holds. -/
theorem witness_CommandRowsComplete_commit :
    let s : State := { withTxn (txnOf 0) with host := { (withTxn (txnOf 0)).host with running := [cmdFor 0x0303 []] } }
    let t := txnOf 0
    Safety.occurs .rigCommitComplete s = true ∧ s.host.running.find? (fun d => d.op == 0x0303) = some (cmdFor 0x0303 [])
      ∧ s.rig.txn = some t ∧ t.sess = (cmdFor 0x0303 []).sess ∧ t.waiting = false ∧ t.mode = 0
      ∧ validate { t := putStaged s.rig.live t.commitSet, s := s, named := stagedKeys t.commitSet } = []
      ∧ s.rig.delta.length + (t.commitSet.filter (fun f => !f.signer)).length ≤ 4096 := by decide +kernel

/-! ## Halyard -/

/-- Port 0 enabled with point 0 on it, and its state. -/
def haled (h : HalPort) : State := (rigged [(0x01, 0, on 1#8), (0x02, 0, [(8, [1#8])])]).setHp 0 h

def okPort : HalPort := { HalPort.dflt with line := .ok }

theorem witness_LineRowsComplete :
    (let probe := haled { HalPort.dflt with line := .powering, probing := true }
     Safety.occurs (.switchOnProbe 0 true) probe = true ∧ Safety.occurs (.switchOnProbe 0 false) probe = true)
    ∧ Safety.occurs (.poweringEnd 0) (haled { HalPort.dflt with line := .powering }) = true
    ∧ Safety.occurs (.lineShort 0) (haled okPort) = true ∧ Safety.occurs (.lineForeign 0) (haled okPort) = true
    ∧ Safety.occurs (.shortRetry 0) (haled { HalPort.dflt with line := .short }) = true
    ∧ Safety.occurs (.lowSupply 0 949) (haled okPort) = true ∧ Safety.occurs (.lowSupplyRecovery 0 1000) (haled okPort) = true
    ∧ Safety.occurs (.lowLine 0 799) (haled okPort) = true ∧ Safety.occurs (.lowLineClear 0 801) (haled okPort) = true := by
  decide +kernel

/-- Port 0 in a cycle. -/
def scanning : State :=
  let s := haled { okPort with taking := true }
  { s with scan := { s.scan with active := true } }

def intake0 : Intake := { point := 0, cls := 0, temp := 0, rh := 0, cycle := 1, status := 0 }

def stream0 : Stream := { Stream.dflt with sess := 1, spill := true, seq := 257 }

/-- A slot in which nothing replies. -/
def silent : SlotRx := { sink := { before := [], peak := 0 }, edge := 0, cells := none }

theorem witness_ScanRowsComplete :
    Safety.occurs .scanCycleStart (haled okPort) = true ∧ Safety.occurs (.phaseSlotMark 0) scanning = true
    ∧ Safety.occurs (.phaseSlotMark 3) scanning = true
    ∧ Safety.occurs (.halyardSlotEnd 0 0 0 silent) scanning = true
    ∧ Safety.occurs (.halyardSlotEnd 0 3 255 { silent with sink := { before := [], peak := 100 }, cells := some (zeros 6) }) scanning = true
    ∧ Safety.occurs (.scheduleEnd 0 5) scanning = true ∧ scanning.scan.cycle = 0
    ∧ (let s : State := { alive with scan := { alive.scan with regs := [(0, [intake0])] } }
       Safety.occurs (.pointRecord []) s = true ∧ (drainRegs s).scan.intake = [intake0])
    ∧ Safety.occurs (.frontJob []) { alive with scan := { alive.scan with jobs := [0] } } = true
    ∧ Safety.occurs (.trendSnapshot false) { alive with scan := { alive.scan with snap := some (1, 1) } } = true
    ∧ Safety.occurs (.trendSpill 0) (alive.setStream 0 stream0) = true := by decide +kernel

/-- A run of an ASSIGN that waits for `w`. -/
def runOf (w : EnumWait) : EnumRun := { assign := true, startUs := 0, stack := [], windows := [], wait := w }

/-- That run on port 0. -/
def enumerating (w : EnumWait) : State := haled { okPort with run := some (runOf w) }

/-- The run of a line that was off, whose 50 ms have passed. -/
def powered : State := haled { okPort with run := some { runOf .power with stack := [[]] } }

/-- An IDENTIFY reply of identity 5 at address 1, and the acknowledgement of its ASSIGN to address 1. -/
def identReply : Bytes := let b := le 8 5 ++ le 2 1; b ++ [BitVec.ofNat 8 (crc8 b)]
def ackReply : Bytes := le 2 1 ++ [BitVec.ofNat 8 (crc8 (le 2 5 ++ le 2 1))]

def enumCmd : Cmd := cmdFor 0x0403 (le 4 (dkey 0x01 0) ++ zeros 4)

theorem witness_EnumerationRowsComplete :
    (let s := haled { okPort with asked := some true }
     Safety.occurs (.enumerateRunStart 0) s = true ∧ (s.hp 0).run = none ∧ (s.hp 0).asked = some true ∧ (s.hp 0).isOn = true)
    ∧ (let s := haled { HalPort.dflt with asked := some false }
       Safety.occurs (.enumerateRunStart 0) s = true ∧ (s.hp 0).run = none ∧ (s.hp 0).asked = some false ∧ (s.hp 0).isOn = false)
    ∧ (Safety.occurs (.enumerateRunStart 0) powered = true ∧ (powered.hp 0).run = some { runOf .power with stack := [[]] })
    ∧ (let s := enumerating (.search [])
       Safety.occurs (.enumerateExchange 0 (.search (List.replicate 16 { before := [], peak := 0 }))) s = true
       ∧ (s.hp 0).run = some (runOf (.search [])))
    ∧ (let s := enumerating (.identify [] false)
       Safety.occurs (.enumerateExchange 0 (.identify (some identReply))) s = true ∧ (s.hp 0).run = some (runOf (.identify [] false))
       ∧ identReply.length = 11 ∧ crc8 (identReply.take 10) = fld identReply 10 1
       ∧ Safety.occurs (.enumerateExchange 0 (.identify none)) s = true ∧ identifyOf none = none)
    ∧ (let s := enumerating (.assign 5 1 false)
       Safety.occurs (.enumerateExchange 0 (.assign (some ackReply))) s = true ∧ (s.hp 0).run = some (runOf (.assign 5 1 false))
       ∧ ackReply.length = 3 ∧ crc8 (le 2 5 ++ ackReply.take 2) = fld ackReply 2 1
       ∧ Safety.occurs (.enumerateExchange 0 (.assign none)) s = true ∧ ackGood 5 none = false)
    ∧ (let e := enumerating .ended
       let s : State := { e with host := { e.host with running := [enumCmd] } }
       Safety.occurs (.enumerateRunEnd 0 [(0, silent)]) s = true ∧ (s.hp 0).run = some (runOf .ended)
       ∧ s.host.running.find? (fun d => d.op == 0x0403 && keyIdx (fld d.payload 0 4) == 0) = some enumCmd) := by decide +kernel

/-! ## The tick and the plant -/

def quiet : TickEnv := { late := [], ringParity := [], slotEcc := [], ecc := [], meas := [] }

theorem witness_TickAdvancesTime : Safety.occurs (.tick quiet) alive = true := by decide +kernel

theorem witness_PlantRowsComplete :
    Safety.occurs (.loopOverrun 0) (alive.setLoop 0 { Loop.dflt with late := 1 }) = true
    ∧ Safety.occurs .mastEvaluation { alive with scan := { alive.scan with frontsDone := true } } = true
    ∧ Safety.occurs .mastTimedCheck alive = true ∧ Safety.occurs .ledgerSave alive = true
    ∧ Safety.occurs .dryerEvaluation alive = true ∧ Safety.occurs .dryerSaveRefresh alive = true
    ∧ Safety.occurs .routeEvaluation alive = true := by decide +kernel

theorem witness_LockoutAndAnalogueRowsComplete :
    Safety.occurs (.lockoutChange 7) alive = true
    ∧ Safety.occurs .lockoutRelease (alive.setDie 1 { liveDie with force := true }) = true
    ∧ Safety.occurs (.lockoutDisagree 1)
        (({ alive with io := { alive.io with disagreeAt := some 0 } } : State).setDie 1 { liveDie with sense := true }) = true
    ∧ Safety.occurs (.aoShort 0) ((rigged [(0x0D, 0, on 1#8)]).setAo 0 { AoCh.dflt with value := 1 }) = true
    ∧ Safety.occurs (.aoOpen 0 true) (rigged [(0x0D, 0, on 3#8)]) = true
    ∧ Safety.occurs (.aoOpen 0 false) ((rigged [(0x0D, 0, on 3#8)]).setAo 0 { AoCh.dflt with open_ := true }) = true := by decide +kernel

/-! ## The front end -/

/-- DIFF channel 0 and SCAN channel 0 of converter 0, both VOLT on range 0 with the straight line of curve 0. -/
def afeRig : List (Nat × Nat × List (Nat × Bytes)) :=
  [(0x0F, 0, [(0, [1#8]), (18, le 2 0)]), (0x10, 0, [(0, [1#8]), (18, le 2 0), (30, le 2 1)]), (0x22, 0, [(1, [0x0A#8])])]

def fronted : State := rigged afeRig

/-- SCAN channel 0 is being converted. -/
def converting : State := fronted.setConv 0 { Conv.dflt with cur := some 0, busy := true }

/-- Channel 0 with an excitation source on it. -/
def excited : State := rigged [(0x0F, 0, [(0, [1#8]), (2, [0#8])])]

def zeroResult : ConvIn := { ref := dkey 0x0F 0, first := 0#32, second := 0#32, landTemp := 0, moved := [] }

theorem witness_FrontEndRowsComplete :
    Safety.occurs (.scanPlaneStep 0) fronted = true ∧ Safety.nextScan 0 fronted = some 0
    ∧ Safety.occurs (.conversionResult zeroResult) fronted = true
    ∧ Safety.occurs (.scanSwitchStuck 0) converting = true ∧ (converting.conv 0).cur = some 0
    ∧ Safety.occurs (.excOpen (dkey 0x0F 0)) excited = true ∧ Safety.occurs (.excShort (dkey 0x0F 0)) excited = true
    ∧ Safety.occurs (.excRetry (dkey 0x0F 0))
        (excited.setAfe (dkey 0x0F 0) { AfeCh.dflt with exc := 3, shortAt := some (0, true) }) = true
    ∧ Safety.occurs (.inputCommonMode (dkey 0x10 0)) converting = true
    ∧ Safety.occurs (.shuntOvercurrent (dkey 0x0F 0)) (rigged [(0x0F, 0, on 7#8)]) = true
    ∧ Safety.occurs (.rangeClip (dkey 0x0F 0) false) fronted = true
    ∧ Safety.occurs (.channelStale (dkey 0x10 0)) (fronted.setAfe (dkey 0x10 0) { AfeCh.dflt with qual := 1, goodAt := some 0 }) = true
    ∧ Safety.occurs .afeCalibration { alive with start := { alive.start with afeCalibrating := true } } = true := by decide +kernel

theorem witness_goodValue : ∃ v, Safety.goodValue zeroResult fronted = some v :=
  Option.isSome_iff_exists.mp (by decide +kernel)

/-! ## Outputs -/

/-- DIO 0 an output, DIO 1 an input; the state of channel 0. -/
def dioed (c : DioCh) : State := (rigged [(0x0C, 0, [(0, [3#8]), (1, [0x20#8])]), (0x0C, 1, on 1#8)]).setDio 0 c

def dioOn : DioCh := { DioCh.dflt with on := true, first := false }

theorem witness_DioRowsComplete :
    Safety.occurs (.dioInputChange 1 true) ((dioed DioCh.dflt).setDio 1 { DioCh.dflt with first := false }) = true
    ∧ Safety.occurs (.dioOverload 0 750) (dioed dioOn) = true ∧ Safety.occurs (.dioThermal 0 700) (dioed dioOn) = true
    ∧ Safety.occurs (.dioRetry 0 false) (dioed { DioCh.dflt with fault := 1 }) = true
    ∧ Safety.occurs (.dioGroupShed 0 6001) (dioed dioOn) = true
    ∧ (((List.range 24).map (fun j => 24 * 0 + j)).filter (fun i => (dioed dioOn).dioOut i && ((dioed dioOn).dio i).on)) = [0]
    ∧ Safety.occurs (.dioReadbackHigh 0) (dioed DioCh.dflt) = true ∧ Safety.occurs (.dioExtSupplyEnd 0) (dioed DioCh.dflt) = true
    ∧ Safety.occurs (.dioOpenFlag 0 true) (dioed dioOn) = true
    ∧ Safety.occurs (.dioOpenFlag 0 false) (dioed { dioOn with mA := 2 }) = true
    ∧ Safety.occurs (.dioOpenFlag 0 false) (dioed DioCh.dflt) = true
    ∧ Safety.occurs (.dioSupplyLow 0 999) alive = true ∧ Safety.occurs (.dioSupplyLow 3 1050) alive = true
    ∧ Safety.occurs (.parallelTestPulse 0 true) (dioed { DioCh.dflt with test := some [1, 2] }) = true
    ∧ ((dioed { DioCh.dflt with test := some [1, 2] }).dio 0).test = some [1, 2]
    ∧ Safety.occurs (.dioRetrySeriesEnd 0) (dioed { DioCh.dflt with seriesAt := some 0 }) = true := by decide +kernel

/-- Load 0 enabled, with OPEN detection; its state. -/
def loaded (c : LoadCh) : State := (rigged [(0x0B, 0, on 0x11#8)]).setLoad 0 c

def loadOn : LoadCh := { LoadCh.dflt with on := true }

theorem witness_LoadRowsComplete :
    Safety.occurs (.fuseModelStep []) alive = true ∧ [0, 0, 0, 0].length = 4
    ∧ Safety.occurs (.lampDutyUpdate [0, 0, 0, 0]) alive = true
    ∧ Safety.occurs (.loadShort 0 { mA := 13500, us := 1 }) (loaded loadOn) = true ∧ Safety.occurs (.loadThermal 0 9000) (loaded loadOn) = true
    ∧ Safety.occurs (.loadRetry 0 false) (loaded { LoadCh.dflt with fault := 3 }) = true
    ∧ Safety.occurs (.loadReverse 0 0) (loaded loadOn) = true ∧ Safety.occurs (.loadExtSupply 0 true) (loaded LoadCh.dflt) = true
    ∧ Safety.occurs (.loadExtSupply 0 false) (loaded { LoadCh.dflt with ext := true, fault := 5 }) = true
    ∧ Safety.occurs (.loadOpenFlag 0 true) (loaded loadOn) = true ∧ Safety.occurs (.loadOpenFlag 0 false) (loaded LoadCh.dflt) = true
    ∧ Safety.occurs (.channelRestartDelay 0) (loaded LoadCh.dflt) = true
    ∧ Safety.occurs (.loadRetrySeriesEnd 0) (loaded { LoadCh.dflt with seriesAt := some 0 }) = true := by decide +kernel

theorem witness_BankRowsComplete :
    Safety.occurs (.bankShed 0 2001) alive = true ∧ Safety.occurs (.bankShed 3 2001) alive = true
    ∧ Safety.occurs (.moduleShedCheck [0, 0, 0, 0]) alive = true ∧ Safety.occurs (.bankHold 0 999) alive = true
    ∧ Safety.occurs (.bankHoldExit 0 1050) (alive.setBank 0 { LBank.dflt with st := 1 }) = true
    ∧ Safety.occurs (.bankUndervoltage 0 599) (alive.setBank 0 { LBank.dflt with st := 1 }) = true
    ∧ Safety.occurs (.bankRestart 0 1100) (alive.setBank 0 { LBank.dflt with st := 2 }) = true := by decide +kernel

/-- Fan 0 enabled with its tach, of class TABLE or not; its state. -/
def fanned (b : Byte) (c : FanCh) : State := (rigged [(0x0A, 0, [(0, [b]), (48, le 4 (dkey 0x10 0))])]).setFan 0 c

theorem witness_FanRowsComplete :
    Safety.occurs .fanDutyUpdate alive = true ∧ Safety.occurs (.tachEdge 0 500000) (fanned 0x21#8 FanCh.dflt) = true
    ∧ Safety.occurs (.tachTimeout 0) (fanned 0x21#8 { FanCh.dflt with edged := true }) = true
    ∧ Safety.occurs (.kickEnd 0) (fanned 0x21#8 { FanCh.dflt with st := 1 }) = true
    ∧ (let s := fanned 0x21#8 { FanCh.dflt with st := 2, tries := 1 }
       Safety.occurs (.provingTimeout 0) s = true ∧ (s.fan 0).tries < 1 + fld (s.fd 0) 9 1)
    ∧ (let s := fanned 0x21#8 { FanCh.dflt with st := 2, tries := 4 }
       Safety.occurs (.provingTimeout 0) s = true ∧ 1 + fld (s.fd 0) 9 1 ≤ (s.fan 0).tries)
    ∧ Safety.occurs (.retryWaitEnd 0) (fanned 0x21#8 { FanCh.dflt with st := 4 }) = true
    ∧ Safety.occurs (.tachLoss 0) (fanned 0x21#8 { FanCh.dflt with lowAt := some 0 }) = true
    ∧ Safety.occurs (.tachLossClear 0) (fanned 0x21#8 { FanCh.dflt with okAt := some 0 }) = true
    ∧ Safety.occurs (.pwmShort 0) (fanned 0x21#8 FanCh.dflt) = true
    ∧ (let s := (fanned 0x25#8 FanCh.dflt).setAfe (dkey 0x10 0) { AfeCh.dflt with qual := 1 }
       Safety.occurs (.fanTableUpdate 0) s = true ∧ s.en 0x0A 0 = true)
    ∧ Safety.occurs .fullOnWatchdogExpiry alive = true := by decide +kernel

/-! ## Telltale, supplies, domains -/

def ttWith (t : Telltale) : State := { alive with tt := t }

def occ0 : TOcc := { optime := 0, powercycle := 0, code := 0x0141, source := 0, data := zeros 12 }

theorem witness_TelltaleRowsComplete :
    Safety.occurs (.ttOccurrence { die := 1, code := 0x09C4, source := 0, data := [] }) alive = true ∧ alive.pwr.phase = .run
    ∧ Safety.occurs .ttRecordWrite (ttWith { Telltale.reset with lost := 1 }) = true
    ∧ Safety.occurs .ttRecordWrite (ttWith { Telltale.reset with fifo := [occ0] }) = true
    ∧ Safety.occurs (.ttTokenRefill 0x0141) (alive.setBkt 0x0141 { Bucket.dflt with spent := 1 }) = true
    ∧ ((alive.setBkt 0x0141 { Bucket.dflt with spent := 1 }).ttBkt 0x0141).supp = 0
    ∧ (let s := alive.setBkt 0x0141 { Bucket.dflt with spent := 1, supp := 1 }
       Safety.occurs (.ttTokenRefill 0x0141) s = true ∧ (s.ttBkt 0x0141).supp ≠ 0 ∧ (s.ttBkt 0x0141).heldAt = none) := by
  decide +kernel

theorem witness_SupplyRowsComplete :
    Safety.occurs (.vsupSag 849) alive = true ∧ Safety.occurs (.vsupSagEnd 900) { alive with pwr := { alive.pwr with sag := true } } = true
    ∧ Safety.occurs (.vioLow 269) alive = true
    ∧ Safety.occurs (.vioRecovery 290) { alive with pwr := { alive.pwr with vioLow := true } } = true
    ∧ Safety.occurs .optimeSave alive = true := by decide +kernel

theorem witness_DomainRowsComplete :
    Safety.occurs (.domainHoist 2) alive = true ∧ Safety.occurs (.domainFurl 9) alive = true
    ∧ Safety.occurs (.pllStop 2) (alive.setDomain 2 { Domain.dflt with pll := true }) = true := by decide +kernel

/-! ## Resets and starts -/

theorem witness_WatchRowsComplete :
    Safety.occurs .bosunRefresh alive = true ∧ Safety.occurs (.logicSilence 2) alive = true
    ∧ Safety.occurs (.keepWindowExpiry 1) (alive.setDie 1 { liveDie with keeping := true }) = true
    ∧ Safety.occurs (.scrubBlock [5]) alive = true := by decide +kernel

theorem witness_ColdResetRowsComplete :
    Safety.occurs (.powerFail 549) alive = true ∧ Safety.occurs .nrstAssert alive = true := by decide +kernel

theorem witness_WarmResetRowsComplete :
    Safety.occurs .lockstepMismatch alive = true ∧ Safety.occurs .bosunWatchdog alive = true := by decide +kernel

theorem witness_StartRowsComplete :
    Safety.occurs (.coldStart 850) State.reset = true
    ∧ Safety.occurs .nrstRelease { State.reset with pwr := { State.reset.pwr with nrstLow := true, vsup := 850 } } = true
    ∧ Safety.occurs .adoption { alive with pwr := { alive.pwr with phase := .warm } } = true := by decide +kernel

/-! ## The host opcodes -/

theorem servable_with {op off : Nat} {v : Byte} {pl : Bytes} {s : State} (h : setAt pl off v = pl) (hq : quick op pl s = true) :
    Safety.servable op (withByte off v (pkt op pl)) s = true := by
  rw [withByte_pkt h]
  exact servable_pkt hq

/-- A reference to the object of a type with INDEX 0. -/
def obj (ty : Nat) : Bytes := le 4 (dkey ty 0)

/-- FIRST 0 and COUNT 1 of a type. -/
def span (ty : Nat) : Bytes := obj ty ++ le 2 1 ++ zeros 2

/-- A multi-item payload of one item. -/
def item (it : Bytes) : Bytes := le 4 1 ++ it

theorem witness_OpcodeRowsServed :
    (0x0103, id, Instr.keepalive) ∈ Safety.opRows ∧ Safety.servable 0x0103 (pkt 0x0103 []) alive = true :=
  ⟨by simp [Safety.opRows, Safety.opRowsA], servable_pkt (by decide +kernel)⟩

theorem witness_SessionOpcodesResult :
    Safety.occurs (.keepalive (pkt 0x0103 [])) alive = true ∧ Safety.occurs (.bye (pkt 0x0104 (zeros 8))) alive = true
    ∧ Safety.occurs (.subscribe (pkt 0x0105 (le 4 0x3F))) alive = true ∧ Safety.occurs (.getReady (pkt 0x0106 [])) alive = true :=
  ⟨servable_pkt (by decide +kernel), servable_pkt (by decide +kernel), servable_pkt (by decide +kernel),
   servable_pkt (by decide +kernel)⟩

/-- Entry 5 is the end of a command that session 1 sent with HOST_TAG 9. -/
def recorded : State :=
  jWrite { JEntry.dflt with kind := 1, jseq := 5, sess := 1, tag := 9, opcode := 0x0103, state := 2 } alive

theorem witness_JournalOpcodesResult :
    Safety.occurs (.journalHead (pkt 0x0201 [])) alive = true
    ∧ Safety.occurs (.journalRead (pkt 0x0202 (zeros 8 ++ le 2 63 ++ zeros 6))) alive = true
    ∧ (let p := pkt 0x0203 (zeros 8 ++ le 8 9)
       Safety.occurs (.resultOf p) alive = true ∧ (Safety.before 0x0203 p alive).resultOf 1 9 = none
       ∧ Safety.occurs (.resultOf p) recorded = true
       ∧ ((Safety.before 0x0203 p recorded).resultOf 1 9).map (fun e => e.1.state) = some 2)
    ∧ Safety.occurs (.stateDigest (pkt 0x0204 (span 5))) alive = true
    ∧ Safety.occurs (.objectVersions (pkt 0x0205 (span 5))) alive = true :=
  ⟨servable_pkt (by decide +kernel), servable_pkt (by decide +kernel),
   ⟨servable_pkt (by decide +kernel), by decide +kernel, servable_pkt (by decide +kernel), by decide +kernel⟩,
   servable_pkt (by decide +kernel), servable_pkt (by decide +kernel)⟩

def putPkt : Packet := pkt 0x0302 (item (obj 0x13 ++ [0x20#8, 1#8] ++ zeros 26))

/-- SYS.SCAN_PERIOD read by RIG_GET. -/
def getPkt : Packet := pkt 0x0305 ([1#8, 0#8] ++ le 2 4 ++ obj 0x13 ++ [0x20#8] ++ zeros 15)

def validBank : State := { alive with rig := { alive.rig with bankA := { Bank.empty with st := 2 } } }

theorem witness_RigOpcodesResult :
    (let p := pkt 0x0301 (zeros 16)
     Safety.occurs (.rigBegin p) alive = true ∧ (Safety.before 0x0301 p alive).rig.txn = none ∧ fld p.payload 0 1 = 0)
    ∧ (let p := pkt 0x0301 ([1#8, 0#8, 0#8, 0#8] ++ le 4 136 ++ zeros 8)
       Safety.occurs (.rigBegin p) alive = true ∧ (Safety.before 0x0301 p alive).rig.base ≠ 0 ∧ fld p.payload 0 1 = 1)
    ∧ (let p := pkt 0x0301 ([2#8] ++ zeros 15)
       Safety.occurs (.rigBegin p) validBank = true ∧ ((Safety.before 0x0301 p validBank).rigBank 0).st = 2 ∧ fld p.payload 0 1 = 2)
    ∧ (let b := Safety.before 0x0302 putPkt (withTxn (txnOf 0))
       let t : Txn := { txnOf 0 with at_ := alive.aon.nowUs }
       let it := cut (Safety.cmdOf 0x0302 putPkt (withTxn (txnOf 0))).payload 4 32
       Safety.occurs (.rigPut putPkt) (withTxn (txnOf 0)) = true ∧ b.rig.txn = some t
       ∧ t.sess = (Safety.cmdOf 0x0302 putPkt (withTxn (txnOf 0))).sess ∧ t.waiting = false ∧ t.mode = 0 ∧ fld it 4 1 ≠ 0
       ∧ t.staged.length < 4096 ∧ fld putPkt.payload 0 2 = 1)
    ∧ (let t : Txn := { txnOf 0 with at_ := alive.aon.nowUs }
       Safety.occurs (.rigCommit (pkt 0x0303 [])) (withTxn (txnOf 0)) = true
       ∧ (Safety.before 0x0303 (pkt 0x0303 []) (withTxn (txnOf 0))).rig.txn = some t)
    ∧ (let t : Txn := { txnOf 1 with at_ := alive.aon.nowUs }
       Safety.occurs (.rigAbort (pkt 0x0304 [])) (withTxn (txnOf 1)) = true
       ∧ (Safety.before 0x0304 (pkt 0x0304 []) (withTxn (txnOf 1))).rig.txn = some t)
    ∧ Safety.occurs (.rigGet (pkt 0x0305 (zeros 24))) alive = true ∧ fld (zeros 24) 0 1 = 0
    ∧ Safety.occurs (.rigGet getPkt) alive = true ∧ fld getPkt.payload 0 1 = 1
    ∧ Safety.occurs (.rigSave (pkt 0x0306 [])) alive = true ∧ (Safety.before 0x0306 (pkt 0x0306 []) alive).rig.txn = none
    ∧ Safety.occurs (.rigBankSelect (pkt 0x0307 (zeros 8))) validBank = true
    ∧ ((Safety.before 0x0307 (pkt 0x0307 (zeros 8)) validBank).rigBank 0).st = 2 :=
  ⟨⟨servable_pkt (by decide +kernel), by decide +kernel⟩, ⟨servable_pkt (by decide +kernel), by decide +kernel⟩,
   ⟨servable_pkt (by decide +kernel), by decide +kernel⟩, ⟨servable_pkt (by decide +kernel), by decide +kernel⟩,
   ⟨servable_pkt (by decide +kernel), by decide +kernel⟩, ⟨servable_pkt (by decide +kernel), by decide +kernel⟩,
   servable_pkt (by decide +kernel), by decide, servable_pkt (by decide +kernel), by decide +kernel,
   servable_pkt (by decide +kernel), by decide +kernel, servable_pkt (by decide +kernel), by decide +kernel⟩

/-- Port 0 and point 0 enabled, stream 0 and capture buffer 0 held by session 1. -/
def pointed : State :=
  let s := (haled okPort).setStream 0 stream0
  s.setCap 0 { CapBuf.dflt with sess := 1 }

def periodPkt : Packet := pkt 0x0402 (le 4 10000 ++ zeros 4)
def extraPkt : Packet := pkt 0x0402 (zeros 4 ++ [1#8, 0#8, 0#8, 0#8])
def enumPkt (m : Byte) : Packet := pkt 0x0403 (obj 1 ++ [m, 0#8, 0#8, 0#8])
def threshPkt : Packet := pkt 0x0404 (item (obj 2 ++ le 4 100))
def openPkt : Packet := pkt 0x0406 ([1#8, 0#8, 0#8, 0#8] ++ obj 2 ++ le 2 1 ++ le 2 1 ++ le 2 1 ++ zeros 10)
def trendPkt (a : Byte) : Packet := pkt 0x0406 (a :: zeros 23)
def logPkt : Packet := pkt 0x0406 ([5#8, 0#8, 0#8, 0#8] ++ obj 3 ++ zeros 16)

theorem witness_PointOpcodesResult :
    Safety.occurs (.pointRead (pkt 0x0401 (span 2))) alive = true ∧ Safety.occurs (.frontRead (pkt 0x0405 (span 3))) alive = true
    ∧ (let b := Safety.before 0x0402 (withByte 4 0#8 periodPkt) alive
       let live := descPut b.rig.live (dkey 0x20 0) (patch (b.d 0x20 0) 0 (le 4 10000))
       Safety.occurs (.scanSetPeriod periodPkt) alive = true ∧ fld periodPkt.payload 4 1 = 0 ∧ b.held (dkey 0x20 0) 0 4 = false
       ∧ b.deltaFull = false ∧ estMwOf live ≤ estMwOf b.rig.live)
    ∧ (Safety.occurs (.scanExtraCycle extraPkt) alive = true ∧ fld extraPkt.payload 4 1 = 1)
    ∧ (Safety.occurs (.enumerateDiscover (enumPkt 0#8)) pointed = true ∧ fld (enumPkt 0#8).payload 4 1 = 0
       ∧ Safety.mayEnumerate (Safety.before 0x0403 (withByte 4 0#8 (enumPkt 0#8)) pointed) 0 = true)
    ∧ (Safety.occurs (.enumerateAssign (enumPkt 1#8)) pointed = true ∧ fld (enumPkt 1#8).payload 4 1 = 1
       ∧ Safety.mayEnumerate (Safety.before 0x0403 (withByte 4 1#8 (enumPkt 1#8)) pointed) 0 = true)
    ∧ (Safety.occurs (.enumerateReport (enumPkt 2#8)) pointed = true ∧ fld (enumPkt 2#8).payload 4 1 = 2
       ∧ Safety.mayEnumerate (Safety.before 0x0403 (withByte 4 2#8 (enumPkt 2#8)) pointed) 0 = true)
    ∧ (let b := Safety.before 0x0404 threshPkt pointed
       Safety.occurs (.pointThreshSet threshPkt) pointed = true ∧ fld threshPkt.payload 0 2 = 1 ∧ b.ptEn 0 = true
       ∧ b.held (dkey 2 0) 12 4 = false ∧ b.deltaFull = false)
    ∧ (let b := Safety.before 0x0406 (withByte 0 1#8 openPkt) pointed
       Safety.occurs (.trendOpen openPkt) pointed = true ∧ fld openPkt.payload 0 1 = 1
       ∧ b.trendUsed 1 + fld openPkt.payload 12 2 ≤ (b.ses 0).quota.trend
       ∧ (List.range 16).find? (fun i => (b.stream (0 * 16 + i)).sess == 0) = some 1)
    ∧ (Safety.occurs (.trendRead (trendPkt 2#8)) pointed = true ∧ fld (trendPkt 2#8).payload 0 1 = 2
       ∧ ((Safety.before 0x0406 (withByte 0 2#8 (trendPkt 2#8)) pointed).stream 0).sess = 1)
    ∧ (Safety.occurs (.trendClose (trendPkt 3#8)) pointed = true ∧ fld (trendPkt 3#8).payload 0 1 = 3
       ∧ ((Safety.before 0x0406 (withByte 0 3#8 (trendPkt 3#8)) pointed).stream 0).sess = 1)
    ∧ (Safety.occurs (.trendStatus (trendPkt 4#8)) pointed = true ∧ fld (trendPkt 4#8).payload 0 1 = 4)
    ∧ (Safety.occurs (.frontLog logPkt) pointed = true ∧ fld logPkt.payload 0 1 = 5) :=
  ⟨servable_pkt (by decide +kernel), servable_pkt (by decide +kernel),
   ⟨servable_with rfl (by decide +kernel), by decide +kernel⟩, ⟨servable_with rfl (by decide +kernel), by decide +kernel⟩,
   ⟨servable_with rfl (by decide +kernel), by decide +kernel⟩, ⟨servable_with rfl (by decide +kernel), by decide +kernel⟩,
   ⟨servable_with rfl (by decide +kernel), by decide +kernel⟩, ⟨servable_pkt (by decide +kernel), by decide +kernel⟩,
   ⟨servable_with rfl (by decide +kernel), by decide +kernel⟩, ⟨servable_with rfl (by decide +kernel), by decide +kernel⟩,
   ⟨servable_with rfl (by decide +kernel), by decide +kernel⟩, ⟨servable_with rfl (by decide +kernel), by decide +kernel⟩,
   ⟨servable_with rfl (by decide +kernel), by decide +kernel⟩⟩

/-- Mast 0, loop 0, dryer 0 and route 0 enabled, every other field of theirs 0. -/
def plant : State :=
  ({ alive with rig := { alive.rig with
      live := [0x04, 0x05, 0x07, 0x08].map (fun ty => (dkey ty 0, [1#8])) ++ bareRig } } : State).setCap 0 { CapBuf.dflt with sess := 1 }

def loopPkt (op : Nat) : Packet := pkt op (item (obj 5 ++ zeros 4))
def capPkt (a : Byte) : Packet := pkt 0x0506 ([0#8, a] ++ zeros 14)
def injectPkt (sig : Byte) : Packet := pkt 0x0505 (obj 5 ++ [sig, 0#8, 0#8, 0#8] ++ zeros 4 ++ le 4 1 ++ zeros 8)

theorem witness_LoopOpcodesResult :
    (let b := Safety.before 0x0501 (loopPkt 0x0501) plant
     Safety.occurs (.loopSetSp (loopPkt 0x0501)) plant = true ∧ fld (loopPkt 0x0501).payload 0 2 = 1
     ∧ b.mayOperate (dkey 5 0) 1 = true ∧ b.en 0x05 0 = true)
    ∧ (let b := Safety.before 0x0502 (loopPkt 0x0502) plant
       Safety.occurs (.loopMode (loopPkt 0x0502)) plant = true ∧ b.mayOperate (dkey 5 0) 1 = true ∧ b.en 0x05 0 = true)
    ∧ (let b := Safety.before 0x0504 (loopPkt 0x0504) plant
       Safety.occurs (.loopClearFlags (loopPkt 0x0504)) plant = true ∧ b.mayOperate (dkey 5 0) 1 = true ∧ b.en 0x05 0 = true)
    ∧ Safety.occurs (.loopRead (pkt 0x0503 (span 5))) plant = true
    ∧ (Safety.occurs (.captureRead (capPkt 0#8)) plant = true
       ∧ ((Safety.before 0x0506 (withByte 1 0#8 (capPkt 0#8)) plant).capBuf 0).sess = 1
       ∧ ((Safety.before 0x0506 (withByte 1 0#8 (capPkt 0#8)) plant).capBuf 0).damaged = false)
    ∧ (let b := Safety.before 0x0506 (withByte 1 1#8 (capPkt 1#8)) plant
       Safety.occurs (.captureFree (capPkt 1#8)) plant = true ∧ (b.capBuf 0).sess = 1 ∧ (b.loop (b.capBuf 0).loop).inj = none)
    ∧ (let b := Safety.before 0x0505 (injectPkt 1#8) plant
       Safety.occurs (.injectStart (injectPkt 1#8)) plant = true ∧ fld (injectPkt 1#8).payload 4 1 ≠ 0
       ∧ fld (injectPkt 1#8).payload 6 1 = 0 ∧ b.mayOperate (dkey 5 0) 1 = true ∧ b.en 0x05 0 = true ∧ (b.loop 0).inj = none
       ∧ (b.loopInt 0).mode = 0 ∧ (b.loop 0).fb = false ∧ (b.loop 0).fbOver = false ∧ (b.loop 0).fbEcc = false)
    ∧ (Safety.occurs (.injectStart (injectPkt 0#8)) plant = true ∧ fld (injectPkt 0#8).payload 4 1 = 0
       ∧ fld (injectPkt 0#8).payload 6 1 ≠ 1) :=
  ⟨⟨servable_pkt (by decide +kernel), by decide +kernel⟩, ⟨servable_pkt (by decide +kernel), by decide +kernel⟩,
   ⟨servable_pkt (by decide +kernel), by decide +kernel⟩, servable_pkt (by decide +kernel),
   ⟨servable_with rfl (by decide +kernel), by decide +kernel⟩, ⟨servable_with rfl (by decide +kernel), by decide +kernel⟩,
   ⟨servable_pkt (by decide +kernel), by decide +kernel⟩, ⟨servable_pkt (by decide +kernel), by decide +kernel⟩⟩

theorem witness_MastOpcodesResult :
    (let p := pkt 0x0601 (item (obj 4 ++ zeros 4))
     let b := Safety.before 0x0601 p plant
     Safety.occurs (.mastMode p) plant = true ∧ fld p.payload 0 2 = 1 ∧ b.mayOperate (dkey 4 0) 1 = true ∧ b.en 0x04 0 = true
     ∧ fld (cut p.payload 4 8) 0 4 = dkey 4 0)
    ∧ Safety.occurs (.mastRead (pkt 0x0602 (span 4))) plant = true ∧ Safety.occurs (.ledgerRead (pkt 0x0603 (span 4))) plant = true :=
  ⟨⟨servable_pkt (by decide +kernel), by decide +kernel⟩, servable_pkt (by decide +kernel), servable_pkt (by decide +kernel)⟩

/-- Dryer 0 in STATE `n`. -/
def drying (n : Nat) : State := plant.setDryer 0 { Dryer.dflt with w := { DryerSave.dflt with st := n } }

/-- Dryer 0 enabled with level inputs and an output to discharge, and a start of its MODE 1. -/
def dryable : State :=
  rigged [(0x07, 0, [(0, [1#8]), (8, le 4 (dkey 0x0C 1)), (12, [1#8]), (16, le 4 (dkey 0x0C 2)), (20, [1#8]), (84, le 4 (dkey 0x0C 0))])]
def dryPkt : Packet := pkt 0x0701 (obj 7 ++ [1#8, 0#8, 0#8, 0#8])

def stepPkt (a : Byte) : Packet := pkt 0x0702 (obj 7 ++ [a, 0#8, 0#8, 0#8])

theorem witness_DryerOpcodesResult :
    (let p := pkt 0x0701 (obj 7 ++ zeros 4)
     let b := Safety.before 0x0701 p plant
     Safety.occurs (.dryerMode p) plant = true ∧ fld p.payload 4 1 = 0 ∧ b.mayOperate (dkey 7 0) 1 = true ∧ b.en 0x07 0 = true)
    ∧ (let b := Safety.before 0x0701 dryPkt dryable
       Safety.occurs (.dryerMode dryPkt) dryable = true ∧ fld dryPkt.payload 4 1 = 1 ∧ b.mayOperate (dkey 7 0) 1 = true ∧ b.en 0x07 0 = true
       ∧ (b.dryer 0).w.st = 0 ∧ dryFit (b.d 0x07 0) 1 = true ∧ inAsserted b (b.d 0x07 0) 72 = false)
    ∧ (Safety.occurs (.dryerNext (stepPkt 1#8)) (drying 1) = true
       ∧ Safety.stepTaken (withByte 4 1#8 (stepPkt 1#8)) 1 (drying 1) = true)
    ∧ (Safety.occurs (.dryerPause (stepPkt 2#8)) (drying 9) = true
       ∧ Safety.stepTaken (withByte 4 2#8 (stepPkt 2#8)) 2 (drying 9) = true)
    ∧ (Safety.occurs (.dryerResume (stepPkt 3#8)) (drying 11) = true
       ∧ Safety.stepTaken (withByte 4 3#8 (stepPkt 3#8)) 3 (drying 11) = true)
    ∧ (Safety.occurs (.dryerAck (stepPkt 4#8)) (drying 12) = true
       ∧ Safety.stepTaken (withByte 4 4#8 (stepPkt 4#8)) 4 (drying 12) = true)
    ∧ (Safety.occurs (.dryerEmpty (stepPkt 5#8)) (drying 7) = true
       ∧ Safety.stepTaken (withByte 4 5#8 (stepPkt 5#8)) 5 (drying 7) = true)
    ∧ Safety.occurs (.dryerRead (pkt 0x0703 (span 7))) plant = true :=
  ⟨⟨servable_pkt (by decide +kernel), by decide +kernel⟩, ⟨servable_pkt (by decide +kernel), by decide +kernel⟩,
   ⟨servable_with rfl (by decide +kernel), by decide +kernel⟩,
   ⟨servable_with rfl (by decide +kernel), by decide +kernel⟩, ⟨servable_with rfl (by decide +kernel), by decide +kernel⟩,
   ⟨servable_with rfl (by decide +kernel), by decide +kernel⟩, ⟨servable_with rfl (by decide +kernel), by decide +kernel⟩,
   servable_pkt (by decide +kernel)⟩

/-- Route 0 claimed by session 1, in STATE `n`. -/
def routing (n : Nat) : State :=
  (plant.setRoute 0 { Route.dflt with w := { RouteSave.dflt with st := n } }).setOwn (dkey 8 0) { Own.dflt with own := 1, owner := 1, role := 4 }

def claimPkt (a : Byte) : Packet := pkt 0x0801 (obj 8 ++ [a, 0#8, 0#8, 0#8])
def startPkt : Packet := pkt 0x0802 (obj 8 ++ zeros 4)
def stopPkt (a : Byte) : Packet := pkt 0x0803 (obj 8 ++ [a, 0#8, 0#8, 0#8])

theorem witness_RouteOpcodesResult :
    (let b := Safety.before 0x0801 (withByte 4 1#8 (claimPkt 1#8)) plant
     Safety.occurs (.routeClaim (claimPkt 1#8)) plant = true ∧ b.mayOperate (dkey 8 0) 1 = true ∧ (b.ownOf (dkey 8 0)).own = 0
     ∧ b.en 0x08 0 = true ∧ claimBlock b 0 = none ∧ 2 ≤ b.roleOf 1 4)
    ∧ (let b := Safety.before 0x0801 (withByte 4 0#8 (claimPkt 0#8)) (routing 0)
       Safety.occurs (.routeRelease (claimPkt 0#8)) (routing 0) = true ∧ b.mayOperate (dkey 8 0) 1 = true
       ∧ (b.ownOf (dkey 8 0)).own ≠ 0 ∧ (b.route 0).runs = false)
    ∧ (let b := Safety.before 0x0802 startPkt (routing 0)
       Safety.occurs (.routeStart startPkt) (routing 0) = true ∧ Safety.routeTaken 0x0802 startPkt (routing 0) = true
       ∧ (b.route 0).w.st = 0 ∧ inAsserted b (b.d 0x08 0) 88 = false ∧ routeOutFault b 0 = false)
    ∧ (let q := withByte 4 0#8 (stopPkt 0#8)
       Safety.occurs (.routeStopNormal (stopPkt 0#8)) (routing 5) = true ∧ Safety.routeTaken 0x0803 q (routing 5) = true
       ∧ fld q.payload 4 1 = 0 ∧ ((Safety.before 0x0803 q (routing 5)).route 0).w.st ≤ 5)
    ∧ (let q := withByte 4 1#8 (stopPkt 1#8)
       Safety.occurs (.routeStopQuick (stopPkt 1#8)) (routing 6) = true ∧ Safety.routeTaken 0x0803 q (routing 6) = true
       ∧ fld q.payload 4 1 = 1 ∧ [1, 2, 3, 4, 5, 6].contains ((Safety.before 0x0803 q (routing 6)).route 0).w.st = true)
    ∧ (let q := withByte 4 2#8 (stopPkt 2#8)
       let b := Safety.before 0x0803 q (routing 7)
       Safety.occurs (.routeAck (stopPkt 2#8)) (routing 7) = true ∧ Safety.routeTaken 0x0803 q (routing 7) = true
       ∧ fld q.payload 4 1 = 2 ∧ (b.route 0).w.st = 7 ∧ inAsserted b (b.d 0x08 0) 88 = false ∧ routeHolds b 0 = false)
    ∧ Safety.occurs (.routeRead (pkt 0x0804 (span 8))) plant = true :=
  ⟨⟨servable_with rfl (by decide +kernel), by decide +kernel⟩, ⟨servable_with rfl (by decide +kernel), by decide +kernel⟩,
   ⟨servable_pkt (by decide +kernel), by decide +kernel⟩, ⟨servable_with rfl (by decide +kernel), by decide +kernel⟩,
   ⟨servable_with rfl (by decide +kernel), by decide +kernel⟩, ⟨servable_with rfl (by decide +kernel), by decide +kernel⟩,
   servable_pkt (by decide +kernel)⟩

/-- An output of each kind enabled, driven by host writes. -/
def outputs : State := rigged [(0x0A, 0, on 1#8), (0x0B, 0, on 1#8), (0x0C, 0, on 3#8), (0x0D, 0, on 1#8)]

def writePkt (op ty : Nat) (v : Bytes) : Packet := pkt op (item (obj ty ++ v))

theorem witness_FieldOpcodesResult :
    (let p := writePkt 0x0901 0x0C [1#8, 0#8, 0#8, 0#8]
     Safety.occurs (.dioWrite p) outputs = true ∧ Safety.writeTaken 0x0901 p outputs = true)
    ∧ (let p := writePkt 0x0903 0x0B [1#8, 0#8, 0#8, 0#8]
       Safety.occurs (.loadWrite p) outputs = true ∧ Safety.writeTaken 0x0903 p outputs = true)
    ∧ (let p := writePkt 0x0905 0x0D [0xFF#8, 0xFF#8, 0#8, 0#8]
       Safety.occurs (.aoWrite p) outputs = true ∧ Safety.writeTaken 0x0905 p outputs = true)
    ∧ (let p := writePkt 0x0906 0x0A [0xFF#8, 7#8, 0#8, 0#8]
       Safety.occurs (.fanSet p) outputs = true ∧ Safety.writeTaken 0x0906 p outputs = true)
    ∧ (let p := pkt 0x0908 (item (obj 0x0C))
       let b := Safety.before 0x0908 p outputs
       Safety.occurs (.faultClear p) outputs = true ∧ b.fieldReady (dkey 0x0C 0) = true ∧ b.mayOperate (dkey 0x0C 0) 1 = true
       ∧ b.lockForces (dkey 0x0C 0) = false ∧ (clearFault (dkey 0x0C 0) b).1 = false)
    ∧ Safety.occurs (.dioRead (pkt 0x0902 (span 0x0C))) outputs = true ∧ Safety.occurs (.loadRead (pkt 0x0904 (span 0x0B))) outputs = true
    ∧ Safety.occurs (.fanRead (pkt 0x0907 (span 0x0A))) outputs = true ∧ Safety.occurs (.afeRead (pkt 0x0A01 (span 0x0F))) outputs = true
    ∧ Safety.occurs (.threshRead (pkt 0x0A02 (span 0x11))) outputs = true :=
  ⟨⟨servable_pkt (by decide +kernel), by decide +kernel⟩, ⟨servable_pkt (by decide +kernel), by decide +kernel⟩,
   ⟨servable_pkt (by decide +kernel), by decide +kernel⟩, ⟨servable_pkt (by decide +kernel), by decide +kernel⟩,
   ⟨servable_pkt (by decide +kernel), by decide +kernel⟩, servable_pkt (by decide +kernel), servable_pkt (by decide +kernel),
   servable_pkt (by decide +kernel), servable_pkt (by decide +kernel), servable_pkt (by decide +kernel)⟩

/-- Cursor 0 held by session 1. -/
def cursored : State := alive.setCursor 0 { Cursor.dflt with sess := 1, pos := 1 }

def ttPkt (a : Byte) : Packet := pkt 0x0B01 (a :: zeros 15)
def pinPkt (a : Byte) : Packet := pkt 0x0B03 ([0#8, a] ++ le 2 1 ++ zeros 4)
def limitPkt : Packet := pkt 0x0B05 ([1#8, 0xFF#8, 0#8, 0#8] ++ le 2 0x0141 ++ [8#8, 0#8] ++ le 4 1000 ++ zeros 4)
def limitsGet : Packet := pkt 0x0B05 ([2#8, 0#8, 0#8, 0#8] ++ le 2 0x0141 ++ zeros 10)

theorem witness_TelltaleOpcodesResult :
    (let b := Safety.before 0x0B01 (withByte 0 1#8 (ttPkt 1#8)) alive
     Safety.occurs (.ttOpen (ttPkt 1#8)) alive = true ∧ fld (ttPkt 1#8).payload 0 1 = 1
     ∧ [0, 1, 2, 3, 4, 5, 6, 7].find? (fun i => (b.cursor i).sess == 0) = some 0
     ∧ ([0, 1, 2, 3, 4, 5, 6, 7].filter (fun i => (b.cursor i).sess == 1)).length < (b.ses 0).quota.cursor)
    ∧ (Safety.occurs (.ttClose (ttPkt 2#8)) cursored = true
       ∧ ((Safety.before 0x0B01 (withByte 0 2#8 (ttPkt 2#8)) cursored).cursor 0).sess = 1)
    ∧ Safety.occurs (.ttNotify (ttPkt 3#8)) alive = true
    ∧ (let p := pkt 0x0B02 ([0#8, 0#8] ++ le 2 254 ++ zeros 4)
       let x := (Safety.before 0x0B02 p cursored).cursor 0
       Safety.occurs (.ttRead p) cursored = true ∧ x.sess = 1 ∧ x.lost = false)
    ∧ (Safety.occurs (.ttPin (pinPkt 1#8)) cursored = true
       ∧ ((Safety.before 0x0B03 (withByte 1 1#8 (pinPkt 1#8)) cursored).cursor 0).sess = 1)
    ∧ (Safety.occurs (.ttUnpin (pinPkt 0#8)) cursored = true
       ∧ ((Safety.before 0x0B03 (withByte 1 0#8 (pinPkt 0#8)) cursored).cursor 0).sess = 1)
    ∧ Safety.occurs (.ttClear (pkt 0x0B04 [])) cursored = true
    ∧ (Safety.occurs (.ttLimitsSet limitPkt) alive = true ∧ fld limitPkt.payload 1 1 = 0xFF ∧ fld limitPkt.payload 4 2 ≠ 0xFFFF
       ∧ fld limitPkt.payload 6 1 ≠ 0)
    ∧ Safety.occurs (.ttLimitsGet limitsGet) alive = true :=
  ⟨⟨servable_with rfl (by decide +kernel), by decide +kernel⟩, ⟨servable_with rfl (by decide +kernel), by decide +kernel⟩,
   servable_with rfl (by decide +kernel), ⟨servable_pkt (by decide +kernel), by decide +kernel⟩,
   ⟨servable_with rfl (by decide +kernel), by decide +kernel⟩, ⟨servable_with rfl (by decide +kernel), by decide +kernel⟩,
   servable_pkt (by decide +kernel), ⟨servable_with rfl (by decide +kernel), by decide +kernel⟩,
   servable_with rfl (by decide +kernel)⟩

theorem witness_SystemOpcodesResult :
    Safety.occurs (.sysInfo (pkt 0x0C01 [])) alive = true
    ∧ (Safety.occurs (.timeMark (pkt 0x0C02 (zeros 16))) alive = true
       ∧ (Safety.before 0x0C02 (pkt 0x0C02 (zeros 16)) alive).tt.offset = none)
    ∧ Safety.occurs (.resetWarm (pkt 0x0C03 (1#8 :: zeros 7))) alive = true
    ∧ Safety.occurs (.resetCold (pkt 0x0C03 (2#8 :: zeros 7))) alive = true
    ∧ Safety.occurs (.powerPlanGet (pkt 0x0C04 (1#8 :: zeros 7))) alive = true
    ∧ Safety.occurs (.powerPlanClear (pkt 0x0C04 (2#8 :: zeros 7))) alive = true
    ∧ (let b := Safety.before 0x0C04 (withByte 0 3#8 (pkt 0x0C04 ([3#8, 0#8] ++ le 2 6500 ++ zeros 4))) alive
       let u : State := { b with pwr := { b.pwr with capMw := 6500 } }
       Safety.occurs (.powerPlanSet (pkt 0x0C04 ([3#8, 0#8] ++ le 2 6500 ++ zeros 4))) alive = true
       ∧ u.overCap b.rig.live = false) :=
  ⟨servable_pkt (by decide +kernel), ⟨servable_pkt (by decide +kernel), by decide +kernel⟩, servable_with rfl (by decide +kernel),
   servable_with rfl (by decide +kernel), servable_with rfl (by decide +kernel), servable_with rfl (by decide +kernel),
   ⟨servable_with rfl (by decide +kernel), by decide +kernel⟩⟩

def rolePkt (a new : Byte) : Packet := pkt 0x0C06 ([a, new] ++ zeros 6 ++ le 8 1)

theorem witness_SteerageOpcodesResult :
    (let p := pkt 0x0C05 (0xFF#8 :: zeros 15)
     let b := Safety.before 0x0C05 p alive
     Safety.occurs (.quotaSet p) alive = true ∧ fld p.payload 0 1 = 0xFF
     ∧ poolsHold b (b.host.defQuota.patch p.payload) (fun i => (b.ses i).quota) = true)
    ∧ (let b := Safety.before 0x0C06 (withByte 0 1#8 (rolePkt 1#8 3#8)) alive
       Safety.occurs (.roleLower (rolePkt 1#8 3#8)) alive = true ∧ b.slotOf 1 = some 0 ∧ 3 < (b.ses 0).role)
    ∧ (Safety.occurs (.roleEvict (rolePkt 2#8 0#8)) alive = true
       ∧ (Safety.before 0x0C06 (withByte 0 2#8 (rolePkt 2#8 0#8)) alive).slotOf 1 = some 0)
    ∧ (Safety.occurs (.roleRelease (rolePkt 3#8 0#8)) alive = true
       ∧ (Safety.before 0x0C06 (withByte 0 3#8 (rolePkt 3#8 0#8)) alive).knownSession 1 = true)
    ∧ Safety.occurs (.keySet (pkt 0x0C07 (1#8 :: zeros 39))) alive = true :=
  ⟨⟨servable_pkt (by decide +kernel), by decide +kernel⟩, ⟨servable_with rfl (by decide +kernel), by decide +kernel⟩,
   ⟨servable_with rfl (by decide +kernel), by decide +kernel⟩, ⟨servable_with rfl (by decide +kernel), by decide +kernel⟩,
   servable_pkt (by decide +kernel)⟩

/-- An open update of session 1, of 128 B. -/
def upd0 : FwUpd := { slot := 1, sess := 1, length := 128, got := 0, at_ := 0, endOk := true }

def updating : State := { alive with fw := { alive.fw with upd := some upd0 } }

def fwPkt (a : Byte) : Packet := pkt 0x0C08 (a :: zeros 15)
def fwBeginPkt : Packet := pkt 0x0C08 (1#8 :: (zeros 7 ++ le 4 128 ++ zeros 4))
def fwDataPkt : Packet := pkt 0x0C08 (2#8 :: (zeros 7 ++ le 4 4 ++ zeros 4 ++ [1#8, 2#8, 3#8, 4#8]))

theorem witness_FirmwareOpcodesResult :
    (Safety.occurs (.fwBegin fwBeginPkt) alive = true ∧ (Safety.before 0x0C08 (withByte 0 1#8 fwBeginPkt) alive).fw.upd = none)
    ∧ (Safety.occurs (.fwData fwDataPkt) updating = true ∧ (Safety.before 0x0C08 (withByte 0 2#8 fwDataPkt) updating).fw.upd = some upd0
       ∧ fld fwDataPkt.payload 4 4 = upd0.got ∧ upd0.got + fld fwDataPkt.payload 8 4 ≤ upd0.length)
    ∧ (Safety.occurs (.fwEnd (fwPkt 3#8)) updating = true
       ∧ (Safety.before 0x0C08 (withByte 0 3#8 (fwPkt 3#8)) updating).fw.upd = some upd0)
    ∧ (Safety.occurs (.fwActivate (fwPkt 4#8)) updating = true
       ∧ (Safety.before 0x0C08 (withByte 0 4#8 (fwPkt 4#8)) updating).fw.upd = some upd0 ∧ upd0.endOk = true)
    ∧ (Safety.occurs (.fwAbort (fwPkt 5#8)) updating = true
       ∧ (Safety.before 0x0C08 (withByte 0 5#8 (fwPkt 5#8)) updating).fw.upd = some upd0) :=
  ⟨⟨servable_with rfl (by decide +kernel), by decide +kernel⟩, ⟨servable_with rfl (by decide +kernel), by decide +kernel⟩,
   ⟨servable_with rfl (by decide +kernel), by decide +kernel⟩, ⟨servable_with rfl (by decide +kernel), by decide +kernel⟩,
   ⟨servable_with rfl (by decide +kernel), by decide +kernel⟩⟩

/-! ## Well-formed commands: each check refuses a term -/

theorem wf_packet : (pkt 0x0103 []).wf = true ∧ { bare [] with mac := zeros 16, port := 8 }.wf = false
    ∧ { bare [] with mac := zeros 15 }.wf = false ∧ { bare [] with mac := zeros 16, rsvd18 := zeros 5 }.wf = false
    ∧ (Instr.keepalive (bare [])).wf = false ∧ (Instr.fwAbort (bare [])).wf = false :=
  ⟨pkt_wf _ _ (by decide), by decide⟩

theorem wf_long_packet : { bare (zeros 8193) with mac := zeros 16 }.wf = false := by decide +kernel

theorem wf_meas : Meas.wf (.dioCurrent 96 0) = false ∧ Meas.wf (.dioLand 96 0) = false ∧ Meas.wf (.dioHot 96 true) = false
    ∧ Meas.wf (.loadCurrent 48 0) = false ∧ Meas.wf (.loadSense 48 0) = false ∧ Meas.wf (.loadHot 48 true) = false
    ∧ Meas.wf (.bankAvg 4 0) = false ∧ Meas.wf (.vbb 4 0) = false ∧ Meas.wf (.vdio 4 0) = false ∧ Meas.wf (.vhal 8 0) = false
    ∧ Meas.wf (.lineCurrent 128 0) = false ∧ Meas.wf (.lineVoltage 128 0) = false ∧ Meas.wf (.aoReadback 16 0) = false
    ∧ Meas.wf (.vsup 0) = true ∧ Meas.wf (.vio 0) = true := by decide

theorem wf_tick : (Instr.tick quiet).wf = true ∧ (Instr.tick { quiet with late := [4096] }).wf = false
    ∧ (Instr.tick { quiet with ringParity := [512] }).wf = false ∧ (Instr.tick { quiet with slotEcc := [4096] }).wf = false
    ∧ (Instr.tick { quiet with meas := [.vbb 4 0] }).wf = false := by decide

theorem wf_transports : (Instr.udpDatagram { dgram with iface := 3 }).wf = false ∧ (Instr.ipFragment { frag0 with iface := 3 }).wf = false
    ∧ (Instr.fragmentTimeout 3 0 0).wf = false ∧ (Instr.arpRequest 3 0 0 0).wf = false ∧ (Instr.icmpEcho 3 0 0 []).wf = false
    ∧ (Instr.canSegment { seg0 with port := 5 }).wf = false ∧ (Instr.canSegment { seg0 with data := zeros 65 }).wf = false
    ∧ (Instr.canSegmentTimeout 3 128).wf = false ∧ (Instr.canBusOff 2).wf = false ∧ (Instr.canBusOffRecovery 5).wf = false
    ∧ (Instr.rs485Frame 4 []).wf = false ∧ (Instr.rs485GapTimeout 7).wf = false ∧ (Instr.rs485ReplyWindow 4).wf = false
    ∧ (Instr.t1lLinkChange 2 true).wf = false ∧ (Instr.spiInBufferWrite 65536 []).wf = false
    ∧ (Instr.spiRegisterWrite 65536 []).wf = false ∧ (Instr.sessionExpiry 8).wf = false ∧ (Instr.sessionSilent 8).wf = false := by decide

theorem wf_halyard : (Instr.enumerateRunStart 128).wf = false ∧ (Instr.enumerateRunEnd 128 []).wf = false
    ∧ (Instr.enumerateExchange 128 (.assign none)).wf = false
    ∧ (Instr.enumerateExchange 0 (.search (List.replicate 15 { before := [], peak := 0 }))).wf = false
    ∧ (Instr.enumerateExchange 0 (.search (List.replicate 16 { before := [], peak := 0 }))).wf = true
    ∧ (Instr.enumerateRunEnd 0 [(1024, silent)]).wf = false ∧ (Instr.rmiiLinkPoll [(32, true)]).wf = false
    ∧ (Instr.halyardSlotEnd 128 0 0 silent).wf = false
    ∧ (Instr.halyardSlotEnd 0 4 0 silent).wf = false ∧ (Instr.halyardSlotEnd 0 0 256 silent).wf = false
    ∧ (Instr.halyardSlotEnd 0 0 0 { silent with cells := some (zeros 5) }).wf = false
    ∧ (Instr.halyardSlotEnd 0 0 0 { silent with cells := some (zeros 6) }).wf = true
    ∧ (Instr.scheduleEnd 128 0).wf = false ∧ (Instr.phaseSlotMark 4).wf = false ∧ (Instr.trendSpill 128).wf = false
    ∧ (Instr.switchOnProbe 128 true).wf = false ∧ (Instr.poweringEnd 128).wf = false ∧ (Instr.lineShort 128).wf = false
    ∧ (Instr.shortRetry 128).wf = false ∧ (Instr.lineForeign 128).wf = false ∧ (Instr.lowLine 128 0).wf = false
    ∧ (Instr.lowLineClear 128 0).wf = false ∧ (Instr.lowSupply 8 0).wf = false ∧ (Instr.lowSupplyRecovery 8 0).wf = false := by
  decide

theorem wf_field : (Instr.loopOverrun 4096).wf = false ∧ (Instr.lockoutChange 8).wf = false ∧ (Instr.lockoutDisagree 8).wf = false
    ∧ (Instr.scanPlaneStep 8).wf = false ∧ (Instr.scanSwitchStuck 8).wf = false ∧ (Instr.aoShort 16).wf = false
    ∧ (Instr.aoOpen 16 true).wf = false ∧ (Instr.dioInputChange 96 true).wf = false ∧ (Instr.parallelTestPulse 96 true).wf = false
    ∧ (Instr.dioGroupShed 4 0).wf = false ∧ (Instr.dioSupplyLow 4 0).wf = false ∧ (Instr.loadShort 48 { mA := 0, us := 0 }).wf = false
    ∧ (Instr.channelRestartDelay 48).wf = false ∧ (Instr.bankShed 4 0).wf = false ∧ (Instr.bankRestart 4 0).wf = false
    ∧ (Instr.lampDutyUpdate [0]).wf = false ∧ (Instr.moduleShedCheck []).wf = false ∧ (Instr.tachEdge 192 0).wf = false
    ∧ (Instr.fanTableUpdate 192).wf = false ∧ (Instr.ttOccurrence { die := 4, code := 0x0141, source := 0, data := [] }).wf = false
    ∧ (Instr.ttOccurrence { die := 0, code := 0x0141, source := 0, data := zeros 13 }).wf = false
    ∧ (Instr.keepWindowExpiry 0).wf = false ∧ (Instr.keepWindowExpiry 4).wf = false ∧ (Instr.logicSilence 0).wf = false
    ∧ (Instr.domainHoist 14).wf = false ∧ (Instr.domainFurl 14).wf = false ∧ (Instr.pllStop 14).wf = false
    ∧ Instr.readyNotice.wf = true := by decide

/-! ## The spec's own figures: each expected value stands in the file named -/

/-- The ASCII string "123456789". -/
def digits : Bytes := (List.range 9).map (fun i => BitVec.ofNat 8 (0x31 + i))

/-- 02_host_ports, 06_halyard_bus and 16_telltale: the check values of the three CRCs. -/
theorem test_crc_check_values : crc32 digits = 0xCBF43926 ∧ crc8 digits = 0xF7 ∧ crc16 digits = 0x29B1 := by decide +kernel

/-- 00_scope: −1,250 is 0xFB1E and 1,420 is 0x058C, little-endian. -/
theorem test_signed_fields : leInt 2 (-1250) = [0x1E#8, 0xFB#8] ∧ le 2 1420 = [0x8C#8, 0x05#8] ∧ sfld [0x1E#8, 0xFB#8] 0 2 = -1250 := by
  decide +kernel

/-- 03_packets, "A keepalive": the 24 bytes of the header. -/
theorem test_keepalive_packet :
    packetBytes 0x0103 { bare [] with session := 3#8, hostTag := 4242#64 }
      = [0x58#8, 0x4C#8, 1#8, 0#8, 3#8, 0#8, 3#8, 1#8, 0x92#8, 0x10#8] ++ zeros 14 := by decide

/-- 03_packets, "Setting two fans": header and payload. -/
theorem test_fan_set_packet :
    packetBytes 0x0906 { bare (le 4 2 ++ le 4 (dkey 0x0A 40) ++ le 4 1228 ++ le 4 (dkey 0x0A 41) ++ le 4 1228) with
        session := 3#8, hostTag := 4243#64 }
      = [0x58#8, 0x4C#8, 1#8, 0#8, 3#8, 0#8, 6#8, 9#8, 0x93#8, 0x10#8, 0#8, 0#8, 0#8, 0#8, 0#8, 0#8, 0x14#8] ++ zeros 7
        ++ [2#8, 0#8, 0#8, 0#8, 0x28#8, 0#8, 0#8, 0x0A#8, 0xCC#8, 4#8, 0#8, 0#8, 0x29#8, 0#8, 0#8, 0x0A#8, 0xCC#8, 4#8, 0#8, 0#8] := by
  decide +kernel

/-- 03_packets, "The reply, one item refused": PARTIAL, JSEQ 231,233, OK and NOT_OWNER. -/
theorem test_partial_reply :
    statusOf [0, 0x0201] = 1
    ∧ replyBlock 1 2 0 0 231233 ++ outcomeVec [0, 0x0201]
      = [1#8, 0#8, 2#8, 0#8, 0#8, 0#8, 0#8, 0#8, 0x41#8, 0x87#8, 3#8, 0#8, 0#8, 0#8, 0#8, 0#8, 0#8, 0#8, 1#8, 2#8] := by decide +kernel

/-- 07_points, "Worked scan": the slots 200 and 207 of phase 0 end at 104.128 ms and 107.040 ms. -/
theorem test_slot_ends : slotEndUs 0 200 = 104128 ∧ slotEndUs 0 207 = 107040 ∧ slotEndUs 1 103 = 190272 := by decide

/-- The replies of the worked scan, scaled. -/
def worked : List FPt :=
  [(1000, 1220), (3000, 1360), (5000, 1600), (7000, 2280), (9000, 2700), (11000, 2800), (13000, 2850), (15000, 2870)].map
    (fun (e : Nat × Int) => ({ h := e.1, q := e.2 } : FPt))

/-- 07_points, "Worked scan": k is 2, POSITION 6,257 mm, Q_MEAN 2,210, Q_MAX 2,870. -/
theorem test_front_position :
    argMax (segments worked) 0 0 0 = 2 ∧ ratRound (frontPos (segments worked) 2) = 6257 ∧ (frontSums worked FrontE.dflt).qMean = 2210
    ∧ (frontSums worked FrontE.dflt).qMax = 2870 := by decide +kernel

/-- 07_points: ARMING with count 2 becomes HOT, with count 1 ARMING with count 2. -/
theorem test_thresholds : threshStep 3 2800 150 2870 1 2 = (2, 0) ∧ threshStep 3 2800 150 2850 1 1 = (1, 2) := by decide

/-- 08_sheaves, "Worked laws": a two-position loop with BAND 655. -/
def lawDesc (kind : Nat) : Bytes :=
  (([(0, [BitVec.ofNat 8 (2 * kind)]), (13, [3#8]), (58, le 2 655), (60, le 2 164), (62, le 2 0), (64, le 2 32767),
     (72, le 4 10737418), (76, le 4 10737418), (84, le 2 3), (88, le 2 328), (90, le 2 983), (92, le 2 1638)] : List (Nat × Bytes)).foldl
    (fun bs p => patch bs p.1 p.2) (zeros 256))

theorem test_two_position :
    (law (lawDesc 1) Loop.dflt 0 1114 0).st = 1 ∧ (law (lawDesc 1) { Loop.dflt with lstate := 1 } 0 (-295) 0).st = 1
    ∧ (law (lawDesc 1) { Loop.dflt with lstate := 1 } 0 (-360) 0).st = 0 := by decide +kernel

/-- 08_sheaves, "Floating on an analogue output": ACC and OUT. -/
theorem test_floating :
    (law (lawDesc 2) Loop.dflt 0 1114 536870912).acc = 547608330 ∧ (toQ 547608330).1 = 16712
    ∧ (law (lawDesc 2) { Loop.dflt with lstate := 1 } 0 328 547608330).acc = 558345748 ∧ (toQ 558345748).1 = 17039
    ∧ (law (lawDesc 2) { Loop.dflt with lstate := 1 } 0 98 558345748).acc = 558345748 := by decide +kernel

/-- 08_sheaves, "Stepped on three contactors": samples n to n + 4. -/
theorem test_stepped :
    (law (lawDesc 3) { Loop.dflt with lstate := 1 } 5 1114 0).st = 2 ∧ (law (lawDesc 3) { Loop.dflt with lstate := 2 } 1 328 0).st = 2
    ∧ (law (lawDesc 3) { Loop.dflt with lstate := 2 } 3 328 0).st = 1 ∧ (law (lawDesc 3) { Loop.dflt with lstate := 1 } 1 328 0).st = 1 := by
  decide +kernel

/-- 09_aeration, "Worked campaign": 9.00 °C at 80.00 % warmed by 1.00 °C has 74.81 %. -/
theorem test_rh_after : rhAfter 8000 900 1000 = some 7481 := by decide +kernel

/-- 12_front_end, "a weigh hopper": 1.2625 mV/V is 3,125.00 kg (P0 0.0125, P1 250,000 as binary32). -/
theorem test_bridge :
    ((curveForm (([(1, [8#8]), (4, le 4 0x3C4CCCCD), (8, le 4 0x48742400)] : List (Nat × Bytes)).foldl (fun bs p => patch bs p.1 p.2)
      (zeros 512)) (12625 / 10000) 0).map (fun o => ratRound o.value)) = some 312500 := by decide +kernel

/-! ## The package and its figures -/

/-- 19_package_lands, "Finding lands": the river berth's cabinet board. -/
theorem test_lands :
    landPositions (.lsw 29) = [(1, 37), (1, 38)] ∧ landPositions (.lswS 29) = [(1, 39)] ∧ landPositions (.dio 61) = [(10, 23)]
    ∧ landPositions (.fpwm 100) = [(35, 23)] ∧ landPositions (.ftach 100) = [(34, 23)] ∧ landPositions (.ap 44) = [(18, 5)]
    ∧ landPositions (.hl 37) = [(17, 37)] ∧ landCentre 1 39 = (28500, 28500) := by decide +kernel

/-- The counts of R397. -/
theorem test_land_counts :
    ([Land.gnd, .pgnd, .th, .dnc, .vsup, .vio, .aref, .vbb 0, .vdio 3, .vhal 7, .hgnd 0].map (fun l => (landPositions l).length))
      = [76, 72, 324, 21, 8, 4, 8, 16, 6, 4, 2] := by decide +kernel

/-- R364, R369, R371, R416 and R417: 833 µF; 180 and 900 mW; 25 W; 135 °C; 32.59 at 150 °C. -/
theorem test_ratings :
    (holdUp 1500 5000).floor = 833 ∧ ((domainDraw ++ otherDraw).map (fun d => d.1)).sum = 1800
    ∧ ((domainDraw ++ otherDraw).map (fun d => d.2.1)).sum = 9000 ∧ worstDissipation.sum = 25000 ∧ lidLimit 25000 = 135
    ∧ ratRound (100 * wearFactor 150) = 3259 := by decide +kernel

/-- 14_load_channels, "Worked sizing": the lamp duty at 28.8 V is 711, M_eff of 1.0 mm² is 35 K. -/
theorem test_lamp_duty :
    lampDuty 24000 2880 = 711
    ∧ mEff (patch (patch (patch (zeros 64) 2 [2#8]) 8 (le 2 5500)) 10 (le 2 9000)) = 35000000000 := by decide +kernel

/-- 15_fans, the switch-room fan: its table and its skip band. -/
def roomFan : Bytes :=
  (([(28, le 2 900), (30, le 2 1100), (52, [3#8]), (54, le 2 200), (56, le 4 2500), (60, le 4 3500), (64, le 4 4500), (88, le 2 0),
     (90, le 2 1024), (92, le 2 2047)] : List (Nat × Bytes)).foldl (fun bs p => patch bs p.1 p.2) (zeros 128))

theorem test_fan_table : [3380, 3600, 3450, 3650, 3480].map (tblAt roomFan) = [901, 1126, 973, 1177, 1004] := by decide +kernel

theorem test_fan_bands :
    bandTarget (fanBands roomFan) 901 850 = 900 ∧ bandTarget (fanBands roomFan) 1004 1126 = 1100
    ∧ slewStep (fanBands roomFan) 850 900 20 = 870 ∧ slewStep (fanBands roomFan) 900 1126 20 = 1100
    ∧ slewStep (fanBands roomFan) 1120 1126 20 = 1126 ∧ slewStep (fanBands roomFan) 1126 1100 20 = 1106 := by decide +kernel

/-- 16_telltale, "Worked read": of 16 occurrences 8 take tokens and SUPP is 8; record 120,001 as it is read. -/
theorem test_limiter :
    (let s := iter (fun st => ttLimit 3401882170 0x0481 0x01000030 (zeros 12) st) 16 alive
     s.tt.fifo.length = 8 ∧ (s.ttBkt 0x0481).supp = 8) := by decide +kernel

theorem test_record :
    ({ TRec.dflt with optime := 3401882170, powercycle := 412, code := 0x0481, source := 0x01000030, repeat_ := 1,
                      data := [6#8, 0#8] ++ le 2 942 ++ zeros 8 } : TRec).bytes 120001
      = (let b := le 6 3401882170 ++ le 4 412 ++ [0x81#8, 4#8, 0x30#8, 0#8, 0#8, 1#8, 1#8, 0#8, 6#8, 0#8, 0xAE#8, 3#8] ++ zeros 8
         b ++ le 2 (crc16 b)) := by decide +kernel

/-- 05_rig: the loop references of the worked transaction. -/
theorem test_references : [1601, 2050, 2051].map (dkey 0x05) = [0x05000641, 0x05000802, 0x05000803] := by decide

/-- R54: MB_ID reads 0x4C58_0064 and +4 reads IN_FREE alone after reset. -/
theorem test_mailbox : (List.range 8).map (spiByte State.reset) = le 4 0x4C580064 ++ le 4 1 := by decide +kernel

/-- R388: the third warm reset in a run is a cold one, ESCALATED. -/
theorem test_escalation : (warmReset 0x13 { alive with start := { alive.start with warmRun := 2 } }).pwr.coldKind = 5 := by decide +kernel

/-- R15: a tick is 250 µs. -/
theorem test_tick : (match exec (.tick quiet) alive with | .next t => t.aon.nowUs | _ => 0) = 1000000000250 := by decide +kernel
end Sys2Proof.Tests
end

section
/-! SUPPORT. What the drive of an output writes: the field side and the Telltale, and nothing beside them; and what the
selection of R26 gives in each of its cases. -/
namespace Sys2Proof.Machine

/-! ## Beside the field side and the Telltale -/

/-- The state with its field side and its Telltale blanked: equal of two states that differ in those alone. -/
def State.beside (s : State) : State := { s with io := Fld.reset, tt := Telltale.reset }

theorem only_of_beside {s t : State} (h : t.beside = s.beside) : t = { s with io := t.io, tt := t.tt } := by
  have hs : { t.beside with io := t.io, tt := t.tt } = { s.beside with io := t.io, tt := t.tt } := by rw [h]
  exact hs

@[simp] theorem beside_io (s : State) (x : Fld) : ({ s with io := x } : State).beside = s.beside := rfl
@[simp] theorem beside_ite (c : Prop) [Decidable c] (s t : State) :
    (if c then s else t).beside = if c then s.beside else t.beside := apply_ite State.beside c s t
@[simp] theorem setDie_beside (s : State) (d : Nat) (v : Die) : (s.setDie d v).beside = s.beside := rfl
@[simp] theorem setOut_beside (s : State) (k : Nat) (v : OutC) : (s.setOut k v).beside = s.beside := rfl
@[simp] theorem setFan_beside (s : State) (i : Nat) (v : FanCh) : (s.setFan i v).beside = s.beside := rfl
@[simp] theorem setLoad_beside (s : State) (i : Nat) (v : LoadCh) : (s.setLoad i v).beside = s.beside := rfl
@[simp] theorem setBank_beside (s : State) (b : Nat) (v : LBank) : (s.setBank b v).beside = s.beside := rfl
@[simp] theorem setDio_beside (s : State) (i : Nat) (v : DioCh) : (s.setDio i v).beside = s.beside := rfl
@[simp] theorem ttOccur_beside (die code source : Nat) (data : Bytes) (s : State) :
    (ttOccur die code source data s).beside = s.beside := by rw [ttOccur_only]; rfl

/-! ### The fans -/

@[simp] theorem fanSettle_beside (i : Nat) (s : State) : (fanSettle i s).beside = s.beside := rfl
@[simp] theorem fanProve_beside (i : Nat) (s : State) : (fanProve i s).beside = s.beside := by simp [fanProve]
@[simp] theorem fanKicked_beside (i : Nat) (s : State) : (fanKicked i s).beside = s.beside := by simp [fanKicked]
@[simp] theorem fanKick_beside (i tries : Nat) (s : State) : (fanKick i tries s).beside = s.beside := by simp [fanKick]
@[simp] theorem fanSeq_beside (i : Nat) (s : State) : (fanSeq i s).beside = s.beside := by simp [fanSeq]
@[simp] theorem formFan_beside (step : Bool) (i : Nat) (s : State) : (formFan step i s).beside = s.beside := by simp [formFan]

/-! ### The loads -/

@[simp] theorem bankTo_beside (b st : Nat) (s : State) : (bankTo b st s).beside = s.beside := by simp [bankTo]
@[simp] theorem bankDone_beside (b : Nat) (s : State) : (bankDone b s).beside = s.beside := by simp [bankDone]
@[simp] theorem driveLoad_beside (i : Nat) (s : State) : (driveLoad i s).beside = s.beside := by
  unfold driveLoad
  extract_lets k o die io s0 c now bk wait may want n lamp duty io1 s1
  have h0 : s0.beside = s.beside := by
    unfold s0
    split <;> rfl
  have h1 : s1.beside = s0.beside := by
    unfold s1
    (repeat' split) <;> rfl
  exact (bankDone_beside _ _).trans (h1.trans h0)

/-! ### Digital and analogue outputs -/

@[simp] theorem barTest_beside (i : Nat) (s : State) : (barTest i s).beside = s.beside := by simp [barTest]
@[simp] theorem endTests_beside (i : Nat) (s : State) : (endTests i s).beside = s.beside := by
  unfold endTests
  exact forAll_same State.beside _ _ (fun _ _ => by rfl) s
@[simp] theorem driveDio_beside (i : Nat) (s : State) : (driveDio i s).beside = s.beside := by
  unfold driveDio
  dsimp only
  split
  · exact barTest_beside i s
  · split <;> exact (endTests_beside i _).trans (barTest_beside i s)
@[simp] theorem driveAo_beside (i : Nat) (s : State) : (driveAo i s).beside = s.beside := rfl

/-! ### Every output, and a die's outputs -/

@[simp] theorem applyOut_beside (k : Nat) (s : State) : (applyOut k s).beside = s.beside := by
  unfold applyOut
  dsimp only
  (repeat' split) <;> simp

@[simp] theorem latchSource_beside (k : Nat) (s : State) : (latchSource k s).beside = s.beside := rfl
@[simp] theorem latchOut_beside (k : Nat) (s : State) : (latchOut k s).beside = s.beside := by simp [latchOut]
@[simp] theorem applyDie_beside (d : Nat) (s : State) : (applyDie d s).beside = s.beside :=
  forAll_same State.beside _ _ applyOut_beside s
@[simp] theorem notice_beside (d : Nat) (s : State) : (notice d s).beside = s.beside := by simp [notice]

/-! ## The selection of R26 -/

theorem select_off {s : State} {k : Nat}
    (h : s.pwr.phase = .cold ∨ (s.die (dieOf k)).conf = false ∨ s.outOn k = false) : select s k = (0, 1) := by
  unfold select
  rcases h with h | h | h <;> simp [h]

section
variable {s : State} {k : Nat} (hp : s.pwr.phase ≠ .cold) (hc : (s.die (dieOf k)).conf = true) (ho : s.outOn k = true)
include hp hc ho

theorem select_forced {v : Nat} (hf : s.forced k = some v) : select s k = (v, 2) := by
  simp [select, hp, hc, ho, hf]

theorem select_safe (hf : s.forced k = none) (h : (s.die (dieOf k)).silent = true ∨ (s.die (dieOf k)).keepOver = true) :
    select s k = (safeValue s k, 3) := by
  simp [select, hp, hc, ho, hf, h]

theorem select_kept (hf : s.forced k = none) (hs : (s.die (dieOf k)).silent = false) (hk : (s.die (dieOf k)).keepOver = false)
    (h : (s.die (dieOf k)).keeping = true) : select s k = ((s.out k).row5, 4) := by
  simp [select, hp, hc, ho, hf, hs, hk, h]

theorem select_level (hf : s.forced k = none) (hs : (s.die (dieOf k)).silent = false) (hk : (s.die (dieOf k)).keepOver = false)
    (h : (s.die (dieOf k)).keeping = false) : select s k = ((s.out k).row5, 5) := by
  simp [select, hp, hc, ho, hf, hs, hk, h]

/-- An output that works, of a configured die outside a cold reset, takes its value from row 2 or a later one. -/
theorem select_row_ne_one : (select s k).2 ≠ 1 := by
  simp only [select, hp, hc, ho, beq_iff_eq, Bool.not_true, Bool.or_false, if_false]
  (repeat' split) <;> simp
end

end Sys2Proof.Machine
end

section
/-! SUPPORT. One output at the output latch (R22 step 5, R26). -/
namespace Sys2Proof.Machine

/-! ## The source is taken -/

theorem latchSource_live {s : State} {k v : Nat} (hs : (s.die (dieOf k)).silent = false)
    (ho : (s.die (dieOf k)).keepOver = false) (hk : (s.die (dieOf k)).keeping = false) (hv : sourceValue s k = some v) :
    latchSource k s = s.setOut k { s.out k with src := v, row5 := s.row5 k v } := by
  simp [latchSource, Die.frozen, hs, ho, hk, hv]

theorem latchSource_out_other {s : State} {j k : Nat} (h : j ≠ k) : (latchSource k s).out j = s.out j :=
  State.setOut_out_other s k _ j h

/-! ## A digital output -/

theorem keyType_dkey {dt i : Nat} (h : i < 16777216) : keyType (dkey dt i) = dt := by
  unfold keyType dkey
  omega

/-- What is set to a value that no unlisted output has is read back, whatever the table. -/
theorem setOut_out_listed {s : State} {k : Nat} {v : OutC} (h : v ≠ OutC.dflt) : (s.setOut k v).out k = v :=
  Tbl.rd_wr_ne _ _ _ _ h

theorem barTest_outs (i : Nat) (s : State) : (barTest i s).io.outs = s.io.outs := by
  unfold barTest
  split <;> rfl

theorem endTests_outs (i : Nat) (s : State) : (endTests i s).io.outs = s.io.outs := by
  unfold endTests
  exact forAll_same (fun s => s.io.outs) _ _ (fun _ _ => by rfl) s

/-- A DIO channel's drive leaves every output's selection as it is. -/
theorem driveDio_outs (i : Nat) (s : State) : (driveDio i s).io.outs = s.io.outs := by
  unfold driveDio
  dsimp only
  split
  · exact barTest_outs i s
  · split <;> exact (endTests_outs i _).trans (barTest_outs i s)

/-- R26 over a digital output sets what it selects, and then drives the channel. -/
theorem applyOut_dio {k : Nat} (h : keyType k = 0x0C) (s : State) :
    applyOut k s = driveDio (keyIdx k) (s.setOut k { s.out k with sel := (select s k).1, row := (select s k).2 }) := by
  simp [applyOut, h]

theorem applyOut_dio_out {j k : Nat} (h : keyType k = 0x0C) (s : State) :
    (applyOut k s).out j = (s.setOut k { s.out k with sel := (select s k).1, row := (select s k).2 }).out j := by
  rw [applyOut_dio h]
  unfold State.out
  rw [driveDio_outs]

theorem latchOut_on {s : State} {k : Nat} (h : s.outOn k = true) : latchOut k s = applyOut k (latchSource k s) := by
  simp [latchOut, h]

end Sys2Proof.Machine
end

section
/-! The outputs' obligations: what selects an output's value, the output latch, and host writes. -/
namespace Sys2Proof.Machine

/-- Settles O15, by the cases of R26 in their order. -/
theorem firstConditionSelects : Obligations.FirstConditionSelects := by
  refine ⟨fun s k => ⟨select_off, fun hp hc ho =>
    ⟨fun v hf => select_forced hp hc ho hf, fun hf => ⟨?_, ?_⟩⟩⟩, ?_, ?_⟩
  · exact select_safe hp hc ho hf
  · exact fun hs hk => ⟨select_kept hp hc ho hf hs hk, select_level hp hc ho hf hs hk⟩
  · exact fun s k => by rw [only_of_beside (latchOut_beside k s)]
  · exact fun s k v => latchSource_live

/-- Settles O16: the selection falls in row 2 or later, so it is listed, and the channel's drive writes no output. -/
theorem latchFollowsSelection : Obligations.LatchFollowsSelection := by
  intro s i hi ho hp hc k t
  have hk : keyType k = 0x0C := keyType_dkey (by omega)
  have ht (j : Nat) : t.out j = ((latchSource k s).setOut k { (latchSource k s).out k with
      sel := (select (latchSource k s) k).1, row := (select (latchSource k s) k).2 }).out j := by
    simp only [t, k, latchOut_on ho]
    exact applyOut_dio_out hk _
  have hrow : (select (latchSource k s) k).2 ≠ 1 := select_row_ne_one hp hc ho
  have hlisted : ({ (latchSource k s).out k with
      sel := (select (latchSource k s) k).1, row := (select (latchSource k s) k).2 } : OutC) ≠ OutC.dflt :=
    fun h => hrow (congrArg OutC.row h)
  refine ⟨?_, ?_, fun j hj => ?_⟩
  · rw [ht, setOut_out_listed hlisted]
  · rw [ht, setOut_out_listed hlisted]
  · rw [ht, State.setOut_out_other _ _ _ _ hj, latchSource_out_other hj]

end Sys2Proof.Machine
end

section
/-! SUPPORT. When the rows of this family come about: the condition that `Safety.occurs` gives each. -/
namespace Sys2Proof.Machine

/-- A running module is not in a cold reset. -/
theorem not_cold_of_up {s : State} (h : s.up = true) : s.pwr.phase ≠ .cold := by
  intro hc
  simp [State.up, hc] at h

theorem occurs_tick (e : TickEnv) (s : State) :
    Safety.occurs (.tick e) s = (s.up && s.start.resetReq.isNone && e.ecc.isEmpty) := rfl

theorem occurs_lockstepMismatch (s : State) :
    Safety.occurs .lockstepMismatch s = (s.up && decide (s.start.warmRun < 2)) := rfl

theorem occurs_bosunWatchdog (s : State) : Safety.occurs .bosunWatchdog s
    = (s.up && decide (s.start.warmRun < 2) && s.due (s.start.refreshAt + 2 * s.safeTimeout * 1000)) := rfl

theorem occurs_bosunRefresh (s : State) : Safety.occurs .bosunRefresh s
    = (s.up && s.rdy 4 && s.due (s.start.refreshAt + s.safeTimeout * 250)) := rfl

theorem occurs_logicSilence (d : Nat) (s : State) : Safety.occurs (.logicSilence d) s
    = (s.up && (s.die d).conf && !(s.die d).frozen && s.due ((s.die d).refreshAt + (s.die d).safeTimeout * 1000)) := rfl

theorem occurs_keepWindowExpiry (d : Nat) (s : State) : Safety.occurs (.keepWindowExpiry d) s
    = ((s.die d).keeping && s.due ((s.die d).keepAt + (s.die d).keepWindow * 1000)) := rfl

theorem occurs_scrubBlock (l : List Nat) (s : State) :
    Safety.occurs (.scrubBlock l) s = (s.up && s.due (s.aon.scrubAt + s.scrubWait)) := rfl

theorem occurs_domainHoist (d : Nat) (s : State) : Safety.occurs (.domainHoist d) s
    = (s.pwr.phase != .cold && d != 0 && decide (d ≤ 13) && (s.domainWanted d || d == 1 || d == 12)
        && !(s.domain d).hoisted) := rfl

theorem occurs_domainFurl (d : Nat) (s : State) : Safety.occurs (.domainFurl d) s
    = (d != 0 && decide (d ≤ 13) && s.domainDone d && (s.domain d).hoisted) := rfl

theorem occurs_pllStop (d : Nat) (s : State) : Safety.occurs (.pllStop d) s
    = (!(s.domain d).hoisted && (s.domain d).pll && !((d == 7 || d == 8) && s.halfKept d)
        && s.due ((s.domain d).at_ + 10000)) := rfl

end Sys2Proof.Machine
end

section
/-! SUPPORT. Host values under writes and activations (R25, R97). -/
namespace Sys2Proof.Machine

/-- A write to an output with another source, once readiness and ownership have passed. -/
theorem writeItem_conflict {c : Cmd} {i : Nat} {s : State} (hr : s.fieldReady (fld (cut c.payload (4 + 8 * i) 8) 0 4) = true)
    (hm : s.mayOperate (fld (cut c.payload (4 + 8 * i) 8) 0 4) c.sess = true)
    (hs : s.srcKind (fld (cut c.payload (4 + 8 * i) 8) 0 4) ≠ 0) : writeItem c i s = (s, 0x0403) := by
  simp [writeItem, itemGate, hr, hm, hs]

theorem endTests_host (i : Nat) (s : State) : (endTests i s).io.host = s.io.host := by
  unfold endTests
  exact forAll_same (fun s => s.io.host) _ _ (fun _ _ => by rfl) s

/-- An activation zeroes the committed value of an output that comes to have host writes as its source, and touches no
other: the channel it turns off has no part in it. -/
theorem outActivate_host (old : State) (k : Nat) (s : State) : (outActivate old k s).io.host =
    if s.outOn k && s.srcKind k = 0 && (!old.outOn k || old.srcKind k ≠ 0) then Tbl.wr 0 s.io.host k 0 else s.io.host := by
  unfold outActivate
  extract_lets i zero io s1 was now
  have h1 : s1.io.host = if zero then Tbl.wr 0 s.io.host k 0 else s.io.host := by
    unfold s1
    split <;> rfl
  refine Eq.trans ?_ h1
  split
  · rfl
  · split
    · rfl
    · rfl
    · exact endTests_host i s1
    · rfl

/-- An output with host writes as its source has the committed value as its source value. -/
theorem sourceValue_host {s : State} {k : Nat} (h : s.srcKind k = 0) : sourceValue s k = some (s.hostVal k) := by
  simp [sourceValue, h]

end Sys2Proof.Machine
end

section
/-! The obligation on host writes. -/
namespace Sys2Proof.Machine

/-- Settles O17: the checks of a write in their order, and what an activation does to the committed value. -/
theorem writeNeedsHostSource : Obligations.WriteNeedsHostSource := by
  refine ⟨fun c i s hr hm _ hs => writeItem_conflict hr hm hs, fun old k s ho hs hold => ?_, fun old k s hold hsold _ _ => ?_,
    fun k s => sourceValue_host⟩
  · rw [outActivate_host, if_pos (by simpa [ho, hs] using hold)]
  · rw [outActivate_host, if_neg (by simp [hold, hsold])]

end Sys2Proof.Machine
end

section
/-! SUPPORT. What a warm reset leaves beside the field side and the Telltale (R377, R385, R388). -/
namespace Sys2Proof.Machine

theorem ttDropFifo_only (s : State) : ttDropFifo s = { s with tt := (ttDropFifo s).tt } := by
  unfold ttDropFifo
  dsimp only
  rw [forAll_tt _ _ (fun o st => ttLose_only o.code st)]

/-- Steps that write the supplies' and the clocks' part only write that part only, one after the other. -/
theorem forAll_pwr {α : Type} (l : List α) (f : α → State → State)
    (h : ∀ a s, f a s = { s with pwr := (f a s).pwr }) (s : State) :
    forAll l f s = { s with pwr := (forAll l f s).pwr } := by
  unfold forAll
  induction l generalizing s with
  | nil => rfl
  | cons a l ih => rw [List.foldl_cons, ih, h]

theorem clearStats_only (s : State) : clearStats s = { s with pwr := (clearStats s).pwr } := by
  unfold clearStats
  rw [forAll_pwr _ _ (fun d st => rfl)]

/-- The control die as a warm reset restarts it, before the notice reaches the dies. -/
def warmBegun (kind : Nat) (s : State) : State :=
  let s1 := clearStats (ttDropFifo (controlReset s))
  { s1 with
    pwr := { s1.pwr with phase := .warm }
    start := { s1.start with kind := kind, startOptime := s.optime, warmRun := s.start.warmRun + 1,
                             warmResets := (s1.start.warmResets + 1) % 4294967296 } }

/-- A warm reset that is not the third of its run: the control die restarts, and the notice reaches each die. -/
theorem warmReset_eq {s : State} (kind : Nat) (hp : s.pwr.phase ≠ .cold) (hn : s.start.warmRun + 1 ≠ 3) :
    warmReset kind s = forAll [1, 2, 3] (fun d st => applyDie d (notice d st)) (warmBegun kind s) := by
  unfold warmReset warmBegun
  split
  · contradiction
  · rw [if_neg hn]

/-- Beside the field side and the Telltale a warm reset leaves what the restart of the control die does. -/
theorem warmReset_beside {s : State} (kind : Nat) (hp : s.pwr.phase ≠ .cold) (hn : s.start.warmRun + 1 ≠ 3) :
    (warmReset kind s).beside = (warmBegun kind s).beside := by
  rw [warmReset_eq kind hp hn]
  exact forAll_same State.beside _ _ (fun d st => by simp) _

theorem warmBegun_phase (kind : Nat) (s : State) : (warmBegun kind s).pwr.phase = .warm := rfl

theorem warmBegun_warmRun (kind : Nat) (s : State) : (warmBegun kind s).start.warmRun = s.start.warmRun + 1 := rfl

theorem warmBegun_kind (kind : Nat) (s : State) : (warmBegun kind s).start.kind = kind := rfl

theorem warmBegun_sess (kind : Nat) (s : State) : (warmBegun kind s).sess = [] := by
  unfold warmBegun
  rw [clearStats_only, ttDropFifo_only]
  rfl

theorem warmBegun_queue (kind : Nat) (s : State) : (warmBegun kind s).host.queue = [] := by
  unfold warmBegun
  rw [clearStats_only, ttDropFifo_only]
  rfl

theorem warmBegun_ready (kind : Nat) (s : State) : (warmBegun kind s).start.ready = 0 := by
  unfold warmBegun
  rw [clearStats_only, ttDropFifo_only]
  rfl

/-- The control die restarts, no session, command or READY bit outlives it, and WARM_RUN rises by one. -/
theorem warmReset_restarts {s : State} (kind : Nat) (hp : s.pwr.phase ≠ .cold) (hn : s.start.warmRun + 1 ≠ 3) :
    (warmReset kind s).pwr.phase = .warm ∧ (warmReset kind s).start.warmRun = s.start.warmRun + 1
      ∧ (warmReset kind s).start.kind = kind ∧ (warmReset kind s).sess = [] ∧ (warmReset kind s).start.ready = 0
      ∧ (warmReset kind s).host.queue = [] := by
  rw [only_of_beside (warmReset_beside kind hp hn)]
  dsimp only
  exact ⟨warmBegun_phase kind s, warmBegun_warmRun kind s, warmBegun_kind kind s, warmBegun_sess kind s,
    warmBegun_ready kind s, warmBegun_queue kind s⟩

end Sys2Proof.Machine
end

section
/-! The obligation on the rows that bring a warm reset. -/
namespace Sys2Proof.Machine

/-- Settles O45: fewer than two warm resets of the run went before, so this one is no third. -/
theorem warmResetRowsComplete : Obligations.WarmResetRowsComplete := by
  refine ⟨fun s h => ?_, fun s h => ?_⟩
  · simp only [occurs_lockstepMismatch, Bool.and_eq_true, decide_eq_true_eq] at h
    obtain ⟨hup, hrun⟩ := h
    exact ⟨_, rfl, warmReset_restarts 0x13 (not_cold_of_up hup) (by omega)⟩
  · simp only [occurs_bosunWatchdog, Bool.and_eq_true, decide_eq_true_eq] at h
    obtain ⟨⟨hup, hrun⟩, hdue⟩ := h
    have hw : bosunWatchdog s = warmReset 0x15 s := by simp [bosunWatchdog, hup, hdue]
    exact ⟨bosunWatchdog s, rfl, hw ▸ warmReset_restarts 0x15 (not_cold_of_up hup) (by omega)⟩

end Sys2Proof.Machine
end

section
/-! SUPPORT. Until the edge hoists its domains, a tick leaves the record of starts as it is: no asked reset comes of it (R22). -/
namespace Sys2Proof.Machine

theorem supplyMeas_start (m : Meas) (s : State) : (supplyMeas m s).start = s.start := by cases m <;> rfl

theorem fieldMeas_start (m : Meas) (s : State) : (fieldMeas m s).start = s.start := by cases m <;> rfl

theorem takeMeas_start (l : List Meas) (s : State) : (takeMeas l s).start = s.start := by
  refine forAll_same State.start l _ (fun m st => ?_) s
  split
  · exact supplyMeas_start m st
  · exact (fieldMeas_start m _).trans (supplyMeas_start m st)

theorem sendNext_start (p : Nat) (s : State) : (sendNext p s).start = s.start := by
  unfold sendNext
  dsimp only
  split
  · rfl
  · split <;> rfl

theorem dropQueued_start (p : Nat) (s : State) : (dropQueued p s).start = s.start := by
  unfold dropQueued
  exact forAll_same State.start _ _ (fun o st => by rw [dropFor_only]) _

theorem portRestart_start (p : Nat) (s : State) : (portRestart p s).start = s.start := by
  unfold portRestart
  extract_lets s1 s2
  have h : s1.start = s.start := by
    unfold s1
    split
    · exact dropQueued_start p s
    · rfl
  refine Eq.trans ?_ h
  (repeat' split) <;> rfl

theorem portsIfDue_start (s : State) : (portsIfDue s).start = s.start := by
  unfold portsIfDue
  split
  · rfl
  · exact forAll_same State.start _ _ portRestart_start _

theorem resetIfDue_unasked {s : State} (h : s.start.resetReq = none) : resetIfDue s = s := by
  simp [resetIfDue, h]

/-- A tick that meets no error of the Hold, with no reset asked for. -/
theorem tick_eq {e : TickEnv} {s : State} (hr : s.start.resetReq = none) (he : e.ecc = []) :
    tick e s = pass (tickWork e (domainEdge (portsIfDue (forAll [0, 1, 2, 3, 4] sendNext (takeMeas e.meas s))))) := by
  have hstart : (portsIfDue (forAll [0, 1, 2, 3, 4] sendNext (takeMeas e.meas s))).start = s.start := by
    rw [portsIfDue_start, forAll_same State.start _ _ sendNext_start, takeMeas_start]
  unfold tick
  rw [he, show holdErrors [] (takeMeas e.meas s) = takeMeas e.meas s from rfl, resetIfDue_unasked (by rw [hstart, hr])]

theorem pass_phase (s : State) : (pass s).pwr.phase = s.pwr.phase := by
  unfold pass
  dsimp only
  split
  · rfl
  · have h : (domainTime 250 (fanTime 250 (dioSampled (readyEdge (halyardEdge s))))).kept = s.kept := by simp
    simp only [State.kept, Prod.mk.injEq] at h
    simp [h]

end Sys2Proof.Machine
end

section
/-! The obligation on the tick. -/
namespace Sys2Proof.Machine

/-- Settles O32: nothing that the edge does touches the time or the phase, and then 250 µs pass. -/
theorem tickAdvancesTime : Obligations.TickAdvancesTime := by
  intro e s h
  simp only [occurs_tick, Bool.and_eq_true, Option.isNone_iff_eq_none, List.isEmpty_iff] at h
  obtain ⟨⟨hup, hreset⟩, hecc⟩ := h
  have heq := tick_eq hreset hecc
  have hkept : (tickWork e (domainEdge (portsIfDue (forAll [0, 1, 2, 3, 4] sendNext (takeMeas e.meas s))))).kept = s.kept := by
    simp
  generalize tickWork e (domainEdge (portsIfDue (forAll [0, 1, 2, 3, 4] sendNext (takeMeas e.meas s)))) = u at heq hkept ⊢
  simp only [State.kept, Prod.mk.injEq] at hkept
  obtain ⟨-, -, -, -, -, htime, hphase⟩ := hkept
  refine ⟨tick e s, rfl, ?_, ?_, heq⟩
  · rw [heq, pass_time u (hphase ▸ not_cold_of_up hup), htime]
  · rw [heq]
    unfold State.up at hup ⊢
    rw [pass_phase, hphase, hup]

end Sys2Proof.Machine
end

section
/-! SUPPORT. The rows of the clock domains, of the refresh and of the scrubber, past the conditions under which they come
about (R30 to R32, R387, R389, R421). -/
namespace Sys2Proof.Machine

/-- A domain that does not run hoists: its PLL runs, the hoist is counted, and AFE begins its calibration (R31, R32, R272). -/
theorem hoist_furled {s : State} {d : Nat} (h : (s.domain d).hoisted = false) : hoist d s =
    (let v := s.domain d
     let s1 := s.setDomain d { v with
       hoisted := true, pll := true, hoists := (v.hoists + 1) % 4294967296,
       locks := if v.pll then v.locks else (v.locks + 1) % 4294967296, at_ := s.aon.nowUs }
     if d = 9 then { s1 with start := { s1.start with afeCalibrating := true } } else s1) := by
  unfold hoist
  dsimp only
  rw [if_neg (by simp [h])]

theorem domainHoist_occurs {s : State} {d : Nat} (h : Safety.occurs (.domainHoist d) s = true) :
    (s.domain d).hoisted = false ∧
      domainHoist d s = (hoist d s).setDomain d { (hoist d s).domain d with workAt := s.aon.nowUs } := by
  simp only [occurs_domainHoist, Bool.and_eq_true, Bool.not_eq_true', bne_iff_ne, decide_eq_true_eq] at h
  obtain ⟨⟨⟨⟨hp, hd⟩, hd13⟩, hw⟩, hh⟩ := h
  refine ⟨hh, ?_⟩
  refine if_neg fun hidle => ?_
  have hidle : (s.domainWanted d = false ∧ d ≠ 1) ∧ d ≠ 12 := by simpa [hp, hd, Nat.not_lt.mpr hd13] using hidle
  simp [hidle] at hw

theorem domainFurl_occurs {s : State} {d : Nat} (h : Safety.occurs (.domainFurl d) s = true) :
    domainFurl d s = s.setDomain d { s.domain d with hoisted := false, at_ := s.aon.nowUs } := by
  simp only [occurs_domainFurl, Bool.and_eq_true, bne_iff_ne, decide_eq_true_eq] at h
  obtain ⟨⟨⟨hd, hd13⟩, hdone⟩, hh⟩ := h
  unfold domainFurl
  refine (if_neg fun hstays => ?_).trans (if_pos hh)
  simp only [Bool.or_eq_true, decide_eq_true_eq, Bool.not_eq_true'] at hstays
  obtain (h0 | h13) | hbusy := hstays
  · exact hd h0
  · omega
  · rw [hdone] at hbusy
    contradiction

theorem pllStop_occurs {s : State} {d : Nat} (h : Safety.occurs (.pllStop d) s = true) :
    pllStop d s = s.setDomain d { s.domain d with pll := false } := by
  simp only [occurs_pllStop, Bool.and_eq_true, Bool.not_eq_true'] at h
  obtain ⟨⟨⟨hh, hpll⟩, hk⟩, hdue⟩ := h
  unfold pllStop
  dsimp only
  rw [if_neg]
  simpa [hh, hpll, hdue] using hk

theorem bosunRefresh_occurs {s : State} (h : Safety.occurs .bosunRefresh s = true) :
    bosunRefresh s = forAll [1, 2, 3] (fun d st => st.setDie d { st.die d with refreshAt := st.aon.nowUs, silent := false })
      { s with start := { s.start with refreshAt := s.aon.nowUs } } := by
  simp only [occurs_bosunRefresh, Bool.and_eq_true] at h
  obtain ⟨⟨hup, hrdy⟩, hdue⟩ := h
  simp [bosunRefresh, hup, hrdy, hdue]

theorem logicSilence_occurs {s : State} {d : Nat} (h : Safety.occurs (.logicSilence d) s = true) :
    logicSilence d s = applyDie d (s.setDie d { s.die d with silent := true }) :=
  if_pos (occurs_logicSilence d s ▸ h)

theorem keepExpiry_occurs {s : State} {d : Nat} (h : Safety.occurs (.keepWindowExpiry d) s = true) :
    keepExpiry d s = applyDie d (s.setDie d { s.die d with keeping := false, keepOver := true }) :=
  if_pos (occurs_keepWindowExpiry d s ▸ h)

theorem scrubBlock_occurs {s : State} {l : List Nat} (h : Safety.occurs (.scrubBlock l) s = true) :
    scrubBlock l s = forAll l scrubBad { s with aon := { s.aon with
      scrubPos := (s.aon.scrubPos + 1) % 8192, scrubLeft := s.aon.scrubLeft - 1, scrubAt := s.aon.nowUs } } := by
  simp only [occurs_scrubBlock, Bool.and_eq_true] at h
  obtain ⟨hup, hdue⟩ := h
  simp [scrubBlock, hup, hdue]

end Sys2Proof.Machine
end

section
/-! The obligations on the rows of the clock domains, the dies' watch and the scrubber. -/
namespace Sys2Proof.Machine

/-- Settles O42: each row under the condition that brings it about. -/
theorem domainRowsComplete : Obligations.DomainRowsComplete := by
  refine ⟨fun d s h => ?_, fun d s h => congrArg Host.Outcome.next (domainFurl_occurs h),
    fun d s h => congrArg Host.Outcome.next (pllStop_occurs h)⟩
  obtain ⟨hfurled, hrow⟩ := domainHoist_occurs h
  rw [hoist_furled hfurled] at hrow
  exact congrArg Host.Outcome.next hrow

/-- Settles O43: each row under the condition that brings it about. -/
theorem watchRowsComplete : Obligations.WatchRowsComplete :=
  ⟨fun _ h => congrArg Host.Outcome.next (bosunRefresh_occurs h),
   fun _ _ h => congrArg Host.Outcome.next (logicSilence_occurs h),
   fun _ _ h => congrArg Host.Outcome.next (keepExpiry_occurs h),
   fun _ _ h => congrArg Host.Outcome.next (scrubBlock_occurs h)⟩

end Sys2Proof.Machine
end

section
/-! SUPPORT. What a command does that neither starts the block nor writes the mailbox: work that leaves what is watched alone,
resets, and the passing of time. -/
namespace Sys2Proof.Machine

/-- `t` comes from `s` by work that touches nothing watched, by resets and by the passing of time (R15, R376, R388). -/
inductive Works : State → State → Prop
  | kept {s t : State} (h : t.kept = s.kept) : Works s t
  | cold (kind : Nat) (s : State) : Works s (coldReset kind s)
  | warm (kind : Nat) (s : State) : Works s (warmReset kind s)
  | pass (s : State) : Works s (pass s)
  | trans {s t u : State} (h : Works s t) (k : Works t u) : Works s u

theorem Works.refl (s : State) : Works s s := .kept rfl

/-- An operation after work that touches nothing watched. -/
theorem Works.via {s s' t : State} (h : Works s' t) (k : s'.kept = s.kept) : Works s t := .trans (.kept k) h

theorem Works.steady {s t : State} (h : Works s t) : Steady s t := by
  induction h with
  | kept h => exact Steady.of_kept h
  | cold kind s => exact coldReset_steady kind s
  | warm kind s => exact warmReset_steady kind s
  | pass s => exact pass_steady s
  | trans _ _ ih ik => exact ih.trans ik

theorem warmReset_spi (kind : Nat) (s : State) : (warmReset kind s).spi = s.spi ∨ (warmReset kind s).spi = Spi.reset := by
  by_cases hp : s.pwr.phase = .cold
  · exact Or.inl (by simp [warmReset, hp])
  · right
    by_cases hn : s.start.warmRun + 1 = 3
    · have h : warmReset kind s = coldReset 5 s := by simp [warmReset, hn]
      rw [h]
      rfl
    · rw [only_of_beside (warmReset_beside kind hp hn)]
      unfold warmBegun
      rw [clearStats_only, ttDropFifo_only]
      rfl

theorem spi_of_kept {s t : State} (h : t.kept = s.kept) : t.spi = s.spi := congrArg (fun k => k.2.1) h

theorem pass_spi (s : State) : (pass s).spi = s.spi := by
  have h : (domainTime 250 (fanTime 250 (dioSampled (readyEdge (halyardEdge s))))).kept = s.kept := by simp
  unfold pass
  split
  · rfl
  · dsimp only
    exact spi_of_kept h

/-- Such work leaves the mailbox as it was, or at its reset values. -/
theorem Works.spi {s t : State} (h : Works s t) : t.spi = s.spi ∨ t.spi = Spi.reset := by
  induction h with
  | kept h => exact Or.inl (spi_of_kept h)
  | cold kind s => exact Or.inr rfl
  | warm kind s => exact warmReset_spi kind s
  | pass s => exact Or.inl (pass_spi s)
  | trans _ _ ih ik =>
    rcases ik with ik | ik
    · rwa [ik]
    · exact Or.inr ik

theorem forAll_works {α : Type} (l : List α) (f : α → State → State) (h : ∀ a s, Works s (f a s)) (s : State) :
    Works s (forAll l f s) := by
  unfold forAll
  induction l generalizing s with
  | nil => exact .refl s
  | cons a l ih => exact (h a s).trans (ih (f a s))

/-! ## Resets and errors of the Hold -/

theorem takeReset_works (s : State) : Works s (takeReset s) := by
  unfold takeReset
  split
  · exact .refl s
  · split
    · exact .cold 4 s
    · exact .warm _ s

theorem resetIfDue_works (s : State) : Works s (resetIfDue s) := by
  unfold resetIfDue
  split
  · exact .refl s
  · split
    · exact takeReset_works s
    · exact .refl s

theorem bosunWatchdog_works (s : State) : Works s (bosunWatchdog s) := by
  unfold bosunWatchdog
  split
  · exact .warm 0x15 s
  · exact .refl s

theorem nrstAssert_works (s : State) : Works s (nrstAssert s) := by
  unfold nrstAssert
  dsimp only
  split
  · exact .kept rfl
  · exact (Works.cold 3 _).via rfl

theorem powerFail_works (cV : Nat) (s : State) : Works s (powerFail cV s) := by
  unfold powerFail
  dsimp only
  split
  · exact .kept rfl
  · split
    · exact .kept rfl
    · exact (Works.cold 0 _).via rfl
    · exact (Works.cold 0 _).via (by simp)

theorem doubleError_works (a : Nat) (s : State) : Works s (doubleError a s) := by
  by_cases h5 : holdRegion a = 5
  · have h : doubleError a s = warmReset 0x14 s := by simp [doubleError, h5]
    rw [h]
    exact .warm 0x14 s
  · refine .kept ?_
    unfold doubleError
    split
    case h_6 h => exact absurd h h5
    all_goals simp

theorem holdError_works (e : HoldEcc) (s : State) : Works s (holdError e s) := by
  unfold holdError
  dsimp only
  split
  · exact .refl s
  · split
    · exact .kept (by simp)
    · split
      · exact doubleError_works _ s
      · exact (doubleError_works _ _).via (by simp)

theorem holdErrors_works (l : List HoldEcc) (s : State) : Works s (holdErrors l s) :=
  forAll_works l holdError holdError_works s

/-! ## Commands of the host -/

theorem finish_works (c : Cmd) (r : Res) (s : State) : Works s (finish c r s) := (resetIfDue_works _).via (by simp)

theorem executeAuth_works (c : Cmd) (q : List Cmd) (s : State) : Works s (executeAuth c q s) := by
  unfold executeAuth
  dsimp only
  split
  · exact .kept (by simp)
  · exact (finish_works _ _ _).via (by simp)

theorem execute_works (c : Cmd) (ecc : List HoldEcc) (s : State) : Works s (execute c ecc s) := by
  unfold execute
  have hread : Works s (holdErrors ecc { s with host := { s.host with
      queue := s.host.queue.filter (fun d => d.jseq != c.jseq) } }) := (holdErrors_works ecc _).via rfl
  generalize holdErrors ecc { s with host := { s.host with
      queue := s.host.queue.filter (fun d => d.jseq != c.jseq) } } = s1 at hread
  refine hread.trans ?_
  dsimp only
  split
  · exact .refl s1
  · split
    · exact finish_works _ _ s1
    · split
      · exact executeAuth_works _ _ s1
      · have hrun : (runCmd c (if c.op / 256 = 3 then txnHeard c.sess s1 else s1)).1.kept = s1.kept := by simp
        generalize runCmd c _ = r at hrun ⊢
        split
        · exact .kept hrun
        · exact (finish_works _ _ _).via hrun

theorem commandExecution_works (ecc : List HoldEcc) (s : State) : Works s (commandExecution ecc s) := by
  unfold commandExecution
  split
  · exact .refl s
  · split
    · exact execute_works _ _ s
    · exact .refl s

/-- Every host opcode: the packet arrives, and what it lets run runs. -/
theorem hostRow_works (op : Nat) (p : Packet) (s : State) : Works s (hostRow op p s) := by
  unfold hostRow
  dsimp only
  have harr : Works s (arrive p.port p.addr (packetBytes op p) p.ecc s) := .kept (by simp)
  split
  · split
    · exact harr.trans (execute_works _ _ _)
    · exact harr
  · exact harr

theorem finishRun_works (c : Cmd) (r : Res) (s : State) : Works s (finishRun c r s) := (finish_works c r _).via rfl

theorem endRun_works {f : Cmd → State → State × Res} (h : ∀ c s, (f c s).1.kept = s.kept) (op : Nat) (s : State) :
    Works s (endRun op f s) := by
  unfold endRun
  split
  · exact .refl s
  · split
    · exact .refl s
    · exact (finishRun_works _ _ _).via (h _ s)

theorem enumRunEnd_works (p : Nat) (rx : List (Nat × SlotRx)) (s : State) : Works s (enumRunEnd p rx s) := by
  have h : Works s (enumEnd p rx s).1 := .kept (by simp)
  unfold enumRunEnd
  dsimp only
  split
  · exact .refl s
  · split
    · exact .refl s
    · split
      · exact h
      · exact h.trans (finishRun_works _ _ _)

/-! ## Rows of the scan, the reply window of RS-485, and the tick -/

theorem pointRecord_works (ecc : List HoldEcc) (s : State) : Works s (pointRecord ecc s) := by
  unfold pointRecord
  refine (holdErrors_works ecc s).trans (.kept ?_)
  dsimp only
  (repeat' split) <;> simp

theorem frontJobRow_works (ecc : List HoldEcc) (s : State) : Works s (frontJobRow ecc s) := by
  unfold frontJobRow
  refine (holdErrors_works ecc s).trans (.kept ?_)
  dsimp only
  (repeat' split) <;> simp

theorem rs485Window_works (p : Nat) (s : State) : Works s (rs485Window p s) := by
  unfold rs485Window
  dsimp only
  split
  · exact .refl s
  · split
    · split
      · exact .kept (by simp)
      · exact (resetIfDue_works _).via (by simp)
    · exact .kept (by simp)

theorem tick_works (e : TickEnv) (s : State) : Works s (tick e s) := by
  unfold tick
  have herr : Works s (holdErrors e.ecc (takeMeas e.meas s)) := (holdErrors_works e.ecc _).via (by simp)
  generalize holdErrors e.ecc (takeMeas e.meas s) = s1 at herr ⊢
  have hreset : Works s (resetIfDue (portsIfDue (forAll [0, 1, 2, 3, 4] sendNext s1))) :=
    herr.trans ((resetIfDue_works _).via (by simp))
  exact (hreset.trans (.kept (by simp))).trans (.pass _)

/-! ## Every command -/

/-- The rows of the mailbox (R54 to R56). -/
def ofMailbox : Instr → Bool
  | .spiInGo _ | .spiInTaken | .spiOutDone _ | .spiOutPlace | .spiInBufferWrite _ _ | .spiIrqStatusClear _
  | .spiRegisterWrite _ _ => true
  | _ => false

/-- The rows that start the block (R378, R380, R385). -/
def ofStart : Instr → Bool
  | .coldStart _ | .nrstRelease | .adoption => true
  | _ => false

/-- What holds of the state that a row gives holds of the next state. -/
theorem holds_of_next (P : State → Prop) {t u : State} (k : P u) (h : (.next u : Host.Outcome State Fault Refusal) = .next t) :
    P t := Host.Outcome.next.inj h ▸ k

/-- A command that neither writes the mailbox nor starts the block works and resets only. The rows named here may meet a
reset or let time pass; every other row leaves alone all that is watched. -/
theorem exec_works {c : Instr} {s t : State} (h : exec c s = .next t) (hm : ofMailbox c = false) (hs : ofStart c = false) :
    Works s t := by
  cases c with
  | spiInGo | spiInTaken | spiOutDone | spiOutPlace | spiInBufferWrite | spiIrqStatusClear | spiRegisterWrite => contradiction
  | coldStart | nrstRelease | adoption => contradiction
  | hello p | auth p | keepalive p | bye p | subscribe p | getReady p | journalHead p | journalRead p | resultOf p
  | stateDigest p | objectVersions p | rigBegin p | rigPut p | rigCommit p | rigAbort p | rigGet p | rigSave p
  | rigBankSelect p | pointRead p | scanSetPeriod p | scanExtraCycle p | enumerateDiscover p | enumerateAssign p
  | enumerateReport p | pointThreshSet p | frontRead p | trendOpen p | trendRead p | trendClose p | trendStatus p
  | frontLog p | loopSetSp p | loopMode p | loopRead p | loopClearFlags p | injectStart p | captureRead p
  | captureFree p | mastMode p | mastRead p | ledgerRead p | dryerMode p | dryerNext p | dryerPause p
  | dryerResume p | dryerAck p | dryerEmpty p | dryerRead p | routeClaim p | routeRelease p | routeStart p
  | routeStopNormal p | routeStopQuick p | routeAck p | routeRead p | dioWrite p | dioRead p | loadWrite p
  | loadRead p | aoWrite p | fanSet p | fanRead p | faultClear p | afeRead p | threshRead p | ttOpen p | ttClose p
  | ttNotify p | ttRead p | ttPin p | ttUnpin p | ttClear p | ttLimitsSet p | ttLimitsGet p | sysInfo p
  | timeMark p | resetWarm p | resetCold p | powerPlanGet p | powerPlanClear p | powerPlanSet p | quotaSet p
  | roleLower p | roleEvict p | roleRelease p | keySet p | fwBegin p | fwData p | fwEnd p | fwActivate p
  | fwAbort p => exact holds_of_next (Works s) (hostRow_works _ _ s) h
  | tick e => exact holds_of_next (Works s) (tick_works e s) h
  | commandExecution ecc => exact holds_of_next (Works s) (commandExecution_works ecc s) h
  | rigCommitComplete => exact holds_of_next (Works s) (endRun_works rigCommitEnd_kept _ s) h
  | rigSaveComplete => exact holds_of_next (Works s) (endRun_works rigSaveEnd_kept _ s) h
  | fwEndComplete => exact holds_of_next (Works s) (endRun_works (fun _ => fwEnd_kept) _ s) h
  | enumerateRunEnd p rx => exact holds_of_next (Works s) (enumRunEnd_works p rx s) h
  | pointRecord ecc => exact holds_of_next (Works s) (pointRecord_works ecc s) h
  | frontJob ecc => exact holds_of_next (Works s) (frontJobRow_works ecc s) h
  | rs485ReplyWindow p => exact holds_of_next (Works s) (rs485Window_works p s) h
  | powerFail cV => exact holds_of_next (Works s) (powerFail_works cV s) h
  | nrstAssert => exact holds_of_next (Works s) (nrstAssert_works s) h
  | lockstepMismatch => exact holds_of_next (Works s) (.warm 0x13 s) h
  | bosunWatchdog => exact holds_of_next (Works s) (bosunWatchdog_works s) h
  | _ => exact holds_of_next (Works s) (.kept (by simp)) h

/-! ## The rows of the mailbox and of the starts -/

theorem mailbox_steady {c : Instr} {s t : State} (h : exec c s = .next t) (hm : ofMailbox c = true) : Steady s t := by
  cases c with
  | spiInGo w => exact holds_of_next (Steady s) (spiWrite_steady 8 _ s) h
  | spiInTaken => exact holds_of_next (Steady s) (spiTaken_steady s) h
  | spiOutDone w => exact holds_of_next (Steady s) (spiWrite_steady 8 _ s) h
  | spiOutPlace => exact holds_of_next (Steady s) (spiPlace_steady s) h
  | spiInBufferWrite a bs => exact holds_of_next (Steady s) (spiWrite_steady a bs s) h
  | spiIrqStatusClear w => exact holds_of_next (Steady s) (spiWrite_steady 20 _ s) h
  | spiRegisterWrite a bs => exact holds_of_next (Steady s) (spiWrite_steady a bs s) h
  | _ => contradiction

theorem coldStart_spi (cV : Nat) (s : State) : (coldStart cV s).spi = s.spi := by
  rcases coldStart_spec cV s with ⟨-, h⟩ | ⟨-, h⟩
  · exact h.spi
  · exact h.spi

theorem nrstRelease_spi (s : State) : (nrstRelease s).spi = s.spi := by
  rcases nrstRelease_spec s with h | h
  · exact spi_of_kept h
  · rw [h, coldStart_spi]

theorem adoption_spi (s : State) : (adoption s).spi = s.spi := by
  rcases adoption_spec s with h | h
  · rw [h]
  · exact h.spi

theorem start_inv {c : Instr} {s t : State} (h : exec c s = .next t) (hs : ofStart c = true) (i : Safety.Inv s) :
    Safety.Inv t := by
  cases c with
  | coldStart cV => exact holds_of_next Safety.Inv (coldStart_inv cV s i) h
  | nrstRelease => exact holds_of_next Safety.Inv (nrstRelease_inv s i) h
  | adoption => exact holds_of_next Safety.Inv (adoption_inv s i) h
  | _ => contradiction

/-- A start leaves the mailbox as it is. -/
theorem start_spi {c : Instr} {s t : State} (h : exec c s = .next t) (hs : ofStart c = true) : t.spi = s.spi := by
  cases c with
  | coldStart cV => exact holds_of_next (fun t => t.spi = s.spi) (coldStart_spi cV s) h
  | nrstRelease => exact holds_of_next (fun t => t.spi = s.spi) (nrstRelease_spi s) h
  | adoption => exact holds_of_next (fun t => t.spi = s.spi) (adoption_spi s) h
  | _ => contradiction

/-- No command breaks the invariant. -/
theorem exec_inv {c : Instr} {s t : State} (h : exec c s = .next t) (i : Safety.Inv s) : Safety.Inv t := by
  by_cases hs : ofStart c = true
  · exact start_inv h hs i
  · by_cases hm : ofMailbox c = true
    · exact (mailbox_steady h hm).inv i
    · exact (exec_works h (by simpa using hm) (by simpa using hs)).steady.inv i

end Sys2Proof.Machine
end

section
/-! The obligations on the invariant of the block and on who writes the mailbox. -/
namespace Sys2Proof.Machine

/-- Settles O4: the invariant speaks of WARM_RUN and of the mailbox, and no command breaks it. -/
theorem stepKeepsInvariant : Obligations.StepKeepsInvariant := by
  intro s t i h
  unfold step at h
  split at h
  · exact holds_of_next Safety.Inv i h
  · exact exec_inv h i

/-- Settles O8: what is no mailbox row either starts the block, which leaves the mailbox alone, or works and resets. -/
theorem mailboxOnlyBySpi : Obligations.MailboxOnlyBySpi := by
  intro c s t h
  by_cases hm : ofMailbox c = true
  · right
    cases c with
    | spiInGo | spiInTaken | spiOutDone | spiOutPlace | spiInBufferWrite | spiIrqStatusClear | spiRegisterWrite => simp
    | _ => contradiction
  · left
    by_cases hs : ofStart c = true
    · exact Or.inl (start_spi h hs)
    · exact (exec_works h (by simpa using hm) (by simpa using hs)).spi

end Sys2Proof.Machine
end

section
/-! SUPPORT. The mailbox: what a write transaction does to the IN buffer and to each register (R54 to R56). -/
namespace Sys2Proof.Machine

/-! ## The IN buffer -/

/-- The state with the IN buffer written. -/
def inBufWritten (a : Nat) (data : Bytes) (s : State) : State :=
  { s with spi := { s.spi with inBuf := Memory.write s.spi.inBuf (a - 4096) data } }

theorem inBufAddr_of_mem {a : Nat} (h : 4096 ≤ a) (h' : a < 12328) : inBufAddr a = true := by simp [inBufAddr, h, h']

/-- Bytes that the IN buffer takes while IN_FREE is 1 are stored at their offsets (R55). -/
theorem spiPuts_free (data : Bytes) (a : Nat) (s : State) (f : Bool) (hf : s.spi.inFree = true) (ha : 4096 ≤ a)
    (hl : a + data.length ≤ 12328) : spiPuts a data (s, f) = (inBufWritten a data s, f) := by
  induction data generalizing a s with
  | nil => rfl
  | cons b bs ih =>
    rw [List.length_cons] at hl
    have hin : inBufAddr a = true := inBufAddr_of_mem ha (by omega)
    have hput : spiPut a b s = inBufWritten a [b] s := by simp [spiPut, hin, hf, inBufWritten]
    have hnext : spiPuts a (b :: bs) (s, f) = spiPuts (a + 1) bs (inBufWritten a [b] s, f) := by
      simp [spiPuts, hput, hin, hf, Nat.mod_eq_of_lt (show a + 1 < 65536 by omega)]
    rw [hnext, ih (a + 1) (inBufWritten a [b] s) hf (by omega) (by omega)]
    simp [inBufWritten, Memory.write, Nat.sub_add_comm ha]

/-- While IN_FREE is 0 the IN buffer takes none (R55). -/
theorem spiPuts_busy (data : Bytes) (a : Nat) (s : State) (f : Bool) (hf : s.spi.inFree = false) (ha : 4096 ≤ a)
    (hl : a + data.length ≤ 12328) : spiPuts a data (s, f) = (s, f || !data.isEmpty) := by
  induction data generalizing a f with
  | nil => simp [spiPuts]
  | cons b bs ih =>
    rw [List.length_cons] at hl
    have hin : inBufAddr a = true := inBufAddr_of_mem ha (by omega)
    have hput : spiPut a b s = s := by simp [spiPut, hin, hf]
    rw [spiPuts, hput, Nat.mod_eq_of_lt (by omega), ih (a + 1) _ (by omega) (by omega)]
    simp [hin, hf]

theorem spiWrite_free {a : Nat} {data : Bytes} {s : State} (hp : s.portOn 7 = true) (hf : s.spi.inFree = true)
    (ha : 4096 ≤ a) (hl : a + data.length ≤ 12328) : spiWrite a data s = inBufWritten a data s := by
  simp [spiWrite, hp, Nat.mod_eq_of_lt (show a < 65536 by omega), spiPuts_free data a s false hf ha hl]

/-- A refused transaction counts once (R55; log 27). -/
theorem spiWrite_busy {a : Nat} {data : Bytes} {s : State} (hp : s.portOn 7 = true) (hf : s.spi.inFree = false)
    (ha : 4096 ≤ a) (hl : a + data.length ≤ 12328) (hd : data ≠ []) : spiWrite a data s = spiErr s := by
  simp [spiWrite, hp, Nat.mod_eq_of_lt (show a < 65536 by omega), spiPuts_busy data a s false hf ha hl, hd]

/-! ## The registers -/

/-- The upper bytes of +8 and of the registers of one byte take nothing (R54). -/
theorem spiWrite_one {a : Nat} (h : a = 8 ∨ a = 16 ∨ a = 20) (b b1 b2 b3 : Byte) {s : State} (hp : s.portOn 7 = true) :
    spiWrite a [b, b1, b2, b3] s = spiPut a b s := by
  rcases h with rfl | rfl | rfl <;> simp [spiWrite, hp, spiPuts, inBufAddr, spiPut.eq_def]

/-- A write to +12 sets the 14 bits of IN_LEN (R54). -/
theorem spiWrite_inLen (b0 b1 b2 b3 : Byte) {s : State} (hp : s.portOn 7 = true) :
    spiWrite 12 [b0, b1, b2, b3] s = { s with spi := { s.spi with inLen := b1.toNat % 64 * 256 + b0.toNat } } := by
  have hb : (s.spi.inLen / 256 * 256 + b0.toNat) % 256 = b0.toNat := by
    have := b0.isLt
    omega
  simp [spiWrite, hp, spiPuts, inBufAddr, spiPut.eq_def, hb]

theorem spiPut_control (b : Byte) (s : State) : spiPut 8 b s =
    (let s1 := if bit b.toNat 0 then spiGo s else s
     if bit b.toNat 1 then spiDone s1 else s1) := rfl

theorem spiPut_mask (b : Byte) (s : State) : spiPut 16 b s = { s with spi := { s.spi with irqMask := b.toNat % 8 } } := rfl

theorem spiPut_status (b : Byte) (s : State) : spiPut 20 b s =
    { s with spi := { s.spi with irqStatus := s.spi.irqStatus - (s.spi.irqStatus &&& b.toNat) } } := rfl

/-- A write of IN_GO alone. -/
theorem spiWrite_go {s : State} (hp : s.portOn 7 = true) : spiWrite 8 (le 4 (1#32).toNat) s = spiGo s := by
  rw [show le 4 (1#32).toNat = [1#8, 0#8, 0#8, 0#8] from rfl, spiWrite_one (Or.inl rfl) _ _ _ _ hp, spiPut_control]
  rfl

/-- A write of OUT_DONE alone. -/
theorem spiWrite_done {s : State} (hp : s.portOn 7 = true) : spiWrite 8 (le 4 (2#32).toNat) s = spiDone s := by
  rw [show le 4 (2#32).toNat = [2#8, 0#8, 0#8, 0#8] from rfl, spiWrite_one (Or.inl rfl) _ _ _ _ hp, spiPut_control]
  rfl

theorem satInc_eq_min (m v : Nat) : satInc m v = min (v + 1) m := by
  unfold satInc
  split <;> omega

/-- A refused access sets IRQ_STATUS.ERR and counts (R54, R55). -/
theorem spiErr_eq (s : State) : spiErr s = { s with spi := { s.spi with
    irqStatus := s.spi.irqStatus ||| 4, errCount := min (s.spi.errCount + 1) 0xFFFFFFFF } } := by
  rw [spiErr, satInc_eq_min]

theorem spiGo_refused {s : State} (h : s.spi.inFree = false ∨ s.spi.inLen < 40 ∨ 8232 < s.spi.inLen) :
    spiGo s = spiErr s := by
  refine if_neg ?_
  simp only [Bool.and_eq_true, decide_eq_true_eq]
  rintro ⟨⟨hf, hlo⟩, hhi⟩
  rcases h with h | h | h
  · simp [hf] at h
  · omega
  · omega

end Sys2Proof.Machine
end

section
/-! SUPPORT. When the rows of the mailbox come about: the condition that `Safety.occurs` gives each. -/
namespace Sys2Proof.Machine

theorem occurs_spiInGo (w : BitVec 32) (s : State) : Safety.occurs (.spiInGo w) s
    = (s.portOn 7 && w == 1#32 && s.spi.inFree && decide (40 ≤ s.spi.inLen) && decide (s.spi.inLen ≤ 8232)) := rfl

theorem occurs_spiInTaken (s : State) : Safety.occurs .spiInTaken s = (s.portOn 7 && !s.spi.inFree) := rfl

theorem occurs_spiOutDone (w : BitVec 32) (s : State) : Safety.occurs (.spiOutDone w) s
    = (s.portOn 7 && w == 2#32 && s.spi.outValid) := rfl

theorem occurs_spiOutPlace (s : State) : Safety.occurs .spiOutPlace s
    = (s.portOn 7 && !s.spi.outValid && !(s.port 7).outQ.isEmpty) := rfl

theorem occurs_spiInBufferWrite (a : Nat) (data : Bytes) (s : State) : Safety.occurs (.spiInBufferWrite a data) s
    = (s.portOn 7 && s.spi.inFree && decide (4096 ≤ a) && decide (a + data.length ≤ 12328)) := rfl

theorem occurs_spiIrqStatusClear (w : BitVec 32) (s : State) : Safety.occurs (.spiIrqStatusClear w) s = s.portOn 7 := rfl

theorem occurs_spiRegisterWrite (a : Nat) (data : Bytes) (s : State) : Safety.occurs (.spiRegisterWrite a data) s
    = (s.portOn 7 && (a == 12 || a == 16) && data.length == 4) := rfl

end Sys2Proof.Machine
end

section
/-! The obligations on the mailbox. -/
namespace Sys2Proof.Machine

theorem spiInBufferWrite_occurs {a : Nat} {data : Bytes} {s : State} (h : Safety.occurs (.spiInBufferWrite a data) s = true) :
    spiWrite a data s = inBufWritten a data s := by
  simp only [occurs_spiInBufferWrite, Bool.and_eq_true, decide_eq_true_eq] at h
  obtain ⟨⟨⟨hp, hf⟩, ha⟩, hl⟩ := h
  exact spiWrite_free hp hf ha hl

/-- Settles O13: the transaction is one write of its bytes into the IN buffer, which is in canonical form. -/
theorem inBufferHoldsWrites : Obligations.InBufferHoldsWrites := by
  intro a data s h i
  obtain ⟨-, -, hwf, -⟩ := i
  refine ⟨inBufWritten a data s, congrArg Host.Outcome.next (spiInBufferWrite_occurs h), Memory.read_write _ _ _ hwf,
    fun b hb => Memory.byte_write_outside _ _ _ _ hb, rfl, rfl⟩

/-- Settles O14: the write finds no free buffer, and IN_GO no packet that it may take. -/
theorem refusedAccessesCount : Obligations.RefusedAccessesCount := by
  refine ⟨fun a data s hp hf ha hl hd => ?_, fun s hp h => ?_⟩
  · rw [← spiErr_eq, ← spiWrite_busy hp hf ha hl hd]
    rfl
  · rw [← spiErr_eq, ← spiGo_refused h, ← spiWrite_go hp]
    rfl

end Sys2Proof.Machine
end

section
/-! SUPPORT. The rows of the mailbox, past the conditions under which they come about (R54 to R56). -/
namespace Sys2Proof.Machine

theorem spiInGo_occurs {w : BitVec 32} {s : State} (h : Safety.occurs (.spiInGo w) s = true) :
    spiWrite 8 (le 4 w.toNat) s = { s with spi := { s.spi with inFree := false } } := by
  simp only [occurs_spiInGo, Bool.and_eq_true, beq_iff_eq, decide_eq_true_eq] at h
  obtain ⟨⟨⟨⟨hp, rfl⟩, hf⟩, hlo⟩, hhi⟩ := h
  rw [spiWrite_go hp]
  simp [spiGo, hf, hlo, hhi]

/-- The packet that is taken is as long as IN_LEN says now (R55; log 51). -/
theorem spiInTaken_occurs {s : State} (h : Safety.occurs .spiInTaken s = true) :
    spiTaken s = arrive 7 0 (Memory.read s.spi.inBuf 0 s.spi.inLen) []
      { s with spi := { s.spi with inFree := true, irqStatus := s.spi.irqStatus ||| 2 } } := by
  simp only [occurs_spiInTaken, Bool.and_eq_true, Bool.not_eq_true'] at h
  obtain ⟨hp, hf⟩ := h
  simp [spiTaken, hp, hf]

/-- OUT_LEN reads 0 while OUT_VALID is 0 (R54; log 27). -/
theorem spiOutDone_occurs {w : BitVec 32} {s : State} (h : Safety.occurs (.spiOutDone w) s = true) :
    spiWrite 8 (le 4 w.toNat) s = { s with spi := { s.spi with outValid := false, outLen := 0 } } := by
  simp only [occurs_spiOutDone, Bool.and_eq_true, beq_iff_eq] at h
  obtain ⟨⟨hp, rfl⟩, hv⟩ := h
  rw [spiWrite_done hp]
  simp [spiDone, hv]

/-- The oldest packet is placed; with no reset asked for, none follows it. -/
theorem spiOutPlace_occurs {s : State} (h : Safety.occurs .spiOutPlace s = true) (hr : s.start.resetReq = none) :
    ∃ o q, (s.port 7).outQ = o :: q ∧ spiPlace s = emit [Frame.spi (sealed o s)]
      { s.setPort 7 { s.port 7 with outQ := q } with
        spi := { s.spi with outValid := true, outLen := (sealed o s).length, irqStatus := s.spi.irqStatus ||| 1,
                            outBuf := Memory.write s.spi.outBuf 0 (sealed o s) } } := by
  simp only [occurs_spiOutPlace, Bool.and_eq_true, Bool.not_eq_true', List.isEmpty_eq_false_iff] at h
  obtain ⟨⟨hp, hv⟩, hq⟩ := h
  obtain ⟨o, q, hq⟩ := List.exists_cons_of_ne_nil hq
  refine ⟨o, q, hq, ?_⟩
  unfold spiPlace
  rw [if_neg (by simp [hp, hv]), hq]
  exact resetIfDue_unasked hr

theorem spiIrqStatusClear_occurs {w : BitVec 32} {s : State} (h : Safety.occurs (.spiIrqStatusClear w) s = true) :
    spiWrite 20 (le 4 w.toNat) s
      = { s with spi := { s.spi with irqStatus := s.spi.irqStatus - (s.spi.irqStatus &&& w.toNat % 256) } } :=
  (spiWrite_one (Or.inr (Or.inr rfl)) _ _ _ _ (occurs_spiIrqStatusClear w s ▸ h)).trans (spiPut_status _ s)

/-- Four bytes to +12 or +16. -/
theorem spiRegisterWrite_occurs {a : Nat} {data : Bytes} {s : State} (h : Safety.occurs (.spiRegisterWrite a data) s = true) :
    s.portOn 7 = true ∧ ∃ b0 b1 b2 b3, data = [b0, b1, b2, b3] := by
  simp only [occurs_spiRegisterWrite, Bool.and_eq_true, beq_iff_eq] at h
  obtain ⟨⟨hp, -⟩, hl⟩ := h
  match data, hl with
  | [b0, b1, b2, b3], _ => exact ⟨hp, b0, b1, b2, b3, rfl⟩

theorem inLenWrite_occurs {data : Bytes} {s : State} (h : Safety.occurs (.spiRegisterWrite 12 data) s = true) :
    spiWrite 12 data s = { s with spi := { s.spi with inLen := fld data 0 2 % 2 ^ 14 } } := by
  obtain ⟨hp, b0, b1, b2, b3, rfl⟩ := spiRegisterWrite_occurs h
  have hv : b1.toNat % 64 * 256 + b0.toNat = fld [b0, b1, b2, b3] 0 2 % 2 ^ 14 := by
    have := b0.isLt
    simp [fld, leNat]
    omega
  rw [spiWrite_inLen _ _ _ _ hp, hv]

theorem irqMaskWrite_occurs {data : Bytes} {s : State} (h : Safety.occurs (.spiRegisterWrite 16 data) s = true) :
    spiWrite 16 data s = { s with spi := { s.spi with irqMask := fld data 0 1 % 8 } } := by
  obtain ⟨hp, b0, b1, b2, b3, rfl⟩ := spiRegisterWrite_occurs h
  have hv : b0.toNat = fld [b0, b1, b2, b3] 0 1 := by simp [fld, leNat]
  rw [spiWrite_one (Or.inr (Or.inl rfl)) _ _ _ _ hp, spiPut_mask, hv]

end Sys2Proof.Machine
end

section
/-! The obligation on the rows of the mailbox. -/
namespace Sys2Proof.Machine

/-- Settles O25: each row under the condition that brings it about. -/
theorem spiRowsComplete : Obligations.SpiRowsComplete := by
  refine ⟨fun w s h => congrArg Host.Outcome.next (spiInGo_occurs h),
    fun s h => congrArg Host.Outcome.next (spiInTaken_occurs h),
    fun w s h => congrArg Host.Outcome.next (spiOutDone_occurs h),
    fun s h hr => ?_,
    fun a data s h => congrArg Host.Outcome.next (spiInBufferWrite_occurs h),
    fun w s h => congrArg Host.Outcome.next (spiIrqStatusClear_occurs h),
    fun data s h => congrArg Host.Outcome.next (inLenWrite_occurs h),
    fun data s h => congrArg Host.Outcome.next (irqMaskWrite_occurs h)⟩
  obtain ⟨o, q, hq, hplace⟩ := spiOutPlace_occurs h hr
  exact ⟨o, q, hq, congrArg Host.Outcome.next hplace⟩

end Sys2Proof.Machine
end

section
/-! SUPPORT. When the rows of Ethernet and of the links come about: the condition that `Safety.occurs` gives each. -/
namespace Sys2Proof.Machine

theorem occurs_udpDatagram (d : UdpIn) (s : State) : Safety.occurs (.udpDatagram d) s
    = (!d.tagged && s.ethOn d.iface && d.dstIp.toNat == s.ipOf d.iface && d.dstPort.toNat == 18430
      && (d.cksum.toNat == 0
        || d.cksum.toNat == udpSum d.srcIp.toNat d.dstIp.toNat d.srcPort.toNat d.dstPort.toNat d.data)) := rfl

theorem occurs_ipFragment (f : IpFrag) (s : State) : Safety.occurs (.ipFragment f) s
    = (!f.tagged && s.ethOn f.iface && f.dstIp.toNat == s.ipOf f.iface && f.more
      && decide (f.offset + f.data.length ≤ 8240) && decide ((s.net.frags.filter (fun c => c.iface == f.iface)).length < 8)
      && s.net.frags.all (fun c =>
        !c.same f.iface f.srcIp.toNat f.dstIp.toNat (f.proto.toNat * 65536 + f.ident.toNat))) := rfl

theorem occurs_arpRequest (n : Nat) (target sender : BitVec 32) (mac : BitVec 48) (s : State) :
    Safety.occurs (.arpRequest n target sender mac) s = (s.ethOn n && target.toNat == s.ipOf n) := rfl

theorem occurs_icmpEcho (n : Nat) (src dst : BitVec 32) (data : Bytes) (s : State) :
    Safety.occurs (.icmpEcho n src dst data) s = (s.ethOn n && dst.toNat == s.ipOf n
      && decide (((s.net.icmp.filter (fun e => decide (s.aon.nowUs < e.2 + 1000000))).filter (fun e => e.1 == n)).length < 10)) :=
  rfl

theorem occurs_t1lLinkChange (p : Nat) (up : Bool) (s : State) : Safety.occurs (.t1lLinkChange p up) s
    = (decide (p < 2) && s.pwr.phase != .cold && s.portEn p && (s.port p).up != up) := rfl

theorem occurs_rmiiLinkPoll (l : List (Nat × Bool)) (s : State) : Safety.occurs (.rmiiLinkPoll l) s
    = (s.portOn 2 && (s.port 2).up != l.any (fun e => e.1 == s.phyAddr && e.2)) := rfl

end Sys2Proof.Machine
end

section
/-! SUPPORT. The rows of Ethernet, past the conditions under which they come about (R44 to R46). -/
namespace Sys2Proof.Machine

theorem udpDatagram_occurs {d : UdpIn} {s : State} (h : Safety.occurs (.udpDatagram d) s = true) :
    udpDatagram d s = arrive d.iface (d.srcIp.toNat * 65536 + d.srcPort.toNat) d.data [] s := by
  simp only [occurs_udpDatagram, Bool.and_eq_true, Bool.not_eq_true'] at h
  obtain ⟨⟨⟨⟨htag, hon⟩, hdst⟩, hport⟩, hsum⟩ := h
  simp only [udpDatagram, htag, Bool.false_eq_true, if_false]
  exact if_pos (by simp only [hon, hdst, hport, hsum, Bool.and_true])

/-- The context that the first part of a datagram opens; PROTOCOL is part of its key (R46; log 27). -/
def openedBy (f : IpFrag) (s : State) : FragCtx :=
  { iface := f.iface, src := f.srcIp.toNat, dst := f.dstIp.toNat, ident := f.proto.toNat * 65536 + f.ident.toNat,
    at_ := s.aon.nowUs, parts := [(f.offset, f.data)], total := none }

/-- A part that is not the last, of a datagram that has no context yet, on an interface with fewer than 8 (R46). -/
theorem fragIn_first {f : IpFrag} {s : State} (hmore : f.more = true) (hlen : f.offset + f.data.length ≤ 8240)
    (hroom : (s.net.frags.filter (fun c => c.iface == f.iface)).length < 8)
    (hnew : ∀ c ∈ s.net.frags, c.same f.iface f.srcIp.toNat f.dstIp.toNat (f.proto.toNat * 65536 + f.ident.toNat) = false) :
    fragIn f s = { s with net := { s.net with frags := s.net.frags ++ [openedBy f s] } } := by
  unfold fragIn
  extract_lets i src dst ident now live rest here room old c0 c1 n s1 held
  have hlive : live = s.net.frags := List.filter_eq_self.mpr fun c hc => by simp [i, src, dst, ident, hnew c hc]
  have hrest : rest = s.net.frags := by
    refine Eq.trans (List.filter_eq_self.mpr fun c hc => ?_) hlive
    rw [hlive] at hc
    simp [i, src, dst, ident, hnew c hc]
  have hold : old = none := List.find?_eq_none.mpr fun c hc => by
    rw [hlive] at hc
    simp [i, src, dst, ident, hnew c hc]
  have hnoroom : ¬ 8 ≤ here.length := by
    simpa only [here, hrest, Nat.not_le] using hroom
  have hheld : room = s.net.frags := by
    refine Eq.trans ?_ hrest
    unfold room
    clear_value here
    cases here with
    | nil => rfl
    | cons c l => exact if_neg hnoroom
  have hc1 : c1 = openedBy f s := by simp [c1, c0, hold, hmore, openedBy, i, src, dst, ident, now]
  have hpart : c1.whole = none := by rw [hc1]; rfl
  rw [if_neg (Nat.not_lt.mpr hlen), hpart]
  simp [held, hold, hheld, hc1]

theorem ipFragment_occurs {f : IpFrag} {s : State} (h : Safety.occurs (.ipFragment f) s = true) :
    ipFragment f s = { s with net := { s.net with frags := s.net.frags ++ [openedBy f s] } } := by
  simp only [occurs_ipFragment, Bool.and_eq_true, Bool.not_eq_true', decide_eq_true_eq, List.all_eq_true] at h
  obtain ⟨⟨⟨⟨⟨⟨htag, hon⟩, hdst⟩, hmore⟩, hlen⟩, hroom⟩, hnew⟩ := h
  refine (if_neg ?_).trans (fragIn_first hmore hlen hroom hnew)
  simpa [htag, hon] using hdst

theorem arpRequest_occurs {n : Nat} {target sender : BitVec 32} {mac : BitVec 48} {s : State}
    (h : Safety.occurs (.arpRequest n target sender mac) s = true) :
    arpRequest n target.toNat sender.toNat mac.toNat s
      = emit [Frame.arp n (s.ipOf n) (s.macOf n) sender.toNat mac.toNat] s :=
  if_pos (occurs_arpRequest n target sender mac s ▸ h)

/-- An echo request is answered whatever its ICMP checksum reads (R44; log 46). -/
theorem icmpEcho_occurs {n : Nat} {src dst : BitVec 32} {data : Bytes} {s : State}
    (h : Safety.occurs (.icmpEcho n src dst data) s = true) :
    icmpEcho n src.toNat dst.toNat data s =
      (let body (ck : Nat) : Bytes := zeros 2 ++ be 2 ck ++ data
       emit (ipFrames s n 1 src.toNat (body (65535 - fold16 (onesSum (body 0))))) { s with net := { s.net with
         icmp := s.net.icmp.filter (fun e => decide (s.aon.nowUs < e.2 + 1000000)) ++ [(n, s.aon.nowUs)] } }) := by
  simp only [occurs_icmpEcho, Bool.and_eq_true, beq_iff_eq, decide_eq_true_eq] at h
  obtain ⟨⟨hon, hdst⟩, hfew⟩ := h
  refine if_neg ?_
  simpa [hon, hdst] using hfew

end Sys2Proof.Machine
end

section
/-! SUPPORT. A port's link comes up or goes down (R38, R40). -/
namespace Sys2Proof.Machine

section
variable {p : Nat} {s : State} (hc : s.pwr.phase ≠ .cold) (he : s.portEn p = true)
include hc he

theorem linkChange_up (hu : (s.port p).up = false) :
    linkChange p true s = linkRecord p true (s.setPort p { s.port p with up := true }) := by
  simp [linkChange, hc, he, hu]

theorem linkChange_down (hu : (s.port p).up = true) :
    linkChange p false s =
      (let s1 := dropQueued p (s.setPort p { s.port p with up := false })
       linkRecord p false { s1 with net := { s1.net with frags := s1.net.frags.filter (fun c => c.iface != p) } }) := by
  simp [linkChange, hc, he, hu]
end

/-- The link of a T1L port that changes: the port is enabled, and the other state stood. -/
theorem t1lLink_occurs {p : Nat} {up : Bool} {s : State} (h : Safety.occurs (.t1lLinkChange p up) s = true) :
    t1lLink p up s = linkChange p up s ∧ s.pwr.phase ≠ .cold ∧ s.portEn p = true ∧ (s.port p).up = !up := by
  simp only [occurs_t1lLinkChange, Bool.and_eq_true, decide_eq_true_eq, bne_iff_ne] at h
  obtain ⟨⟨⟨hp, hc⟩, he⟩, hu⟩ := h
  exact ⟨if_pos hp, hc, he, Bool.eq_not.mpr hu⟩

/-- A poll that reads another link bit than stands; the bit reads clear where no PHY answers (R43; log 49). -/
theorem rmiiPoll_occurs {l : List (Nat × Bool)} {s : State} (h : Safety.occurs (.rmiiLinkPoll l) s = true) :
    rmiiPoll l s = linkChange 2 (decide ((s.phyAddr, true) ∈ l)) s ∧ s.pwr.phase ≠ .cold ∧ s.portEn 2 = true
      ∧ (s.port 2).up = !decide ((s.phyAddr, true) ∈ l) := by
  have hbit : l.any (fun e => e.1 == s.phyAddr && e.2) = decide ((s.phyAddr, true) ∈ l) :=
    Bool.eq_iff_iff.mpr (by simp)
  simp only [occurs_rmiiLinkPoll, hbit, Bool.and_eq_true, bne_iff_ne] at h
  obtain ⟨hon, hu⟩ := h
  have hport := hon
  simp only [State.portOn, Bool.and_eq_true] at hport
  obtain ⟨⟨⟨hup, -⟩, he⟩, -⟩ := hport
  exact ⟨(if_pos hon).trans (by rw [hbit]), not_cold_of_up hup, he, Bool.eq_not.mpr hu⟩

end Sys2Proof.Machine
end

section
/-! The obligations on the rows of Ethernet and of the links. -/
namespace Sys2Proof.Machine

/-- Settles O21: each row under the condition that brings it about. -/
theorem ethernetRowsComplete : Obligations.EthernetRowsComplete :=
  ⟨fun _ _ h => congrArg Host.Outcome.next (udpDatagram_occurs h),
   fun _ _ h => congrArg Host.Outcome.next (ipFragment_occurs h),
   fun _ _ _ _ _ => rfl,
   fun _ _ _ _ _ h => congrArg Host.Outcome.next (arpRequest_occurs h),
   fun _ _ _ _ _ h => congrArg Host.Outcome.next (icmpEcho_occurs h)⟩

/-- Settles O22: both ports go through the one change of a link. -/
theorem linkRowsComplete : Obligations.LinkRowsComplete := by
  refine ⟨fun p s h => ?_, fun p s h => ?_, fun l s h hl => ?_, fun l s h hl => ?_, fun _ _ _ => rfl, fun _ _ => rfl⟩
  · obtain ⟨heq, hc, he, hu⟩ := t1lLink_occurs h
    exact congrArg Host.Outcome.next (heq.trans (linkChange_up hc he hu))
  · obtain ⟨heq, hc, he, hu⟩ := t1lLink_occurs h
    exact congrArg Host.Outcome.next (heq.trans (linkChange_down hc he hu))
  · obtain ⟨heq, hc, he, hu⟩ := rmiiPoll_occurs h
    rw [decide_eq_true hl] at heq hu
    exact congrArg Host.Outcome.next (heq.trans (linkChange_up hc he hu))
  · obtain ⟨heq, hc, he, hu⟩ := rmiiPoll_occurs h
    rw [decide_eq_false hl] at heq hu
    exact congrArg Host.Outcome.next (heq.trans (linkChange_down hc he hu))

end Sys2Proof.Machine
end

section
/-! SUPPORT. When the rows of CAN FD and of RS-485 come about: the condition that `Safety.occurs` gives each. -/
namespace Sys2Proof.Machine

theorem occurs_canSegment (f : CanFrame) (s : State) : Safety.occurs (.canSegment f) s = Safety.canFirst f s := rfl

theorem occurs_canSegmentTimeout {p n : Nat} {s : State} (h : Safety.occurs (.canSegmentTimeout p n) s = true) :
    ∃ c, s.canCtx p n = some c ∧ s.due (c.at_ + 50000) = true := by
  change (match s.canCtx p n with | some c => s.due (c.at_ + 50000) | none => false) = true at h
  split at h
  next c hc => exact ⟨c, hc, h⟩
  next => contradiction

theorem occurs_canBusOff (p : Nat) (s : State) : Safety.occurs (.canBusOff p) s
    = ((p == 3 || p == 4) && s.portOn p && !s.net.busOff.contains p) := rfl

theorem occurs_canBusOffRecovery (p : Nat) (s : State) : Safety.occurs (.canBusOffRecovery p) s
    = s.net.busOff.contains p := rfl

theorem occurs_rs485Frame (p : Nat) (f : Bytes) (s : State) : Safety.occurs (.rs485Frame p f) s = Safety.rsPoll p f s := rfl

theorem occurs_rs485GapTimeout (p : Nat) (s : State) : Safety.occurs (.rs485GapTimeout p) s
    = ((p == 5 || p == 6) && s.portOn p) := rfl

theorem occurs_rs485ReplyWindow (p : Nat) (s : State) : Safety.occurs (.rs485ReplyWindow p) s
    = ((p == 5 || p == 6) && s.portOn p && (s.port p).window && (s.port p).outQ.isEmpty) := rfl

end Sys2Proof.Machine
end

section
/-! SUPPORT. The rows of CAN FD, past the conditions under which they come about (R47 to R50). -/
namespace Sys2Proof.Machine

/-- The reassembly that the first of several segments opens (R48, R49). -/
def canOpened (f : CanFrame) (s : State) : CanCtx :=
  { port := f.port, node := f.ident.toNat / 65536 % 128, seq := 1, plen := fld f.data 1 2,
    got := f.data.drop 3, at_ := s.aon.nowUs }

theorem canDrop_canDrop (p n : Nat) (s : State) : canDrop p n (canDrop p n s) = canDrop p n s := by
  simp [canDrop]

/-- The bytes of a first segment that is not the last open the reassembly: a packet has room for them. -/
theorem canTake_first {c : CanCtx} {data : Bytes} {s : State} (hgot : c.got = []) (hseq : c.seq = 0)
    (hroom : data.length - 3 ≤ c.plen) :
    canTake c false 3 data (canDrop c.port c.node s) = { canDrop c.port c.node s with net := { (canDrop c.port c.node s).net with
      can := (canDrop c.port c.node s).net.can ++ [{ c with seq := 1, got := data.drop 3, at_ := s.aon.nowUs }] } } := by
  unfold canTake
  rw [canDrop_canDrop]
  simp [hgot, hseq, Nat.not_lt.mpr hroom]
  rfl

theorem canSegment_occurs {f : CanFrame} {s : State} (h : Safety.occurs (.canSegment f) s = true) :
    canSegment f s = { s with net := { s.net with
      can := s.net.can.filter (fun c => !(c.port == f.port && c.node == f.ident.toNat / 65536 % 128)) ++ [canOpened f s] } } := by
  simp only [occurs_canSegment, Safety.canFirst, Bool.and_eq_true, Bool.not_eq_true', beq_iff_eq, decide_eq_true_eq] at h
  obtain ⟨⟨⟨⟨⟨⟨⟨⟨hmine, hfirst⟩, hlast⟩, hseq⟩, hlo⟩, hhi⟩, hlen⟩, hfits⟩, hheld⟩ := h
  have hdata : f.data ≠ [] := by
    intro hd
    simp [hd] at hlen
  unfold canSegment
  refine (if_neg (by simp [hmine, hdata])).trans ((if_pos hfirst).trans ((if_neg ?_).trans ?_))
  · simp [hseq, hlast, Nat.not_lt.mpr hlo, Nat.not_lt.mpr hhi, Nat.not_lt.mpr hlen, Nat.not_le.mpr hheld]
  · rw [hlast]
    exact canTake_first rfl rfl hfits

theorem canTimeout_occurs {p n : Nat} {s : State} (h : Safety.occurs (.canSegmentTimeout p n) s = true) :
    canTimeout p n s = canDrop p n s := by
  obtain ⟨c, hc, hdue⟩ := occurs_canSegmentTimeout h
  simp [canTimeout, hc, hdue]

/-- The LINK record comes before CAN_BUS_OFF (R40, R50; log 27). -/
theorem canBusOff_occurs {p : Nat} {s : State} (h : Safety.occurs (.canBusOff p) s = true) :
    canBusOff p s = ttOccur 0 0x0183 0 [BitVec.ofNat 8 p] (linkRecord p false (dropQueued p { s with net := { s.net with
      busOff := s.net.busOff ++ [p], can := s.net.can.filter (fun c => c.port != p) } })) := by
  refine if_neg ?_
  simp only [occurs_canBusOff, Bool.and_eq_true, Bool.not_eq_true'] at h
  obtain ⟨⟨hp, hon⟩, hb⟩ := h
  simpa [hp, hon] using hb


theorem canRecover_occurs {p : Nat} {s : State} (h : Safety.occurs (.canBusOffRecovery p) s = true) :
    canRecover p s = linkRecord p true { s with net := { s.net with
      busOff := s.net.busOff.filter (fun q => q != p) } } :=
  if_neg (by simpa [occurs_canBusOffRecovery] using h)

end Sys2Proof.Machine
end

section
/-! SUPPORT. The rows of RS-485, past the conditions under which they come about (R51 to R53). -/
namespace Sys2Proof.Machine

/-- A POLL for the module opens the reply window (R51, R53). -/
theorem rs485Frame_occurs {p : Nat} {f : Bytes} {s : State} (h : Safety.occurs (.rs485Frame p f) s = true) :
    rs485Frame p f s = s.setPort p { s.port p with window := true, empty := false } := by
  simp only [occurs_rs485Frame, Safety.rsPoll, Bool.and_eq_true, beq_iff_eq] at h
  obtain ⟨⟨⟨⟨⟨⟨⟨hp, hon⟩, hsync⟩, hsize⟩, hkind⟩, hlen⟩, hcrc⟩, hmine⟩ := h
  unfold rs485Frame
  simp [hp, hon, hsync, hsize, hkind, hlen, hcrc, hmine, rsKindOk]

theorem rs485Gap_occurs {p : Nat} {s : State} (h : Safety.occurs (.rs485GapTimeout p) s = true) :
    rs485Gap p s = rsError p s :=
  if_pos (occurs_rs485GapTimeout p s ▸ h)

section
variable {p : Nat} {s : State} (hp : (p == 5 || p == 6) = true) (hon : s.portOn p = true) (hw : (s.port p).window = true)
include hp hon hw

/-- With nothing queued the window is answered with EMPTY (R53). -/
theorem rs485Window_empty (hq : (s.port p).outQ = []) :
    rs485Window p s = emit [Frame.rs485 p (rsFrame (s.rsAddr p) 0x83 [])]
      (s.setPort p { s.port p with window := false, empty := false }) := by
  simp [rs485Window, hp, hon, hw, hq]

/-- The oldest queued packet goes out as DATA, unless the window is owed EMPTY (R53). -/
theorem rs485Window_data {o : OutPkt} {q : List OutPkt} (hq : (s.port p).outQ = o :: q) (he : (s.port p).empty = false)
    (hr : s.start.resetReq = none) :
    rs485Window p s = emit [Frame.rs485 p (rsFrame (s.rsAddr p) 0x81 (sealed o s))]
      (s.setPort p { s.port p with window := false, empty := false, outQ := q }) := by
  have hwin : rs485Window p s = resetIfDue (emit [Frame.rs485 p (rsFrame (s.rsAddr p) 0x81 (sealed o s))]
      (s.setPort p { s.port p with window := false, empty := false, outQ := q })) := by
    simp [rs485Window, hp, hon, hw, hq, he]
  rw [hwin, resetIfDue_unasked (by simpa using hr)]
end

theorem rs485Window_occurs {p : Nat} {s : State} (h : Safety.occurs (.rs485ReplyWindow p) s = true) :
    rs485Window p s = emit [Frame.rs485 p (rsFrame (s.rsAddr p) 0x83 [])]
      (s.setPort p { s.port p with window := false, empty := false }) := by
  simp only [occurs_rs485ReplyWindow, Bool.and_eq_true, List.isEmpty_iff] at h
  obtain ⟨⟨⟨hp, hon⟩, hw⟩, hq⟩ := h
  exact rs485Window_empty hp hon hw hq

end Sys2Proof.Machine
end

section
/-! The obligations on the rows of CAN FD and of RS-485. -/
namespace Sys2Proof.Machine

/-- Settles O23: each row under the condition that brings it about. -/
theorem canRowsComplete : Obligations.CanRowsComplete :=
  ⟨fun _ _ h => congrArg Host.Outcome.next (canSegment_occurs h),
   fun _ _ _ h => congrArg Host.Outcome.next (canTimeout_occurs h),
   fun _ _ h => congrArg Host.Outcome.next (canBusOff_occurs h),
   fun _ _ h => congrArg Host.Outcome.next (canRecover_occurs h)⟩

/-- Settles O24: a POLL, a gap, and the two answers of the reply window. -/
theorem rs485RowsComplete : Obligations.Rs485RowsComplete := by
  refine ⟨fun _ _ _ h => congrArg Host.Outcome.next (rs485Frame_occurs h),
    fun _ _ h => congrArg Host.Outcome.next (rs485Gap_occurs h),
    fun _ _ h => congrArg Host.Outcome.next (rs485Window_occurs h), fun p o q s hp hon hr hw he hq => ?_⟩
  have hp' : (p == 5 || p == 6) = true := by simpa using hp
  exact congrArg Host.Outcome.next (rs485Window_data hp' hon hw hq he hr)

end Sys2Proof.Machine
end

section
/-! SUPPORT. An opcode row that is served ends with what its entry of the opcode table gives (R69, R76, R111). -/
namespace Sys2Proof.Machine

theorem runCmd_of_table {c : Cmd} {s : State} {run : Cmd → State → State × Res}
    (h : (opSpec c.op).map OpSpec.run = some run) : runCmd c s = run c s := by
  obtain ⟨o, ho, hrun⟩ := Option.map_eq_some_iff.mp h
  simp only [runCmd, ho, hrun]

/-- A command that is served and not deferred ends at once, with the state and the result that its opcode leaves. -/
theorem hostRow_finish {op : Nat} {p : Packet} {s t : State} {r : Res} (run : Cmd → State → State × Res)
    (h : Safety.servable op p s = true) (hop : (opSpec op).map OpSpec.run = some run)
    (hrun : run (Safety.cmdOf op p s) (Safety.before op p s) = (t, r)) (hr : r.deferred = false := by rfl)
    (hello : op ≠ 0x0101 := by decide) (auth : op ≠ 0x0102 := by decide) :
    hostRow op p s = finish (Safety.cmdOf op p s) r t := by
  have hcmd : runCmd (Safety.cmdOf op p s) (Safety.before op p s) = (t, r) := (runCmd_of_table hop).trans hrun
  rw [served_row op p s h hello auth]
  simp only [Safety.served, hcmd, hr, Bool.false_eq_true, if_false]

end Sys2Proof.Machine
end

section
/-! SUPPORT. RESULT_OF by what the journal and the duplicate window hold (R82). -/
namespace Sys2Proof.Machine

section
variable {c : Cmd} {s : State}

theorem runResultOf_none
    (h : s.resultOf (if fld c.payload 0 8 = 0 then c.sess else fld c.payload 0 8) (fld c.payload 8 8) = none) :
    runResultOf c s = (s, Res.ok (zeros 16)) := by
  simp only [runResultOf, h]

theorem runResultOf_done {e : JEntry} {os : List Nat}
    (h : s.resultOf (if fld c.payload 0 8 = 0 then c.sess else fld c.payload 0 8) (fld c.payload 8 8) = some (e, os))
    (hdone : e.state = 2) :
    runResultOf c s = (s, Res.ok ((1#8 :: zeros 15) ++ replyBlock e.status os.length 0 0 e.jseq ++ outcomeVec os)) := by
  simp only [runResultOf, h, hdone, List.append_assoc]

end

end Sys2Proof.Machine
end

section
/-! The obligation on the reads of the journal. -/
namespace Sys2Proof.Machine

/-- Settles O49: each opcode is served, and its entry of the table says what it leaves and replies. -/
theorem journalOpcodesResult : Obligations.JournalOpcodesResult :=
  ⟨fun _ _ h => congrArg Host.Outcome.next (hostRow_finish runJournalHead h rfl rfl),
   fun _ _ h => congrArg Host.Outcome.next (hostRow_finish runJournalRead h rfl rfl),
   fun _ _ h hnone => congrArg Host.Outcome.next (hostRow_finish runResultOf h rfl (runResultOf_none hnone)),
   fun _ _ _ _ h hsome hdone => congrArg Host.Outcome.next (hostRow_finish runResultOf h rfl (runResultOf_done hsome hdone)),
   fun _ _ h => congrArg Host.Outcome.next (hostRow_finish runStateDigest h rfl rfl),
   fun _ _ h => congrArg Host.Outcome.next (hostRow_finish runObjectVersions h rfl rfl)⟩

end Sys2Proof.Machine
end

section
/-! SUPPORT. The Maintainer's opcodes over sessions, past the conditions under which each takes effect (R99, R105 to R107). -/
namespace Sys2Proof.Machine

section
variable {c : Cmd} {s : State}

theorem runQuotaSet_default (h : fld c.payload 0 1 = 0xFF)
    (hpools : poolsHold s (s.host.defQuota.patch c.payload) (fun i => (s.ses i).quota) = true) :
    runQuotaSet c s = ({ s with host := { s.host with defQuota := s.host.defQuota.patch c.payload } }, Res.ok []) := by
  simp only [runQuotaSet, h, hpools, if_true]

theorem runRoleSet_lower {k : Nat} (h : fld c.payload 0 1 = 1) (hk : s.slotOf (fld c.payload 8 8) = some k)
    (hlow : fld c.payload 1 1 < (s.ses k).role) :
    runRoleSet c s = (lowerRole k (fld c.payload 1 1) c.jseq s, Res.ok []) := by
  simp only [runRoleSet, h, hk, hlow, if_true]

theorem runRoleSet_evict {k : Nat} (h : fld c.payload 0 1 = 2) (hk : s.slotOf (fld c.payload 8 8) = some k) :
    runRoleSet c s = (markEnd k { reason := 2, orphan := fld c.payload 2 1 == 1, jseq := c.jseq } s, Res.ok []) := by
  simp only [runRoleSet, h, hk]

theorem runRoleSet_release (h : fld c.payload 0 1 = 3) (hk : s.knownSession (fld c.payload 8 8) = true) :
    runRoleSet c s = (forAll (s.ownedBy (fld c.payload 8 8)) (releaseObj c.jseq) s, Res.ok []) := by
  simp only [runRoleSet, h, hk, if_true]

end

end Sys2Proof.Machine
end

section
/-! The obligation on the opcodes of the Steerage family that set quotas, roles and keys. -/
namespace Sys2Proof.Machine

/-- Settles O59: each opcode is served, and takes effect under the condition that its clause names. -/
theorem steerageOpcodesResult : Obligations.SteerageOpcodesResult :=
  ⟨fun _ _ h hdflt hpools => congrArg Host.Outcome.next (hostRow_finish runQuotaSet h rfl (runQuotaSet_default hdflt hpools)),
   fun _ _ _ h ha hk hlow => congrArg Host.Outcome.next (hostRow_finish runRoleSet h rfl (runRoleSet_lower ha hk hlow)),
   fun _ _ _ h ha hk => congrArg Host.Outcome.next (hostRow_finish runRoleSet h rfl (runRoleSet_evict ha hk)),
   fun _ _ h ha hk => congrArg Host.Outcome.next (hostRow_finish runRoleSet h rfl (runRoleSet_release ha hk)),
   fun _ _ h => congrArg Host.Outcome.next (hostRow_finish runKeySet h rfl rfl)⟩

end Sys2Proof.Machine
end

section
/-! SUPPORT. The module as it leaves manufacture, held in cold reset: its ports, its mailbox, its outputs and its keys (log 5). -/
namespace Sys2Proof.Machine

/-- No host port works in a cold reset (R36). -/
theorem portOn_cold {s : State} (h : s.pwr.phase = .cold) (p : Nat) : s.portOn p = false := by
  simp [State.portOn, State.up, h]

theorem spiRead_off {s : State} (h : s.portOn 7 = false) (a : Nat) : spiRead s a = none := by
  simp [spiRead, h]

theorem allOff_reset : Safety.allOff State.reset :=
  ⟨fun _ => rfl, fun _ => rfl, fun _ => rfl, fun _ => rfl, fun _ => rfl⟩

theorem Tbl.isSome_rd_single {α : Type} (k j : Nat) (v : α) : (Tbl.rd none [(k, some v)] j).isSome = true ↔ j = k := by
  simp only [Tbl.rd, Option.isSome_ite, eq_comm (a := k)]

/-- Only the role Maintainer has a key (R88). -/
theorem isSome_key_reset (role : Nat) : (Tbl.rd none State.reset.auth.keys role).isSome = true ↔ role = 4 :=
  Tbl.isSome_rd_single 4 role _

/-- The registers after MB_ID: IN_FREE alone is set (R54, R390). -/
theorem spiByte_reset_regs : ∀ a < 28, 4 ≤ a → spiByte State.reset a = if a = 4 then 1#8 else 0#8 := by decide

end Sys2Proof.Machine
end

section
/-! SUPPORT. An item on an object that another session owns fails at the gate of R97. -/
namespace Sys2Proof.Machine

theorem itemGate_notOwner {c : Cmd} {k : Nat} {ready : Bool} {s : State} (hr : ready = true)
    (h : s.mayOperate k c.sess = false) : itemGate c k ready s = 0x0201 := by
  simp [itemGate, hr, h]

/-- An item that its gate refuses with NOT_OWNER leaves the state alone, whatever it does past the gate. -/
theorem gated_notOwner {g : Nat} {s : State} {past : State × Nat} (h : g = 0x0201) :
    (if g ≠ 0 then (s, g) else past) = (s, 0x0201) := by
  subst h
  rfl

end Sys2Proof.Machine
end

section
/-! The obligations on the state at reset and on ownership. -/
namespace Sys2Proof.Machine

/-- Settles O2: in cold reset no port works, so SPI_SDO is high impedance. -/
theorem resetLeaves : Obligations.ResetLeaves :=
  ⟨rfl, allOff_reset, rfl, rfl, isSome_key_reset, rfl, fun a hlo hhi => spiByte_reset_regs a hhi hlo,
   spiRead_off (portOn_cold rfl 7)⟩

/-- Settles O18: the five items share one gate, and a write asks its die's readiness before it (R97, R382). -/
theorem notOwnerChangesNothing : Obligations.NotOwnerChangesNothing :=
  fun _ _ _ h =>
    ⟨gated_notOwner (itemGate_notOwner rfl h), gated_notOwner (itemGate_notOwner rfl h),
     gated_notOwner (itemGate_notOwner rfl h), gated_notOwner (itemGate_notOwner rfl h),
     fun hr => gated_notOwner (itemGate_notOwner hr h)⟩

end Sys2Proof.Machine
end

section
/-! SUPPORT. What admission lets through, the state in which a served command finds the deferred ones, and the served command
whose work goes on (R68, R69, R101). -/
namespace Sys2Proof.Machine

/-- A command that is admitted has passed step 4: PLEN fits its opcode. -/
theorem plenOk_of_admission {k op tag : Nat} {r : Bool} {p : Bytes} {s : State} {o : OpSpec} (hop : opSpec op = some o)
    (h : admission k op tag r p s = 0) : plenOk op o p = true := by
  cases hlen : plenOk op o p with
  | true => rfl
  | false =>
    simp only [admission, hop, hlen, Bool.not_false, if_true] at h
    (repeat' split at h) <;> cases h

theorem plenOk_of_servable {op : Nat} {p : Packet} {s : State} {o : OpSpec} (hop : opSpec op = some o)
    (h : Safety.servable op p s = true) : plenOk op o p.payload = true := by
  simp only [Safety.servable, Bool.and_eq_true, beq_iff_eq] at h
  exact plenOk_of_admission hop h.2

/-- A served command whose opcode takes no payload carries none. -/
theorem payload_nil_of_servable {op role : Nat} {p : Packet} {s : State} {ok : Check} {run : Cmd → State → State × Res}
    (hop : opSpec op = one role 0 ok run) (hfw : op ≠ 0x0C08) (h : Safety.servable op p s = true) : p.payload = [] := by
  have hplen := plenOk_of_servable hop h
  simpa [plenOk, hfw] using hplen

@[simp] theorem txnHeard_host (sess : Nat) (s : State) : (txnHeard sess s).host = s.host := by
  unfold txnHeard
  (repeat' split) <;> rfl

theorem enqueue_running (c : Cmd) (s : State) : (enqueue c s).host.running = s.host.running := by
  simp [enqueue]

theorem before_running (op : Nat) (p : Packet) (s : State) : (Safety.before op p s).host.running = s.host.running := by
  have h := (enqueue_running (Safety.cmdOf op p s) (heard p.session.toNat p.port p.addr s)).trans (heard_queue _ _ _ s).2
  unfold Safety.before
  dsimp only
  split
  · rwa [txnHeard_host]
  · exact h

/-- A served command finds no deferred command at work. -/
theorem before_working_of_servable {op : Nat} {p : Packet} {s : State} (h : Safety.servable op p s = true) (n : Nat) :
    (Safety.before op p s).working n = false := by
  simp only [Safety.servable, Safety.arrives, Bool.and_eq_true, List.isEmpty_iff] at h
  obtain ⟨⟨⟨⟨_, hrunning⟩, _⟩, _⟩, _⟩ := h
  simp [State.working, before_running, hrunning]

/-- A command that is served and deferred joins the commands at work, and no reply goes out yet (R101). -/
theorem hostRow_deferred {op : Nat} {p : Packet} {s t : State} {r : Res} (run : Cmd → State → State × Res)
    (h : Safety.servable op p s = true) (hop : (opSpec op).map OpSpec.run = some run)
    (hrun : run (Safety.cmdOf op p s) (Safety.before op p s) = (t, r)) (hr : r.deferred = true := by rfl)
    (hello : op ≠ 0x0101 := by decide) (auth : op ≠ 0x0102 := by decide) :
    hostRow op p s = { t with host := { t.host with running := t.host.running ++ [Safety.cmdOf op p s] } } := by
  have hcmd : runCmd (Safety.cmdOf op p s) (Safety.before op p s) = (t, r) := (runCmd_of_table hop).trans hrun
  rw [served_row op p s h hello auth]
  simp only [Safety.served, hcmd, hr, if_true]

end Sys2Proof.Machine
end

section
/-! SUPPORT. The banks of the rig, and the close of its transaction (R131). -/
namespace Sys2Proof.Machine

@[simp] theorem State.setRigBank_rigBank (s : State) (b : Nat) (v : Bank) : (s.setRigBank b v).rigBank b = v := by
  unfold State.setRigBank State.rigBank
  split <;> rfl

section
variable {s : State} {t : Txn} (h : s.rig.txn = some t)
include h

theorem closeTxn_open : closeTxn s =
    (let s1 : State := { s with rig := { s.rig with txn := none } }
     if t.mode = 1 then s1.setRigBank t.bank Bank.empty else s1) := by
  simp only [closeTxn, h]

theorem closeTxn_txn : (closeTxn s).rig.txn = none := by
  rw [closeTxn_open h]
  dsimp only
  split
  · rw [State.setRigBank_rig_txn]
  · rfl

theorem closeTxn_upload (hm : t.mode = 1) : (closeTxn s).rigBank t.bank = Bank.empty := by
  rw [closeTxn_open h]
  simp only [hm, if_true, State.setRigBank_rigBank]

theorem closeTxn_not_upload (hm : t.mode ≠ 1) : closeTxn s = { s with rig := { s.rig with txn := none } } := by
  rw [closeTxn_open h]
  simp only [hm, if_false]

end

end Sys2Proof.Machine
end

section
/-! SUPPORT. The opcodes of the rig, each by the state of the transaction and of the banks that it meets (R128 to R132, R139,
R140). -/
namespace Sys2Proof.Machine

section
variable {c : Cmd} {s : State}

/-! ## RIG_BEGIN (R128) -/

/-- The transaction that RIG_BEGIN opens. -/
def beginTxn (c : Cmd) (s : State) : Txn :=
  { slot := c.slot, sess := c.sess, mode := fld c.payload 0 1, bank := fld c.payload 1 1, length := fld c.payload 4 4,
    staged := [], commitSet := [], at_ := s.aon.nowUs, waiting := false, commit := 0, doneAt := 0, scan := false, image := [] }

theorem runRigBegin_opens (hnone : s.rig.txn = none) (hbase : fld c.payload 0 1 = 1 → s.rig.base ≠ fld c.payload 1 1)
    (hvalid : fld c.payload 0 1 = 2 → (s.rigBank (fld c.payload 1 1)).st = 2) :
    runRigBegin c s = (let s1 : State := { s with rig := { s.rig with txn := some (beginTxn c s) } }
      if fld c.payload 0 1 = 1 then s1.setRigBank (fld c.payload 1 1) { Bank.empty with st := 1 } else s1, Res.ok []) := by
  have hupload : ¬(fld c.payload 0 1 = 1 ∧ s.rig.base = fld c.payload 1 1) := fun h => hbase h.1 h.2
  have hload : ¬(fld c.payload 0 1 = 2 ∧ (s.rigBank (fld c.payload 1 1)).st ≠ 2) := fun h => h.2 (hvalid h.1)
  simp only [runRigBegin, hnone, Option.isSome_none, Bool.false_or, Bool.or_eq_true, Bool.and_eq_true, decide_eq_true_eq,
    hupload, hload, or_self, if_false]
  rfl

/-! ## RIG_PUT (R129, R130) -/

theorem runItems_one (f : Nat → State → State × Nat) (s : State) : runItems 1 f s = ((f 0 s).1, [(f 0 s).2]) := rfl

/-- The field that the first item of a RIG_PUT stages. -/
def firstField (c : Cmd) : Staged :=
  let it := cut c.payload 4 32
  { key := itemKey it 0, off := fld it 6 2, bytes := cut it 16 (fld it 5 1), item := 0 }

section
variable {t : Txn} (ht : s.rig.txn = some t) (hs : t.sess = c.sess) (hw : t.waiting = false)
include ht hs hw

theorem putItem_fields (hm : t.mode = 0) (hdt : fld (cut c.payload 4 32) 4 1 ≠ 0) (hroom : t.staged.length < 4096) :
    putItem c 0 s = (touchObj (firstField c).key c.jseq
      { s with rig := { s.rig with txn := some { t with staged := stage (firstField c) t.staged } } }, 0) := by
  simp [putItem, ht, hs, hw, hm, hdt, Nat.not_le.mpr hroom, firstField]

theorem runRigPut_one_field (hm : t.mode = 0) (hdt : fld (cut c.payload 4 32) 4 1 ≠ 0) (hroom : t.staged.length < 4096)
    (hcount : fld c.payload 0 2 = 1) :
    runRigPut c s = (touchObj (firstField c).key c.jseq
      { s with rig := { s.rig with txn := some { t with staged := stage (firstField c) t.staged } } }, Res.multi [0] []) := by
  simp only [runRigPut, hcount, runItems_one, putItem_fields ht hs hw hm hdt hroom]

/-! ## RIG_COMMIT (R132) -/

theorem runRigCommit_begins (hidle : s.working 0x0303 = false) :
    runRigCommit c s = ({ s with rig := { s.rig with txn := some { t with commitSet := t.staged } } }, Res.later) := by
  simp [runRigCommit, ht, hs, hw, hidle]

end

/-! ## RIG_ABORT (R131) -/

theorem runRigAbort_none (h : s.rig.txn = none) : runRigAbort c s = (s, Res.conflict) := by
  simp only [runRigAbort, h]

theorem runRigAbort_barred {t : Txn} (ht : s.rig.txn = some t) (h : t.waiting = true ∨ (t.sess ≠ c.sess ∧ c.role < 4)) :
    runRigAbort c s = (s, Res.conflict) := by
  simp [runRigAbort, ht, h]

theorem runRigAbort_closes {t : Txn} (ht : s.rig.txn = some t) (hw : t.waiting = false) (h : t.sess = c.sess ∨ 4 ≤ c.role) :
    runRigAbort c s = (closeTxn s, Res.ok []) := by
  have hmay : ¬(t.sess ≠ c.sess ∧ c.role < 4) := by omega
  simp only [runRigAbort, ht, hw, Bool.false_or, Bool.and_eq_true, decide_eq_true_eq, hmay, if_false]

/-! ## RIG_GET (R144) -/

theorem runRigGet_status (h : fld c.payload 0 1 = 0) : runRigGet c s = (s, Res.ok (rigStatus s)) := by
  simp only [runRigGet, h]

theorem runRigGet_live (h : fld c.payload 0 1 = 1) :
    runRigGet c s = (s, Res.ok (cut (s.d (keyType (itemKey c.payload 4)) (keyIdx (itemKey c.payload 4)))
      (fld c.payload 16 2) (fld c.payload 2 2))) := by
  simp only [runRigGet, h, State.d]

/-! ## RIG_SAVE and RIG_BANK_SELECT (R139, R140) -/

theorem runRigSave_begins (h : s.rig.txn = none) :
    runRigSave c s =
      (let u := (saveImage c s).2.setRigBank s.idleBank { st := 3, mem := memOf 0 (saveImage c s).1, bad := false }
       { u with rig := { u.rig with imaged := s.rig.delta } }, Res.later) := by
  simp only [runRigSave, h, Option.isSome_none, Bool.false_eq_true, if_false]

theorem runBankSelect_valid (h : (s.rigBank (fld c.payload 0 1)).st = 2) :
    runBankSelect c s = ({ s with rig := { s.rig with next := fld c.payload 0 1 } }, Res.ok []) := by
  simp only [runBankSelect, h, ne_eq, not_true_eq_false, if_false]

end

end Sys2Proof.Machine
end

section
/-! The obligations on the opcodes of the rig. -/
namespace Sys2Proof.Machine

/-- Settles O20, by the state of the transaction that the abort meets. -/
theorem abortClosesTransaction : Obligations.AbortClosesTransaction := by
  refine ⟨fun p s h => payload_nil_of_servable rfl (by decide) h, fun c s t ht hw hmay => ?_, fun c s h => runRigAbort_none h,
    fun c s t ht h => runRigAbort_barred ht h⟩
  rw [runRigAbort_closes ht hw hmay]
  exact ⟨rfl, closeTxn_txn ht, closeTxn_upload ht, closeTxn_not_upload ht⟩

/-- Settles O50: each opcode is served, and RIG_COMMIT and RIG_SAVE go on at work while the others end at once. -/
theorem rigOpcodesResult : Obligations.RigOpcodesResult := by
  refine ⟨fun p s h => ?_, fun p s t h => ?_, fun p s t h => ?_, fun p s t h => ?_, fun p s h => ⟨?_, ?_⟩, fun p s h => ?_,
    fun p s h => ?_⟩
  · intro c b mode bank t b1 hnone hmode
    have hbase : mode = 1 → b.rig.base ≠ bank := by omega
    have hvalid : mode = 2 → (b.rigBank bank).st = 2 := by omega
    exact congrArg Host.Outcome.next (hostRow_finish runRigBegin h rfl (runRigBegin_opens hnone hbase hvalid))
  · intro c b it f ht hs hw hm hdt hroom hcount
    exact congrArg Host.Outcome.next (hostRow_finish runRigPut h rfl (runRigPut_one_field ht hs hw hm hdt hroom hcount))
  · intro c b ht hs hw
    have hidle : b.working 0x0303 = false := before_working_of_servable h _
    exact congrArg Host.Outcome.next (hostRow_deferred runRigCommit h rfl (runRigCommit_begins ht hs hw hidle))
  · intro c b ht hw hmay
    rw [← closeTxn_open ht]
    exact congrArg Host.Outcome.next (hostRow_finish runRigAbort h rfl (runRigAbort_closes ht hw hmay))
  · intro hwhat
    exact congrArg Host.Outcome.next (hostRow_finish runRigGet h rfl (runRigGet_status hwhat))
  · intro hwhat
    exact congrArg Host.Outcome.next (hostRow_finish runRigGet h rfl (runRigGet_live hwhat))
  · intro c b hnone
    refine congrArg Host.Outcome.next ((hostRow_deferred runRigSave h rfl (runRigSave_begins hnone)).trans ?_)
    -- Both sides name the same image; unfolding it would run its hash and signature.
    with_reducible rfl
  · intro c b hvalid
    exact congrArg Host.Outcome.next (hostRow_finish runBankSelect h rfl (runBankSelect_valid hvalid))

end Sys2Proof.Machine
end

section
/-! SUPPORT. When the rows of Halyard come about: the condition that `Safety.occurs` gives each. -/
namespace Sys2Proof.Machine

theorem occurs_switchOnProbe (p : Nat) (shorted : Bool) (s : State) : Safety.occurs (.switchOnProbe p shorted) s
    = (s.halRuns && (s.hp p).line == .powering && (s.hp p).probing && s.due ((s.hp p).since + 2000)) := rfl

theorem occurs_poweringEnd (p : Nat) (s : State) : Safety.occurs (.poweringEnd p) s
    = (s.halRuns && (s.hp p).line == .powering && !(s.hp p).probing && s.due ((s.hp p).since + 100000)) := rfl

theorem occurs_lineShort (p : Nat) (s : State) : Safety.occurs (.lineShort p) s
    = (s.halRuns && (s.hp p).isOn && (s.hp p).base != .powering) := rfl

theorem occurs_lineForeign (p : Nat) (s : State) : Safety.occurs (.lineForeign p) s
    = (s.halRuns && (s.hp p).isOn) := rfl

theorem occurs_shortRetry (p : Nat) (s : State) : Safety.occurs (.shortRetry p) s
    = (s.halRuns && s.en 0x01 p && ((s.hp p).line == .short || (s.hp p).line == .foreign)
      && s.due ((s.hp p).since + retryWait (s.hp p).retries)) := rfl

theorem occurs_lowSupply (g cV : Nat) (s : State) : Safety.occurs (.lowSupply g cV) s
    = (s.halRuns && decide (cV < 950)) := rfl

theorem occurs_lowSupplyRecovery (g cV : Nat) (s : State) : Safety.occurs (.lowSupplyRecovery g cV) s
    = (s.halRuns && decide (1000 ≤ cV)) := rfl

theorem occurs_lowLine (p cV : Nat) (s : State) : Safety.occurs (.lowLine p cV) s
    = (s.halRuns && (s.hp p).isOn && decide (cV < s.df 0x01 p 8 2) && decide ((s.hp p).dmA < 10 * s.df 0x01 p 2 2)) := rfl

theorem occurs_lowLineClear (p cV : Nat) (s : State) : Safety.occurs (.lowLineClear p cV) s
    = (s.halRuns && decide (s.df 0x01 p 8 2 < cV)) := rfl

theorem occurs_scanCycleStart (s : State) : Safety.occurs .scanCycleStart s = s.startDue := rfl

theorem occurs_phaseSlotMark (k : Nat) (s : State) : Safety.occurs (.phaseSlotMark k) s
    = (s.halRuns && s.scan.active && decide (k < 4) && decide (s.scan.marks ≤ k) && s.due (s.scan.startUs + markUs k)) := rfl

theorem occurs_halyardSlotEnd (p k n : Nat) (rx : SlotRx) (s : State) : Safety.occurs (.halyardSlotEnd p k n rx) s
    = (s.halRuns && s.scan.active && s.en 0x01 p && decide (p < 128) && decide (k < 4) && decide (n < 256)
      && decide ((s.hp p).slotPos ≤ k * 256 + n) && s.due (s.scan.startUs + slotEndUs k n)) := rfl

theorem occurs_scheduleEnd (p dmA : Nat) (s : State) : Safety.occurs (.scheduleEnd p dmA) s
    = (s.halRuns && s.scan.active && s.due (s.scan.startUs + 506496) && (s.hp p).taking && decide (p < 128)) := rfl

theorem occurs_pointRecord (ecc : List HoldEcc) (s : State) : Safety.occurs (.pointRecord ecc) s
    = (s.up && ecc.isEmpty && decide (s.scan.jobs.length < 256) && !(drainRegs s).scan.intake.isEmpty) := rfl

theorem occurs_frontJob (ecc : List HoldEcc) (s : State) : Safety.occurs (.frontJob ecc) s
    = (s.up && ecc.isEmpty && !s.scan.jobs.isEmpty) := rfl

theorem occurs_trendSnapshot (late : Bool) (s : State) : Safety.occurs (.trendSnapshot late) s
    = (s.up && s.scan.snap.isSome) := rfl

theorem occurs_trendSpill (n : Nat) (s : State) : Safety.occurs (.trendSpill n) s
    = (s.up && (s.stream n).sess != 0 && (s.stream n).spill
      && decide ((s.stream n).spilledTo + 4096 ≤ (s.stream n).written)) := rfl

end Sys2Proof.Machine
end

section
/-! SUPPORT. A Halyard port is written: what reads back, and what stays as it was. -/
namespace Sys2Proof.Machine

/-- A port that is not as a port that is off reads back, whatever the table. -/
theorem setHp_hp_listed {s : State} {p : Nat} {h : HalPort} (hne : h ≠ HalPort.dflt) : (s.setHp p h).hp p = h :=
  Tbl.rd_wr_ne _ _ _ _ hne

@[simp] theorem putLine_hal (p : Nat) (h : HalPort) (s : State) : (putLine p h s).hal = Tbl.wr HalPort.dflt s.hal p h := by
  unfold putLine
  dsimp only
  split
  · exact ttOccur_hal _ _ _ _ _
  · rfl

/-- A port's write reaches the ports and the Telltale, and nothing else. -/
theorem putLine_only (p : Nat) (h : HalPort) (s : State) :
    putLine p h s = { s with hal := (putLine p h s).hal, tt := (putLine p h s).tt } := by
  rw [putLine_hal]
  unfold putLine
  dsimp only
  split
  · rw [ttOccur_only]
    rfl
  · rfl

theorem putLine_hp_listed {s : State} {p : Nat} {h : HalPort} (hne : h ≠ HalPort.dflt) : (putLine p h s).hp p = h := by
  unfold State.hp
  rw [putLine_hal]
  exact Tbl.rd_wr_ne _ _ _ _ hne

@[simp] theorem putLine_scan (p : Nat) (h : HalPort) (s : State) : (putLine p h s).scan = s.scan := by rw [putLine_only]
@[simp] theorem putLine_host (p : Nat) (h : HalPort) (s : State) : (putLine p h s).host = s.host := by rw [putLine_only]
@[simp] theorem putLine_pwr (p : Nat) (h : HalPort) (s : State) : (putLine p h s).pwr = s.pwr := by rw [putLine_only]

end Sys2Proof.Machine
end

section
/-! SUPPORT. The rows of a line, past the conditions under which they come about (R147, R162). -/
namespace Sys2Proof.Machine

/-- A probe that ends without a short leaves the line POWERING, and its blanking begins. -/
theorem probeEnd_occurs {p : Nat} {shorted : Bool} {s : State} (h : Safety.occurs (.switchOnProbe p shorted) s = true) :
    probeEnd p shorted s = if shorted then switchOff p .short s
      else s.setHp p { s.hp p with probing := false, since := (s.hp p).since + 2000 } :=
  if_pos (occurs_switchOnProbe p shorted s ▸ h)

theorem poweringEnd_occurs {p : Nat} {s : State} (h : Safety.occurs (.poweringEnd p) s = true) :
    poweringEnd p s = putLine p { s.hp p with line := .ok, retries := 0 } s :=
  if_pos (occurs_poweringEnd p s ▸ h)

theorem lineShort_occurs {p : Nat} {s : State} (h : Safety.occurs (.lineShort p) s = true) :
    lineShort p s = switchOff p .short s := by
  simp only [occurs_lineShort, Bool.and_eq_true, bne_iff_ne] at h
  obtain ⟨⟨hrun, hon⟩, hbase⟩ := h
  exact if_pos (by simp [hrun, hon, hbase])

theorem lineForeign_occurs {p : Nat} {s : State} (h : Safety.occurs (.lineForeign p) s = true) :
    lineForeign p s = switchOff p .foreign s :=
  if_pos (occurs_lineForeign p s ▸ h)

/-- A switch-on begins from the state that counts the retry. -/
theorem shortRetry_occurs {p : Nat} {s : State} (h : Safety.occurs (.shortRetry p) s = true) :
    shortRetry p s = switchOn p (s.setHp p { s.hp p with retries := (s.hp p).retries + 1 }) := by
  simp only [occurs_shortRetry, Bool.and_eq_true, Bool.or_eq_true, beq_iff_eq] at h
  obtain ⟨⟨⟨hrun, hen⟩, hline⟩, hdue⟩ := h
  exact if_pos (by simp [hrun, hen, hline, hdue])

/-- A port that counts a retry is not as one that is off. -/
theorem retried_ne_dflt (h : HalPort) : { h with retries := h.retries + 1 } ≠ HalPort.dflt :=
  fun e => Nat.succ_ne_zero _ (congrArg HalPort.retries e)

theorem lowLine_occurs {p cV : Nat} {s : State} (h : Safety.occurs (.lowLine p cV) s = true) :
    lowLine p cV s = putLine p { s.hp p with cV := cV, lowLine := true } s :=
  if_pos (occurs_lowLine p cV s ▸ h)

theorem lowLineEnd_occurs {p cV : Nat} {s : State} (h : Safety.occurs (.lowLineClear p cV) s = true) :
    lowLineEnd p cV s = putLine p { s.hp p with cV := cV, lowLine := false } s :=
  if_pos (occurs_lowLineClear p cV s ▸ h)

end Sys2Proof.Machine
end

section
/-! The obligation on the rows of a line. -/
namespace Sys2Proof.Machine

/-- Settles O29: each row under the condition that brings it about, and what the write of a port reaches. -/
theorem lineRowsComplete : Obligations.LineRowsComplete := by
  refine ⟨fun _ _ h => congrArg Host.Outcome.next (probeEnd_occurs h),
    fun _ _ h => congrArg Host.Outcome.next (probeEnd_occurs h),
    fun _ _ h => congrArg Host.Outcome.next (poweringEnd_occurs h),
    fun _ _ h => congrArg Host.Outcome.next (lineShort_occurs h),
    fun _ _ h => congrArg Host.Outcome.next (lineForeign_occurs h), fun p s h => ?_,
    fun g cV s h => congrArg Host.Outcome.next (if_pos (occurs_lowSupply g cV s ▸ h)),
    fun g cV s h => congrArg Host.Outcome.next (if_pos (occurs_lowSupplyRecovery g cV s ▸ h)),
    fun _ _ _ h => congrArg Host.Outcome.next (lowLine_occurs h),
    fun _ _ _ h => congrArg Host.Outcome.next (lowLineEnd_occurs h),
    fun p h s => ⟨putLine_only p h s, putLine_hal p h s⟩⟩
  refine congrArg Host.Outcome.next ((shortRetry_occurs h).trans ?_)
  unfold switchOn
  rw [setHp_hp_listed (retried_ne_dflt _), State.setHp_aon]

end Sys2Proof.Machine
end

section
/-! SUPPORT. The rows of the scan, past the conditions under which they come about (R155, R156, R172, R181, R188, R191, R193). -/
namespace Sys2Proof.Machine

/-! ## A cycle starts -/

theorem bit_or_two_pow (v n : Nat) : bit (v ||| 2 ^ n) n = true := by
  simp [bit]

@[simp] theorem State.setRdy_rdy_same (s : State) (n : Nat) : (s.setRdy n).rdy n = true := bit_or_two_pow _ _

/-- A port's part in a cycle writes the port and what it sends. -/
@[simp] theorem startPort_scan (p : Nat) (s : State) : (startPort p s).scan = s.scan := by
  unfold startPort
  dsimp only
  split <;> rfl

/-- The state in which a cycle has started and its ports have not. -/
def State.cycleOpen (s : State) : State :=
  let s1 := takeOvr (scanActivation s)
  let n := (s.scan.cycle + 1) % 4294967296
  { s1 with scan := { s1.scan with
    cycle := n, portCycle := n, active := true, startUs := s.aon.nowUs, startMs := s.optime, extra := false, begun := false,
    old := [], marks := 0, thr := [], shed := 0, noticed := 0, frontsDone := false, mastDone := false } }

theorem cycleStart_occurs {s : State} (h : Safety.occurs .scanCycleStart s = true) :
    cycleStart s = (forAll (s.cycleOpen.enabled 0x01) startPort s.cycleOpen).setRdy 10 :=
  if_neg (by simpa [occurs_scanCycleStart] using h)

/-- The ports' starts leave the cycle as it was opened. -/
theorem cycleStart_scan {s : State} (h : Safety.occurs .scanCycleStart s = true) : (cycleStart s).scan = s.cycleOpen.scan := by
  rw [cycleStart_occurs h, State.setRdy_scan]
  exact forAll_same State.scan _ _ startPort_scan _

/-! ## Marks, slots and the end of the schedule -/

theorem slotMark_occurs {k : Nat} {s : State} (h : Safety.occurs (.phaseSlotMark k) s = true) :
    slotMark k s = emit (((s.hal.filter (fun e => e.2.taking && (e.2.line == .ok || e.2.line == .open_))).map
      (fun e => e.1)).map (fun p => Frame.mark p k)) { s with scan := { s.scan with marks := k + 1 } } :=
  if_neg (by simpa [occurs_phaseSlotMark] using h)

/-- The port after the slot of address `a` ended with class `cls`. -/
def HalPort.slotTaken (h : HalPort) (a cls : Nat) (enabled : Bool) : HalPort :=
  let real := cls ≠ 5 && cls ≠ 4
  { h with
    slotPos := a + 1, heard := h.heard || real, badSlots := h.badSlots + b2n (cls = 1 || cls = 2),
    collideNow := h.collideNow || cls = 3, stray := h.stray + b2n (real && !enabled),
    line := if h.line = .open_ && real then .ok else h.line }

theorem slotEnd_occurs {p k n : Nat} {rx : SlotRx} {s : State} (h : Safety.occurs (.halyardSlotEnd p k n rx) s = true) :
    slotEnd p k n rx s =
      (let a := k * 256 + n
       let c := slotClass s p a rx
       let enabled := s.db 0x02 (1024 * p + a) 8 0 1 = 1
       let s1 := putLine p ((s.hp p).slotTaken a c.1 enabled) s
       if enabled then placeRecord p (intakeOf s p a c.1 c.2) s1 else s1) :=
  if_neg (by simpa [occurs_halyardSlotEnd] using h)

/-- The port after its schedule ended with a current of `dmA`, the line being noisy above `most` bad slots. -/
def HalPort.scheduleOver (h : HalPort) (dmA most : Nat) : HalPort :=
  { h with
    dmA := dmA, taking := false, slotPos := 1024, collide := h.collideNow, noisy := decide (most < h.badSlots),
    line := if h.line = .ok && !h.heard && dmA = 0 then .open_ else h.line }

/-- The state after the schedule ended on port `p`, whether or not others still take part. -/
def State.portOver (s : State) (p dmA : Nat) : State :=
  let h := (s.hp p).scheduleOver dmA (s.df 0x01 p 10 2)
  if s.scan.cycle ≠ 0 && (h.line = .ok || h.line = .open_) then portReady p (putLine p h s) else putLine p h s

@[simp] theorem portOver_scan (p dmA : Nat) (s : State) : (s.portOver p dmA).scan = s.scan := by
  unfold State.portOver
  dsimp only
  split
  · exact putLine_scan _ _ _
  · exact putLine_scan _ _ _

@[simp] theorem portOver_pwr (p dmA : Nat) (s : State) : (s.portOver p dmA).pwr = s.pwr := by
  unfold State.portOver
  dsimp only
  split
  · exact putLine_pwr _ _ _
  · exact putLine_pwr _ _ _

theorem scheduleEnd_occurs {p dmA : Nat} {s : State} (h : Safety.occurs (.scheduleEnd p dmA) s = true) :
    scheduleEnd p dmA s = if (s.portOver p dmA).hal.any (fun e => e.2.taking) then s.portOver p dmA
      else { s.portOver p dmA with scan := { (s.portOver p dmA).scan with active := false } } := by
  simp only [occurs_scheduleEnd, Bool.and_eq_true] at h
  obtain ⟨⟨⟨⟨hrun, hactive⟩, hdue⟩, htaking⟩, -⟩ := h
  unfold scheduleEnd
  rw [if_neg (by simp [hrun, hactive, hdue])]
  simp only [htaking, if_true]
  rfl

/-- HALYARD and the fronts are judged when the schedule has ended on the last port (R155, R381; log 29). -/
theorem scheduleEndRow_occurs {p dmA : Nat} {s : State} (h : Safety.occurs (.scheduleEnd p dmA) s = true) :
    scheduleEndRow p dmA s =
      (let s1 := s.portOver p dmA
       let s2 : State := { s1 with scan := { s1.scan with active := false } }
       if s1.hal.any (fun e => e.2.taking) then s1
       else if !s.up || s.scan.cycle = 0 then s2
       else cycleTail (if s2.halReady then s2.setRdy 11 else s2)) := by
  have heq := scheduleEnd_occurs h
  simp only [occurs_scheduleEnd, Bool.and_eq_true] at h
  obtain ⟨⟨⟨⟨-, hactive⟩, -⟩, -⟩, -⟩ := h
  unfold scheduleEndRow
  rw [heq]
  by_cases hmore : (s.portOver p dmA).hal.any (fun e => e.2.taking)
  · simp only [hmore, if_true]
    exact if_pos (by simp [hactive])
  · simp [hmore, hactive, State.up]

/-! ## The engine -/

@[simp] theorem drainRegs_up (s : State) : (drainRegs s).up = s.up := by
  unfold drainRegs
  split <;> rfl

@[simp] theorem drainRegs_jobs (s : State) : (drainRegs s).scan.jobs = s.scan.jobs := by
  unfold drainRegs
  split <;> rfl

theorem pointRecord_occurs {r : Intake} {q : List Intake} {s : State} (h : Safety.occurs (.pointRecord []) s = true)
    (hq : (drainRegs s).scan.intake = r :: q) :
    pointRecord [] s = cycleTail (noticesIfDue (drainRegs (takeRecord r { drainRegs s with
      scan := { (drainRegs s).scan with intake := q } }))) := by
  simp only [occurs_pointRecord, Bool.and_eq_true, decide_eq_true_eq] at h
  obtain ⟨⟨⟨hup, -⟩, hroom⟩, -⟩ := h
  unfold pointRecord
  rw [show holdErrors [] s = s from rfl]
  simp only [hq]
  refine if_neg ?_
  simpa using ⟨hup, hroom⟩

theorem frontJobRow_occurs {c : Nat} {q : List Nat} {s : State} (h : Safety.occurs (.frontJob []) s = true)
    (hq : s.scan.jobs = c :: q) :
    frontJobRow [] s = cycleTail (frontJob c { s with scan := { s.scan with jobs := q } }) := by
  simp only [occurs_frontJob, Bool.and_eq_true] at h
  obtain ⟨⟨hup, -⟩, -⟩ := h
  unfold frontJobRow
  rw [show holdErrors [] s = s from rfl]
  simp only [hq, hup, Bool.not_true, Bool.false_eq_true, if_false]

/-! ## Trends -/

theorem trendSnapshot_occurs {late : Bool} {cyc ms : Nat} {s : State} (h : Safety.occurs (.trendSnapshot late) s = true)
    (hs : s.scan.snap = some (cyc, ms)) :
    trendSnapshot late s = { s with
      trend := { s.trend with streams := s.trend.streams.map (fun e => if e.2.takes cyc then (e.1, e.2.snap cyc ms
        (late || (decide (s.scan.cycle ≠ cyc) && decide (s.scan.startUs + 20000 ≤ s.aon.nowUs))) s) else e) }
      scan := { s.scan with snap := none } } := by
  simp only [occurs_trendSnapshot, Bool.and_eq_true] at h
  obtain ⟨hup, -⟩ := h
  simp [trendSnapshot, hs, hup]

theorem trendSpill_occurs {n : Nat} {s : State} (h : Safety.occurs (.trendSpill n) s = true) :
    trendSpill n s =
      (let v := s.stream n
       let sp := v.spilled ++ v.hold.filter (fun g => decide (v.spilledTo < g.seq * v.groupLen)
         && decide (g.seq * v.groupLen ≤ v.spilledTo + 4096))
       s.setStream n { v with spilledTo := v.spilledTo + 4096, spilled := sp.drop (sp.length - v.ringGroups) }) := by
  simp only [occurs_trendSpill, Bool.and_eq_true, bne_iff_ne, decide_eq_true_eq] at h
  obtain ⟨⟨⟨hup, hopen⟩, hspill⟩, hblock⟩ := h
  exact if_neg (by simp [hup, hopen, hspill, Nat.not_lt.mpr hblock])

end Sys2Proof.Machine
end

section
/-! The obligation on the scan cycle. -/
namespace Sys2Proof.Machine

/-- Settles O30: each row under the condition that brings it about; a cycle that has started is the one that was opened. -/
theorem scanRowsComplete : Obligations.ScanRowsComplete := by
  refine ⟨fun _ h => congrArg Host.Outcome.next (cycleStart_occurs h), fun s h => ?_,
    fun _ _ h => congrArg Host.Outcome.next (slotMark_occurs h),
    fun _ _ _ _ _ h => congrArg (Host.Outcome.next ∘ noticesIfDue) (slotEnd_occurs h),
    fun _ _ _ h => congrArg Host.Outcome.next (scheduleEndRow_occurs h),
    fun _ _ _ h hq => congrArg Host.Outcome.next (pointRecord_occurs h hq),
    fun _ _ _ h hq => congrArg Host.Outcome.next (frontJobRow_occurs h hq),
    fun _ _ _ _ h hs => congrArg Host.Outcome.next (trendSnapshot_occurs h hs),
    fun _ _ h => congrArg Host.Outcome.next (trendSpill_occurs h)⟩
  refine ⟨cycleStart s, rfl, ?_, ?_, ?_, ?_, ?_⟩
  · rw [cycleStart_scan h]; rfl
  · rw [cycleStart_scan h]; rfl
  · rw [cycleStart_scan h]; rfl
  · rw [cycleStart_scan h]; rfl
  · rw [cycleStart_occurs h]
    exact State.setRdy_rdy_same _ _

end Sys2Proof.Machine
end

section
/-! SUPPORT. The rows of an enumeration, past the conditions under which they come about (R154, R158, R159). -/
namespace Sys2Proof.Machine

/-! ## When they come about -/

theorem occurs_enumerateRunStart_asked {p : Nat} {s : State} (h : Safety.occurs (.enumerateRunStart p) s = true)
    (hr : (s.hp p).run = none) : s.up = true ∧ (s.hp p).taking = false ∧ s.en 0x01 p = true := by
  change (s.up && (match (s.hp p).run with
    | some r => r.wait == .power && s.due (r.startUs + 50000)
    | none => (s.hp p).asked.isSome && !(s.hp p).taking && s.en 0x01 p)) = true at h
  simp only [hr, Bool.and_eq_true, Bool.not_eq_true'] at h
  obtain ⟨hup, ⟨-, htaking⟩, hen⟩ := h
  exact ⟨hup, htaking, hen⟩

theorem occurs_enumerateRunStart_powered {p : Nat} {r : EnumRun} {s : State}
    (h : Safety.occurs (.enumerateRunStart p) s = true) (hr : (s.hp p).run = some r) :
    s.up = true ∧ r.wait = .power ∧ s.due (r.startUs + 50000) = true := by
  change (s.up && (match (s.hp p).run with
    | some r => r.wait == .power && s.due (r.startUs + 50000)
    | none => (s.hp p).asked.isSome && !(s.hp p).taking && s.en 0x01 p)) = true at h
  simpa [hr] using h

theorem occurs_enumerateRunEnd {p : Nat} {rx : List (Nat × SlotRx)} {r : EnumRun} {s : State}
    (h : Safety.occurs (.enumerateRunEnd p rx) s = true) (hr : (s.hp p).run = some r) : s.up = true ∧ r.wait = .ended := by
  change (s.up && (match (s.hp p).run with
    | some r => r.wait == .ended
    | none => false)) = true at h
  simpa [hr] using h

/-! ## A run starts -/

/-- The run of an enumeration asked for, with its first SEARCH still to go out. -/
def State.newRun (s : State) (asg : Bool) : EnumRun :=
  { assign := asg, startUs := s.aon.nowUs, stack := [[]], windows := [], wait := .power }

/-- The port with that run. -/
def State.runOn (s : State) (p : Nat) (asg : Bool) : State :=
  putLine p { s.hp p with asked := none, run := some (s.newRun asg), sum := EnumSum.zero, recs := [] } s

/-- A port with a run is not as one that is off. -/
theorem ne_dflt_of_run {h : HalPort} {r : EnumRun} (hr : h.run = some r) : h ≠ HalPort.dflt :=
  fun e => Option.some_ne_none r (hr.symm.trans (congrArg HalPort.run e))

/-- With no window left, the run goes on with the SEARCH on top of its stack. -/
theorem enumGo_pops {n p : Nat} {r : EnumRun} {q : List Nat} {t : List (List Nat)} {s : State} (hr : (s.hp p).run = some r)
    (hw : r.windows = []) (hs : r.stack = q :: t) : enumGo (n + 1) p s = sendSearch p q { r with stack := t } s := by
  simp only [enumGo, hr, hw, hs]

theorem enumStart_asked {p : Nat} {asg : Bool} {s : State} (h : Safety.occurs (.enumerateRunStart p) s = true)
    (hr : (s.hp p).run = none) (ha : (s.hp p).asked = some asg) :
    enumStart p s = if (s.hp p).isOn then enumGo enumFuel p (s.runOn p asg) else switchOn p (s.runOn p asg) := by
  obtain ⟨hup, htaking, hen⟩ := occurs_enumerateRunStart_asked h hr
  simp only [enumStart, hr, ha]
  exact if_neg (by simp [hup, htaking, hen])

theorem enumStart_on {p : Nat} {asg : Bool} {s : State} (h : Safety.occurs (.enumerateRunStart p) s = true)
    (hr : (s.hp p).run = none) (ha : (s.hp p).asked = some asg) (hon : (s.hp p).isOn = true) :
    enumStart p s = sendSearch p [] { s.newRun asg with stack := [] } (s.runOn p asg) := by
  rw [enumStart_asked h hr ha, if_pos hon]
  exact enumGo_pops (congrArg HalPort.run (putLine_hp_listed (ne_dflt_of_run rfl))) rfl rfl

theorem enumStart_powered {p : Nat} {r : EnumRun} {s : State} (h : Safety.occurs (.enumerateRunStart p) s = true)
    (hr : (s.hp p).run = some r) (hs : r.stack = [[]]) (hw : r.windows = []) :
    enumStart p s = sendSearch p [] { r with stack := [] } s := by
  obtain ⟨hup, hpower, hdue⟩ := occurs_enumerateRunStart_powered h hr
  simp only [enumStart, hr, hup, hpower, hdue, decide_true, Bool.and_self, if_true]
  exact enumGo_pops hr hw hs

/-! ## An exchange ends -/

section
variable {p : Nat} {r : EnumRun} {s : State} (hr : (s.hp p).run = some r)
include hr

theorem enumExchange_search {pfx : List Nat} {cl : List Sink} (hw : r.wait = .search pfx) :
    enumExchange p (.search cl) s = enumGo enumFuel p (s.setHp p { s.hp p with run := some { r with
      windows := (List.range 16).map (fun i => (pfx ++ [i], ((cl[i]?).map presence).getD 0)) } }) := by
  simp only [enumExchange, hr, hw]

theorem enumExchange_identified {q : List Nat} {again : Bool} {reply : Option Bytes} {x : Nat × Nat}
    (hw : r.wait = .identify q again) (hx : identifyOf reply = some x) :
    enumExchange p (.identify reply) s = enumRecord p x.1 x.2 s := by
  simp only [enumExchange, hr, hw, hx]

/-- The first IDENTIFY without a good reply is sent again. -/
theorem enumExchange_unidentified {q : List Nat} {reply : Option Bytes} (hw : r.wait = .identify q false)
    (hx : identifyOf reply = none) :
    enumExchange p (.identify reply) s
      = emit [depthFrame p 0x21 q] (s.setHp p { s.hp p with run := some { r with wait := .identify q true } }) := by
  simp only [enumExchange, hr, hw, hx, Bool.not_false, if_true]

theorem enumExchange_assigned {ident want : Nat} {again : Bool} {ack : Option Bytes}
    (hw : r.wait = .assign ident want again) (hx : ackGood ident ack = true) :
    enumExchange p (.assign ack) s = assigned p ident want s := by
  simp only [enumExchange, hr, hw, hx, if_true]

/-- The first ASSIGN without a good acknowledgement is tried again, from a new IDENTIFY of the whole identity. -/
theorem enumExchange_unassigned {ident want : Nat} {ack : Option Bytes} (hw : r.wait = .assign ident want false)
    (hx : ackGood ident ack = false) :
    enumExchange p (.assign ack) s = emit [depthFrame p 0x21 (nibbles ident)]
      (s.setHp p { s.hp p with run := some { r with wait := .reidentify ident want } }) := by
  simp only [enumExchange, hr, hw, hx, Bool.not_false, Bool.false_eq_true, if_false, if_true]

end

theorem identifyOf_good {bs : Bytes} (hl : bs.length = 11) (hc : crc8 (bs.take 10) = fld bs 10 1) :
    identifyOf (some bs) = some (fld bs 0 8, fld bs 8 2) := by
  simp [identifyOf, hl, hc]

theorem ackGood_good {ident : Nat} {bs : Bytes} (hl : bs.length = 3) (hc : crc8 (le 2 ident ++ bs.take 2) = fld bs 2 1) :
    ackGood ident (some bs) = true := by
  simp [ackGood, hl, hc]

/-! ## The run ends -/

/-- The state after the run `r` ended: an ASSIGN has run its verification cycle. -/
def State.runOver (s : State) (p : Nat) (rx : List (Nat × SlotRx)) (r : EnumRun) : State :=
  putLine p { s.hp p with
      run := none, recs := if r.assign then verifyRecs s p (goodAddrs s rx) (s.hp p).recs else (s.hp p).recs
      sum := { (s.hp p).sum with durationMs := (s.aon.nowUs - r.startUs) / 1000 } }
    (if r.assign then emit [convertFrame s p s.scan.portCycle, .mark p 0, .mark p 1, .mark p 2, .mark p 3] s else s)

@[simp] theorem runOver_host (s : State) (p : Nat) (rx : List (Nat × SlotRx)) (r : EnumRun) : (s.runOver p rx r).host = s.host := by
  unfold State.runOver
  rw [putLine_host]
  split <;> rfl

theorem enumEnd_ended {p : Nat} {rx : List (Nat × SlotRx)} {r : EnumRun} {s : State} (hr : (s.hp p).run = some r)
    (hw : r.wait = .ended) : enumEnd p rx s = (s.runOver p rx r, true) := by
  simp only [enumEnd, hr, hw, ne_eq, not_true_eq_false, if_false]
  rfl

theorem enumRunEnd_occurs {p : Nat} {rx : List (Nat × SlotRx)} {r : EnumRun} {c : Cmd} {s : State}
    (h : Safety.occurs (.enumerateRunEnd p rx) s = true) (hr : (s.hp p).run = some r)
    (hc : s.host.running.find? (fun d => d.op == 0x0403 && keyIdx (fld d.payload 0 4) == p) = some c) :
    enumRunEnd p rx s = finishRun c (Res.ok (enumSummary (s.runOver p rx r) p)) (s.runOver p rx r) := by
  obtain ⟨hup, hended⟩ := occurs_enumerateRunEnd h hr
  simp only [enumRunEnd, hup, enumEnd_ended hr hended, runOver_host, hc, Bool.not_true, Bool.false_eq_true, if_false]

end Sys2Proof.Machine
end

section
/-! The obligation on enumeration. -/
namespace Sys2Proof.Machine

/-- Settles O31: the start of a run, each exchange that it waits for, and its end. -/
theorem enumerationRowsComplete : Obligations.EnumerationRowsComplete := by
  refine ⟨fun p asg s h hr ha => ⟨fun hon => congrArg Host.Outcome.next (enumStart_on h hr ha hon),
      fun hoff => congrArg Host.Outcome.next ((enumStart_asked h hr ha).trans (if_neg (by simp [hoff])))⟩,
    fun _ _ _ h hr hs hw => congrArg Host.Outcome.next (enumStart_powered h hr hs hw),
    fun _ _ _ _ _ _ hr hw => congrArg Host.Outcome.next (enumExchange_search hr hw),
    fun p bs ident addr r q again s _ hr hw hl hc hident haddr => ?_,
    fun _ _ _ _ _ _ hr hw hx => congrArg Host.Outcome.next (enumExchange_unidentified hr hw hx),
    fun _ _ _ _ _ _ _ _ hr hw hl hc => congrArg Host.Outcome.next (enumExchange_assigned hr hw (ackGood_good hl hc)),
    fun _ _ _ _ _ _ _ hr hw hx => congrArg Host.Outcome.next (enumExchange_unassigned hr hw hx),
    fun _ _ _ _ _ h hr hc => congrArg Host.Outcome.next (enumRunEnd_occurs h hr hc)⟩
  rw [hident, haddr]
  exact congrArg Host.Outcome.next (enumExchange_identified hr hw (identifyOf_good hl hc))

end Sys2Proof.Machine
end

section
/-! SUPPORT. When the rows of the plant come about: the condition that `Safety.occurs` gives each. -/
namespace Sys2Proof.Machine

theorem occurs_loopOverrun (l : Nat) (s : State) : Safety.occurs (.loopOverrun l) s = ((s.loop l).late != 0) := rfl

theorem occurs_mastEvaluation (s : State) : Safety.occurs .mastEvaluation s
    = (s.up && s.scan.frontsDone && !s.scan.mastDone) := rfl

theorem occurs_mastTimedCheck (s : State) : Safety.occurs .mastTimedCheck s
    = (s.up && s.rdy 17 && s.due ((s.masts.checkS + 1) * 1000000)) := rfl

theorem occurs_ledgerSave (s : State) : Safety.occurs .ledgerSave s
    = (s.up && s.rdy 17 && s.due (s.masts.saveUs + 60000000)) := rfl

theorem occurs_dryerEvaluation (s : State) : Safety.occurs .dryerEvaluation s
    = (s.up && s.rdy 4 && s.aon.nowUs / 100000 != s.dryers.evalAt / 100000) := rfl

theorem occurs_dryerSaveRefresh (s : State) : Safety.occurs .dryerSaveRefresh s
    = (s.up && s.rdy 14 && s.due (s.dryers.saveAt + 10000000)) := rfl

theorem occurs_routeEvaluation (s : State) : Safety.occurs .routeEvaluation s
    = (s.up && s.rdy 4 && s.aon.nowUs / 10000 != s.routes.evalAt / 10000) := rfl

end Sys2Proof.Machine
end

section
/-! SUPPORT. One overrun of a loop: whether it puts the loop into fallback, and what each case leaves (R214). -/
namespace Sys2Proof.Machine

/-- This overrun is the third in a row or later, and the loop is not in fallback for overruns yet. -/
def Loop.overrunEnters (lp : Loop) : Bool := decide (3 ≤ lp.consec + 1) && !lp.fbOver

/-- The loop's counters after one more overrun. -/
def Loop.overrun (lp : Loop) : Loop :=
  { lp with
    overruns := satInc 0xFFFFFFFF lp.overruns, consec := satInc 255 lp.consec, late := lp.late - 1, fbGood := 0,
    fbOver := lp.fbOver || lp.overrunEnters, fb := lp.fb || lp.overrunEnters }

section
variable {l : Nat} {s : State}

/-- An overrun that does not enter fallback is counted and flagged. -/
theorem bookOverrun_counts (h : (s.loop l).overrunEnters = false) :
    bookOverrun l s = raiseFlags l fOverrun 0 (s.setLoop l (s.loop l).overrun) := by
  have henter : (decide (3 ≤ (s.loop l).consec + 1) && !(s.loop l).fbOver) = false := h
  simp only [bookOverrun, Loop.overrun, h, henter, flagIf, Bool.false_and, Bool.false_eq_true, if_false, Nat.or_zero]

/-- One that does is recorded, raises FALLBACK beside it and ends what is injected; a notice of an entry goes out only where
the loop was not in fallback already. -/
theorem bookOverrun_enters (h : (s.loop l).overrunEnters = true) :
    bookOverrun l s = abortInj l (raiseFlags l (fOverrun ||| fFallback) (if (s.loop l).fb then 0 else 1)
      (ttOccur 0 0x05C1 (dkey 0x05 l) (le 4 (s.loop l).overrun.overruns) (s.setLoop l (s.loop l).overrun))) := by
  have henter : (decide (3 ≤ (s.loop l).consec + 1) && !(s.loop l).fbOver) = true := h
  have hevent : (if (true && !(s.loop l).fb) = true then 1 else 0) = if (s.loop l).fb = true then 0 else 1 := by
    cases (s.loop l).fb <;> rfl
  simp only [bookOverrun, Loop.overrun, h, henter, hevent, flagIf, if_true]

theorem bookOverrun_eq (l : Nat) (s : State) :
    bookOverrun l s = (let s1 := s.setLoop l (s.loop l).overrun
      if (s.loop l).overrunEnters then abortInj l (raiseFlags l (fOverrun ||| fFallback) (if (s.loop l).fb then 0 else 1)
        (ttOccur 0 0x05C1 (dkey 0x05 l) (le 4 (s.loop l).overrun.overruns) s1)) else raiseFlags l fOverrun 0 s1) := by
  dsimp only
  split
  next h => exact bookOverrun_enters h
  next h => exact bookOverrun_counts (Bool.eq_false_iff.mpr h)

theorem loopOverrun_occurs (h : Safety.occurs (.loopOverrun l) s = true) :
    execLoopOverrun l s = .next (bookOverrun l s) := by
  rw [occurs_loopOverrun, bne_iff_ne] at h
  exact congrArg Host.Outcome.next (if_neg h)

end

end Sys2Proof.Machine
end

section
/-! SUPPORT. The rows of Masts, the ledger, dryers and routes, past the conditions under which they come about (R231, R235,
R242, R245, R260). -/
namespace Sys2Proof.Machine

section
variable {s : State}

theorem mastEvaluation_occurs (h : Safety.occurs .mastEvaluation s = true) :
    mastEvaluation s = (let s1 := forAll (s.enabled 0x04) mastEvaluate s
      { s1 with scan := { s1.scan with mastDone := true } }.setRdy 13) := by
  simp only [occurs_mastEvaluation, Bool.and_eq_true, Bool.not_eq_true'] at h
  obtain ⟨⟨hup, hfronts⟩, hdone⟩ := h
  simp [mastEvaluation, hup, hfronts, hdone]

theorem mastTimedCheck_occurs (h : Safety.occurs .mastTimedCheck s = true) :
    mastTimedCheck s = (let s1 := forAll (s.enabled 0x04) mastCheck s
      { s1 with masts := { s1.masts with checkS := (s.aon.nowUs + 249) / 1000000 } }) := by
  simp only [occurs_mastTimedCheck, Bool.and_eq_true] at h
  obtain ⟨⟨hup, hrdy⟩, hdue⟩ := h
  simp [mastTimedCheck, hup, hrdy, hdue]

theorem ledgerSave_occurs (h : Safety.occurs .ledgerSave s = true) : ledgerSave s = saveLedger s := by
  simp only [occurs_ledgerSave, Bool.and_eq_true] at h
  obtain ⟨⟨hup, hrdy⟩, hdue⟩ := h
  simp [ledgerSave, hup, hrdy, hdue]

theorem dryerEvaluation_occurs (h : Safety.occurs .dryerEvaluation s = true) :
    dryerEvaluation s = (let s1 := forAll (s.enabled 0x07) (dryOne ((s.aon.nowUs - s.dryers.evalAt) / 1000)) s
      { s1 with dryers := { s1.dryers with evalAt := s.aon.nowUs } }.setRdy 14) := by
  simp only [occurs_dryerEvaluation, Bool.and_eq_true, bne_iff_ne] at h
  obtain ⟨⟨hup, hrdy⟩, hedge⟩ := h
  simp [dryerEvaluation, hup, hrdy, hedge]

theorem dryerSaveRefresh_occurs (h : Safety.occurs .dryerSaveRefresh s = true) :
    dryerSaveRefresh s = (let s1 := forAll (s.enabled 0x07) drySave s
      { s1 with dryers := { s1.dryers with saveAt := s.aon.nowUs } }) := by
  simp only [occurs_dryerSaveRefresh, Bool.and_eq_true] at h
  obtain ⟨⟨hup, hrdy⟩, hdue⟩ := h
  simp [dryerSaveRefresh, hup, hrdy, hdue]

theorem routeEvaluation_occurs (h : Safety.occurs .routeEvaluation s = true) :
    routeEvaluation s = (let es := s.enabled 0x09
      let s1 := forAll es elemRead s
      let s2 := forAll (s1.enabled 0x08) (routeOne s1 ((s.aon.nowUs - s.routes.evalAt) / 1000)) s1
      let s3 := forAll es elemDrive s2
      { s3 with routes := { s3.routes with evalAt := s.aon.nowUs } }.setRdy 15) := by
  simp only [occurs_routeEvaluation, Bool.and_eq_true, bne_iff_ne] at h
  obtain ⟨⟨hup, hrdy⟩, hedge⟩ := h
  simp [routeEvaluation, hup, hrdy, hedge]

end

end Sys2Proof.Machine
end

section
/-! The obligation on the rows that step the plant. -/
namespace Sys2Proof.Machine

/-- Settles O33: an overrun by whether it enters fallback, and each other row under the condition that brings it about. -/
theorem plantRowsComplete : Obligations.PlantRowsComplete :=
  ⟨fun l s h => (loopOverrun_occurs h).trans (congrArg Host.Outcome.next (bookOverrun_eq l s)),
   fun _ h => congrArg Host.Outcome.next (mastEvaluation_occurs h),
   fun _ h => congrArg Host.Outcome.next (mastTimedCheck_occurs h),
   fun _ h => congrArg Host.Outcome.next (ledgerSave_occurs h),
   fun _ h => congrArg Host.Outcome.next (dryerEvaluation_occurs h),
   fun _ h => congrArg Host.Outcome.next (dryerSaveRefresh_occurs h),
   fun _ h => congrArg Host.Outcome.next (routeEvaluation_occurs h)⟩

end Sys2Proof.Machine
end

section
/-! SUPPORT. An item that passes the gate of R97, and a multi-item command of one item (R73, R74). -/
namespace Sys2Proof.Machine

theorem itemGate_passes {c : Cmd} {k : Nat} {s : State} (h : s.mayOperate k c.sess = true) : itemGate c k true s = 0 := by
  simp [itemGate, h]

/-- A command of one item that takes effect leaves what the item leaves, and its outcome is OK. -/
theorem multi_one {n : Nat} {f : Nat → State → State × Nat} {s t : State} (hn : n = 1) (h : f 0 s = (t, 0)) :
    ((runItems n f s).1, Res.multi (runItems n f s).2 []) = (t, Res.multi [0] []) := by
  rw [hn, runItems_one, h]

end Sys2Proof.Machine
end

section
/-! SUPPORT. The opcodes of loops and of their injections and captures, past the conditions under which each takes effect
(R207, R208, R220, R222). -/
namespace Sys2Proof.Machine

section
variable {c : Cmd} {s : State}

/-! ## One item of each multi-item opcode -/

section
variable {i k : Nat} {it : Bytes} (hit : cut c.payload (4 + 8 * i) 8 = it) (hk : fld it 0 4 = k)
  (hmay : s.mayOperate k c.sess = true) (hen : s.en 0x05 (keyIdx k) = true)
include hit hk hmay hen

theorem spItem_passes : spItem c i s =
    (let s1 := s.setLoopInt (keyIdx k) { s.loopInt (keyIdx k) with target := some (sfld it 4 2) }
     (commitItem k c.jseq c.sess c.role (s1.setLoop (keyIdx k) { s1.loop (keyIdx k) with pendSp := true }), 0)) := by
  simp [spItem, hit, hk, itemGate_passes hmay, hen]

theorem modeItem_passes : modeItem c i s =
    (let s1 := s.setLoopInt (keyIdx k) { s.loopInt (keyIdx k) with mode := fld it 4 1, manOut := sfld it 6 2 }
     (commitItem k c.jseq c.sess c.role
       (abortInj (keyIdx k) (s1.setLoop (keyIdx k) { s1.loop (keyIdx k) with pendMode := true })), 0)) := by
  simp [modeItem, hit, hk, itemGate_passes hmay, hen]

theorem flagItem_passes : flagItem c i s =
    (commitItem k c.jseq c.sess c.role (s.setLoop (keyIdx k) { s.loop (keyIdx k) with
      flags := (s.loop (keyIdx k)).flags - ((s.loop (keyIdx k)).flags &&& fld it 4 4) }), 0) := by
  simp [flagItem, hit, hk, itemGate_passes hmay, hen]

end

/-! ## CAPTURE_READ by its ACTION (R222) -/

theorem runCapture_read (ha : fld c.payload 1 1 = 0) (hv : (s.capBuf (fld c.payload 0 1)).sess ≠ 0) :
    runCapture c s = (s, Res.ok (capBytes (s.capBuf (fld c.payload 0 1)) (fld c.payload 4 4))) := by
  simp only [runCapture, runCaptureRead, ha, hv, if_true, if_false]

/-- A buffer that no injection of its loop fills is freed by its session, and nothing ends. -/
theorem runCapture_free (ha : fld c.payload 1 1 = 1) (hv : (s.capBuf (fld c.payload 0 1)).sess ≠ 0)
    (hown : (s.capBuf (fld c.payload 0 1)).sess = c.sess) (hinj : (s.loop (s.capBuf (fld c.payload 0 1)).loop).inj = none) :
    runCapture c s = (s.setCap (fld c.payload 0 1) CapBuf.dflt, Res.ok []) := by
  have hc : c.sess ≠ 0 := hown ▸ hv
  simp [runCapture, runCaptureFree, ha, hown, hc, hinj]

/-- A buffer without damage reads as its header and the samples from the one that is asked for. -/
theorem capBytes_undamaged {v : CapBuf} (h : v.damaged = false) (n : Nat) :
    capBytes v n = capHeader v ++ ((v.samples.drop n).take 1014).flatten := by
  simp only [capBytes, h, Bool.false_eq_true, if_false]

/-! ## INJECT_START without a capture (R220) -/

/-- The injection that INJECT_START asks for, with no capture buffer. -/
def injectionOf (c : Cmd) : Inj :=
  { signal := fld c.payload 4 1, at_ := fld c.payload 5 1, ampl := fld c.payload 10 2, length := fld c.payload 12 4,
    shape := fld c.payload 16 2, pre := fld c.payload 18 2, n := 0, buf := none, sess := c.sess, prbs := 0x7FFF }

section
variable {k : Nat} (hk : fld c.payload 0 4 = k) (hmay : s.mayOperate k c.sess = true) (hen : s.en 0x05 (keyIdx k) = true)
include hk hmay hen

/-- A signal starts where nothing is injected yet and the loop is in AUTO and in no fallback. -/
theorem runInject_starts (hsig : fld c.payload 4 1 ≠ 0) (hcap : fld c.payload 6 1 = 0) (hidle : (s.loop (keyIdx k)).inj = none)
    (hauto : (s.loopInt (keyIdx k)).mode = 0) (hfb : (s.loop (keyIdx k)).fb = false)
    (hover : (s.loop (keyIdx k)).fbOver = false) (hecc : (s.loop (keyIdx k)).fbEcc = false) :
    runInject c s = (commitItem k c.jseq c.sess c.role
      (s.setLoop (keyIdx k) { s.loop (keyIdx k) with inj := some (injectionOf c) }), Res.ok (0xFF#8 :: zeros 7)) := by
  simp [runInject, hk, itemGate_passes hmay, hen, hsig, hcap, hidle, hauto, hfb, hover, hecc, injectionOf]

theorem runInject_ends (hsig : fld c.payload 4 1 = 0) (hcap : fld c.payload 6 1 ≠ 1) :
    runInject c s = (commitItem k c.jseq c.sess c.role (abortInj (keyIdx k) s), Res.ok (0xFF#8 :: zeros 7)) := by
  simp [runInject, hk, itemGate_passes hmay, hen, hsig, hcap]

end

end

end Sys2Proof.Machine
end

section
/-! The obligation on the opcodes of loops. -/
namespace Sys2Proof.Machine

/-- Settles O52: each opcode is served, and its one item, its ACTION or its signal takes effect past the gate of R97. -/
theorem loopOpcodesResult : Obligations.LoopOpcodesResult :=
  ⟨fun _ _ h hn hmay hen => congrArg Host.Outcome.next
     (hostRow_finish runLoopSetSp h rfl (multi_one hn (spItem_passes rfl rfl hmay hen))),
   fun _ _ h hn hmay hen => congrArg Host.Outcome.next
     (hostRow_finish runLoopMode h rfl (multi_one hn (modeItem_passes rfl rfl hmay hen))),
   fun _ _ h hn hmay hen => congrArg Host.Outcome.next
     (hostRow_finish runLoopClear h rfl (multi_one hn (flagItem_passes rfl rfl hmay hen))),
   fun _ _ h => congrArg Host.Outcome.next (hostRow_finish runLoopRead h rfl rfl),
   fun _ _ h ha hv => ⟨congrArg Host.Outcome.next (hostRow_finish runCapture h rfl (runCapture_read ha hv)),
     fun hd => capBytes_undamaged hd _⟩,
   fun _ _ h ha hv hown hinj => congrArg Host.Outcome.next (hostRow_finish runCapture h rfl (runCapture_free ha hv hown hinj)),
   fun _ _ h hsig hcap hmay hen hidle hauto hfb hover hecc => congrArg Host.Outcome.next
     (hostRow_finish runInject h rfl (runInject_starts rfl hmay hen hsig hcap hidle hauto hfb hover hecc)),
   fun _ _ h hsig hcap hmay hen => congrArg Host.Outcome.next
     (hostRow_finish runInject h rfl (runInject_ends rfl hmay hen hsig hcap))⟩

end Sys2Proof.Machine
end

section
/-! SUPPORT. The opcodes of Masts and of the ledger (R226, R236). -/
namespace Sys2Proof.Machine

/-- An item asks for a campaign where its mode is DRY or COOL and differs from the Mast's (R226). -/
def State.asksCampaign (s : State) (m mode : Nat) : Bool := (mode = 1 || mode = 2) && mode ≠ s.mastMode m

/-- The state once an item's mode is taken: where it asks for a campaign, the ledger counts the new one from 0 s (R226). -/
def State.withMastMode (s : State) (m mode : Nat) : State :=
  let s1 : State := { s with masts := { s.masts with mode := Tbl.wr 0 s.masts.mode m mode } }
  if s.asksCampaign m mode then s1.setLedger m { s1.ledger m with campaignS := 0 } else s1

/-- A Mast once an item's mode and force are taken: LOCKED, it takes no force while the port die senses the land (R226). -/
def State.mastAsked (s : State) (m mode force : Nat) : Mast :=
  let x := s.mast m
  { x with
    campCycle := if s.asksCampaign m mode then s.scan.cycle else x.campCycle
    newMode := x.newMode || ((x.st = 4 || x.maint) && (s.asksCampaign m mode || mode = 3))
    lockItem := x.lockItem || (x.st = 6 && !(s.die 1).sense)
    forceMin := if force = 0 then x.forceMin else if x.st = 6 && (s.die 1).sense then 0 else force }

theorem mastItem_passes {c : Cmd} {s : State} {i k : Nat} {it : Bytes} (hit : cut c.payload (4 + 8 * i) 8 = it)
    (hk : fld it 0 4 = k) (hmay : s.mayOperate k c.sess = true) (hen : s.en 0x04 (keyIdx k) = true) :
    mastItem c i s = (commitItem k c.jseq c.sess c.role ((s.withMastMode (keyIdx k) (fld it 4 1)).setMast (keyIdx k)
      (s.mastAsked (keyIdx k) (fld it 4 1) (fld it 6 2))), 0) := by
  simp [mastItem, State.withMastMode, State.mastAsked, State.asksCampaign, hit, hk, itemGate_passes hmay, hen]

/-- LEDGER_READ leaves the state and replies its 16-byte header and then the records (R236). -/
theorem runLedgerRead_eq (c : Cmd) (s : State) : runLedgerRead c s = (s, Res.ok (le 6 s.optime ++ zeros 2
    ++ [bandCode s (keyIdx (fld c.payload 0 4))] ++ zeros 7 ++ (readRecords c (fun k => ledgerRecord s (keyIdx k))).data)) := rfl

end Sys2Proof.Machine
end

section
/-! The obligation on the opcodes of Masts. -/
namespace Sys2Proof.Machine

/-- Settles O53: each opcode is served, and the one item of MAST_MODE takes effect past the gate of R97. -/
theorem mastOpcodesResult : Obligations.MastOpcodesResult :=
  ⟨fun _ _ h hn hmay hen => congrArg Host.Outcome.next
     (hostRow_finish runMastMode h rfl (multi_one hn (mastItem_passes rfl rfl hmay hen))),
   fun _ _ h => congrArg Host.Outcome.next (hostRow_finish runMastRead h rfl rfl),
   fun _ _ h => congrArg Host.Outcome.next (hostRow_finish runLedgerRead h rfl (runLedgerRead_eq _ _))⟩

end Sys2Proof.Machine
end

section
/-! SUPPORT. The rows of LOCKOUT and of the analogue outputs, past the conditions under which they come about (R234, R290). -/
namespace Sys2Proof.Machine

theorem occurs_lockoutChange (m : Nat) (s : State) : Safety.occurs (.lockoutChange m) s = !s.pwr.vioLow := rfl

theorem occurs_aoShort (i : Nat) (s : State) : Safety.occurs (.aoShort i) s
    = (s.aoLive i && s.db 0x0D i 0 1 1 == 0 && (s.ao i).value != 0) := rfl

theorem occurs_aoOpen (i : Nat) (b : Bool) (s : State) : Safety.occurs (.aoOpen i b) s
    = (s.aoLive i && s.db 0x0D i 0 1 1 != 0 && (s.ao i).open_ != b) := rfl

/-- LOCKOUT_DISAGREE comes about while the dies disagree, not recorded yet, and after more than 10 ms. -/
theorem occurs_lockoutDisagree {m : Nat} {s : State} (h : Safety.occurs (.lockoutDisagree m) s = true) :
    ∃ t, s.io.disagreeAt = some t ∧ s.io.disagreed = false ∧ m = s.lockMask ∧ s.due (t + 10000) = true := by
  simp only [Safety.occurs] at h
  split at h
  next t ht =>
    simp only [Bool.and_eq_true, Bool.not_eq_true', beq_iff_eq] at h
    obtain ⟨⟨hfirst, hmask⟩, hdue⟩ := h
    exact ⟨t, ht, hfirst, hmask, hdue⟩
  next => contradiction

section
variable {m i : Nat} {s : State}

theorem lockoutChange_occurs (h : Safety.occurs (.lockoutChange m) s = true) :
    lockoutChange m s = lockoutSense (m % 8) { s with io := { s.io with lockLand := m % 8 } } := by
  simp only [occurs_lockoutChange, Bool.not_eq_true'] at h
  simp [lockoutChange, h]

theorem lockoutDisagree_occurs (h : Safety.occurs (.lockoutDisagree m) s = true) :
    lockoutDisagree m s = lockRecord 0x0681 m { s with io := { s.io with disagreed := true } } := by
  obtain ⟨t, ht, hfirst, hmask, hdue⟩ := occurs_lockoutDisagree h
  simp [lockoutDisagree, ht, hfirst, ← hmask, hdue]

theorem aoShort_occurs (h : Safety.occurs (.aoShort i) s = true) : aoShort i s =
    ttOccur 1 0x09C4 (dkey 0x0D i) [1#8] (s.setAo i { s.ao i with short := true, value := 0 }) := by
  simp only [occurs_aoShort, Bool.and_eq_true, beq_iff_eq, bne_iff_ne] at h
  obtain ⟨⟨hlive, hvolt⟩, hdrives⟩ := h
  simp [aoShort, hlive, hvolt, hdrives]

theorem aoOpen_occurs {b : Bool} (h : Safety.occurs (.aoOpen i b) s = true) : aoOpen i b s =
    (let s1 := s.setAo i { s.ao i with open_ := b }
     if b then ttOccur 1 0x09C4 (dkey 0x0D i) [2#8] s1 else s1) := by
  simp only [occurs_aoOpen, Bool.and_eq_true, bne_iff_ne] at h
  obtain ⟨⟨hlive, hcurrent⟩, hturns⟩ := h
  simp [aoOpen, hlive, hcurrent, hturns]

end

end Sys2Proof.Machine
end

section
/-! The obligation on the rows of LOCKOUT and of the analogue outputs. -/
namespace Sys2Proof.Machine

/-- Settles O34: each row under the condition that brings it about; the end of a force has its condition in each die. -/
theorem lockoutAndAnalogueRowsComplete : Obligations.LockoutAndAnalogueRowsComplete :=
  ⟨fun _ _ h => congrArg Host.Outcome.next (lockoutChange_occurs h),
   fun _ _ => rfl,
   fun _ _ h => congrArg Host.Outcome.next (lockoutDisagree_occurs h),
   fun _ _ h => congrArg Host.Outcome.next (aoShort_occurs h),
   fun _ _ h => congrArg Host.Outcome.next (aoOpen_occurs h),
   fun _ _ h => congrArg Host.Outcome.next (aoOpen_occurs h)⟩

end Sys2Proof.Machine
end

section
/-! SUPPORT. The opcodes of dryers, past the conditions under which each takes effect (R243, R244). -/
namespace Sys2Proof.Machine

/-- A dryer with one more item that waits for its next evaluation (R243, R244). -/
def Dryer.withItem (x : Dryer) (it : DryerItem) : Dryer := { x with items := x.items ++ [it] }

/-- DRYER_MODE's value of dryer `i`, MODE and AUTO_EMPTY in one number, is written (R243). -/
def State.withDryerMode (s : State) (i v : Nat) : State :=
  { s with dryers := { s.dryers with mode := Tbl.wr 0 s.dryers.mode i v } }

section
variable {c : Cmd} {s : State} {k : Nat} (hk : fld c.payload 0 4 = k)
  (hmay : s.mayOperate k c.sess = true) (hen : s.en 0x07 (keyIdx k) = true)
include hk hmay hen

/-- OFF is committed in every state of the dryer. -/
theorem runDryerMode_off (hoff : fld c.payload 4 1 = 0) : runDryerMode c s =
    (commitItem k c.jseq c.sess c.role ((s.withDryerMode (keyIdx k) (256 * fld c.payload 5 1)).setDryer (keyIdx k)
      ((s.dryer (keyIdx k)).withItem { action := 0, mode := 0, st := (s.dryer (keyIdx k)).w.st })), Res.ok []) := by
  subst hk
  simp [runDryerMode, itemGate_passes hmay, hen, hoff, State.withDryerMode, Dryer.withItem]

/-- A start is committed where the dryer is IDLE, its rig fits the mode and IN_ESTOP is not asserted. -/
theorem runDryerMode_starts {mode : Nat} (hmode : fld c.payload 4 1 = mode) (hstart : mode ≠ 0)
    (hidle : (s.dryer (keyIdx k)).w.st = 0) (hfit : dryFit (s.d 0x07 (keyIdx k)) mode = true)
    (hstop : inAsserted s (s.d 0x07 (keyIdx k)) 72 = false) : runDryerMode c s =
    (commitItem k c.jseq c.sess c.role ((s.withDryerMode (keyIdx k) (mode + 256 * fld c.payload 5 1)).setDryer (keyIdx k)
      ((s.dryer (keyIdx k)).withItem { action := 0, mode := mode, st := 0 })), Res.ok []) := by
  subst hk hmode
  simp [runDryerMode, itemGate_passes hmay, hen, hstart, hidle, hfit, hstop, State.withDryerMode, Dryer.withItem]

/-- An ACTION is committed where it is valid in the dryer's state; ACK needs its cause gone. -/
theorem runDryerStep_commits {a : Nat} (ha : fld c.payload 4 1 = a)
    (hvalid : dryValid a (s.dryer (keyIdx k)).w.st = true)
    (hcause : ¬ (a = 4 ∧ dryCauseHolds (s.d 0x07 (keyIdx k)) (dryEnv s (keyIdx k)) (s.dryer (keyIdx k)).w.fault = true)) :
    runDryerStep c s = (commitItem k c.jseq c.sess c.role (s.setDryer (keyIdx k)
      ((s.dryer (keyIdx k)).withItem { action := a, mode := 0, st := (s.dryer (keyIdx k)).w.st })), Res.ok []) := by
  subst hk ha
  simp [runDryerStep, itemGate_passes hmay, hen, hvalid, hcause, Dryer.withItem]

end

/-- A DRYER_STEP that is served and taken leaves its ACTION waiting for the dryer's next evaluation. -/
theorem hostRow_stepTaken {q : Packet} {a : Nat} {s : State} (h : Safety.servable 0x0702 q s = true)
    (ht : Safety.stepTaken q a s = true) : hostRow 0x0702 q s = Safety.stepped q a s := by
  simp only [Safety.stepTaken, Bool.and_eq_true, beq_iff_eq, Bool.not_eq_true', ← Bool.not_eq_true] at ht
  obtain ⟨⟨⟨⟨ha, hmay⟩, hen⟩, hvalid⟩, hcause⟩ := ht
  exact hostRow_finish runDryerStep h rfl (runDryerStep_commits rfl hmay hen ha hvalid hcause)

end Sys2Proof.Machine
end

section
/-! The obligation on the opcodes of dryers. -/
namespace Sys2Proof.Machine

/-- Settles O54: each opcode is served; DRYER_MODE takes effect past its checks, and the five ACTIONs share one lemma. -/
theorem dryerOpcodesResult : Obligations.DryerOpcodesResult :=
  ⟨fun _ _ h hoff hmay hen => congrArg Host.Outcome.next
     (hostRow_finish runDryerMode h rfl (runDryerMode_off rfl hmay hen hoff)),
   fun _ _ h hstart hmay hen hidle hfit hstop => congrArg Host.Outcome.next
     (hostRow_finish runDryerMode h rfl (runDryerMode_starts rfl hmay hen rfl hstart hidle hfit hstop)),
   fun _ _ h ht => congrArg Host.Outcome.next (hostRow_stepTaken h ht),
   fun _ _ h ht => congrArg Host.Outcome.next (hostRow_stepTaken h ht),
   fun _ _ h ht => congrArg Host.Outcome.next (hostRow_stepTaken h ht),
   fun _ _ h ht => congrArg Host.Outcome.next (hostRow_stepTaken h ht),
   fun _ _ h ht => congrArg Host.Outcome.next (hostRow_stepTaken h ht),
   fun _ _ h => congrArg Host.Outcome.next (hostRow_finish runDryerRead h rfl rfl)⟩

end Sys2Proof.Machine
end

section
/-! SUPPORT. The opcodes of routes, past the conditions under which each takes effect (R258 to R263). -/
namespace Sys2Proof.Machine

section
variable {c : Cmd} {s : State} {k : Nat}

/-! ## ROUTE_CLAIM by its ACTION (R258, R259) -/

section
variable (hk : fld c.payload 0 4 = k) (hmay : s.mayOperate k c.sess = true)
include hk hmay

/-- A claim of an Unowned, enabled route that no reservation blocks passes the route to the session. -/
theorem runRouteClaim_claims (hclaim : fld c.payload 4 1 = 1) (hfree : (s.ownOf k).own = 0)
    (hen : s.en 0x08 (keyIdx k) = true) (hblock : claimBlock s (keyIdx k) = none) (hrole : 2 ≤ s.roleOf c.sess c.role) :
    runRouteClaim c s =
      (passObj c.jseq c.sess (s.roleOf c.sess c.role) k s, Res.ok (le 2 0xFFFF ++ le 2 0xFFFF ++ zeros 4)) := by
  subst hk
  simp [runRouteClaim, itemGate_passes hmay, hclaim, hfree, hen, hblock, Nat.not_lt.mpr hrole]

/-- A release of an owned route that does not run makes it Unowned. -/
theorem runRouteClaim_releases (hrelease : fld c.payload 4 1 = 0) (howned : (s.ownOf k).own ≠ 0)
    (hstill : (s.route (keyIdx k)).runs = false) :
    runRouteClaim c s = (releaseObj c.jseq k s, Res.ok (le 2 0xFFFF ++ le 2 0xFFFF ++ zeros 4)) := by
  subst hk
  simp [runRouteClaim, itemGate_passes hmay, hrelease, howned, hstill]

end

/-! ## ROUTE_START and ROUTE_STOP (R261, R263) -/

theorem routeGate_passes (hk : fld c.payload 0 4 = k) (hmay : s.mayOperate k c.sess = true)
    (howned : (s.ownOf k).own ≠ 0) (hen : s.en 0x08 (keyIdx k) = true) : routeGate c s = 0 := by
  subst hk
  simp [routeGate, itemGate_passes hmay, howned, hen]

section
variable {r : Nat} (hgate : routeGate c s = 0) (hr : keyIdx (fld c.payload 0 4) = r)
include hgate hr

/-- A start is committed where the route is STOPPED, ESTOP is not asserted and no output of its elements has a fault. -/
theorem runRouteStart_commits (hstopped : (s.route r).w.st = 0) (hestop : inAsserted s (s.d 0x08 r) 88 = false)
    (hout : routeOutFault s r = false) : runRouteStart c s = routeCommit c 0 s := by
  subst hr
  simp [runRouteStart, hgate, hstopped, hestop, hout]

/-- NORMAL is committed from STOPPED to FEED_HOLD. -/
theorem runRouteStop_normal (hmode : fld c.payload 4 1 = 0) (hst : (s.route r).w.st ≤ 5) :
    runRouteStop c s = routeCommit c 1 s := by
  subst hr
  simp [runRouteStop, hgate, hmode, hst]

/-- QUICK is committed from POSITIONING to FAULT_STOPPING. -/
theorem runRouteStop_quick (hmode : fld c.payload 4 1 = 1) (hst : [1, 2, 3, 4, 5, 6].contains (s.route r).w.st = true) :
    runRouteStop c s = routeCommit c 2 s := by
  subst hr
  simp only [runRouteStop, hgate, hmode, hst, ne_eq, not_true_eq_false, Bool.not_true, Bool.false_eq_true, if_false]

/-- ACK is committed in FAULT once ESTOP is released and no fault condition holds. -/
theorem runRouteStop_ack (hmode : fld c.payload 4 1 = 2) (hst : (s.route r).w.st = 7)
    (hestop : inAsserted s (s.d 0x08 r) 88 = false) (hholds : routeHolds s r = false) :
    runRouteStop c s = routeCommit c 3 s := by
  subst hr
  simp [runRouteStop, hgate, hmode, hst, hestop, hholds]

end

end

theorem routeGate_of_routeTaken {op : Nat} {q : Packet} {s : State} (ht : Safety.routeTaken op q s = true) :
    routeGate (Safety.cmdOf op q s) (Safety.before op q s) = 0 := by
  simp only [Safety.routeTaken, Bool.and_eq_true, bne_iff_ne] at ht
  obtain ⟨⟨hmay, howned⟩, hen⟩ := ht
  exact routeGate_passes rfl hmay howned hen

/-- A command of a route that is served and commits its item leaves the item waiting for the route's next evaluation. -/
theorem hostRow_routed {op it : Nat} {q : Packet} {s : State} (run : Cmd → State → State × Res)
    (h : Safety.servable op q s = true) (hop : (opSpec op).map OpSpec.run = some run)
    (hrun : run (Safety.cmdOf op q s) (Safety.before op q s) = routeCommit (Safety.cmdOf op q s) it (Safety.before op q s))
    (hello : op ≠ 0x0101 := by decide) (auth : op ≠ 0x0102 := by decide) :
    hostRow op q s = Safety.routed op q it s :=
  hostRow_finish run h hop hrun rfl hello auth

end Sys2Proof.Machine
end

section
/-! The obligation on the opcodes of routes. -/
namespace Sys2Proof.Machine

/-- Settles O55: each opcode is served; ROUTE_CLAIM takes effect past its checks, and a start and the three stops, past the
gate of routes, commit their items. -/
theorem routeOpcodesResult : Obligations.RouteOpcodesResult :=
  ⟨fun _ _ h hclaim hmay hfree hen hblock hrole => congrArg Host.Outcome.next
     (hostRow_finish runRouteClaim h rfl (runRouteClaim_claims rfl hmay hclaim hfree hen hblock hrole)),
   fun _ _ h hrelease hmay howned hstill => congrArg Host.Outcome.next
     (hostRow_finish runRouteClaim h rfl (runRouteClaim_releases rfl hmay hrelease howned hstill)),
   fun _ _ h ht hst hestop hout => congrArg Host.Outcome.next
     (hostRow_routed runRouteStart h rfl (runRouteStart_commits (routeGate_of_routeTaken ht) rfl hst hestop hout)),
   fun _ _ h ht hmode hst => congrArg Host.Outcome.next
     (hostRow_routed runRouteStop h rfl (runRouteStop_normal (routeGate_of_routeTaken ht) rfl hmode hst)),
   fun _ _ h ht hmode hst => congrArg Host.Outcome.next
     (hostRow_routed runRouteStop h rfl (runRouteStop_quick (routeGate_of_routeTaken ht) rfl hmode hst)),
   fun _ _ h ht hmode hst hestop hholds => congrArg Host.Outcome.next
     (hostRow_routed runRouteStop h rfl (runRouteStop_ack (routeGate_of_routeTaken ht) rfl hmode hst hestop hholds)),
   fun _ _ h => congrArg Host.Outcome.next (hostRow_finish runRouteRead h rfl rfl)⟩

end Sys2Proof.Machine
end

section
/-! SUPPORT. The rows of the front end, past the conditions under which they come about (R272, R277 to R281). -/
namespace Sys2Proof.Machine

/-! ## When they come about -/

theorem occurs_scanPlaneStep (c : Nat) (s : State) : Safety.occurs (.scanPlaneStep c) s
    = (s.afeUp && !(s.conv c).stuck && !(s.conv c).busy && (Safety.nextScan c s).isSome) := rfl

theorem occurs_scanSwitchStuck (c : Nat) (s : State) : Safety.occurs (.scanSwitchStuck c) s
    = (s.afeUp && !(s.conv c).stuck && (s.conv c).cur.isSome) := rfl

theorem occurs_excOpen (r : Nat) (s : State) : Safety.occurs (.excOpen r) s
    = (s.afeLive r && s.inStep r && fld (s.afd r) 2 1 != 0xFF && !(keyType r == 0x0F && (s.afe r).exc == 3)) := rfl

/-- A source's short comes about under the condition of its open circuit: the source is on. -/
theorem occurs_excShort (r : Nat) (s : State) : Safety.occurs (.excShort r) s = Safety.occurs (.excOpen r) s := rfl

theorem occurs_inputCommonMode (r : Nat) (s : State) : Safety.occurs (.inputCommonMode r) s
    = (s.afeLive r && s.inStep r && (s.afe r).range != 8) := rfl

theorem occurs_shuntOvercurrent (r : Nat) (s : State) : Safety.occurs (.shuntOvercurrent r) s
    = (s.afeLive r && afeMeas (s.afd r) == 3 && !(s.afe r).shuntOpen) := rfl

theorem occurs_rangeClip (r : Nat) (second : Bool) (s : State) : Safety.occurs (.rangeClip r second) s
    = (s.afeLive r && s.inStep r && !afeAuto (s.afd r)) := rfl

theorem occurs_afeCalibration (s : State) : Safety.occurs .afeCalibration s
    = (s.pwr.phase != .cold && s.start.afeCalibrating
      && s.due ((Tbl.rd Domain.dflt s.pwr.domains 9).at_ + 60000)) := rfl

/-- A retry comes about for a direct channel whose source a short holds off, once its wait is over. -/
theorem occurs_excRetry {r : Nat} {s : State} (h : Safety.occurs (.excRetry r) s = true) :
    ∃ t again, (s.afe r).shortAt = some (t, again) ∧ s.afeLive r = true ∧ keyType r = 0x0F ∧ (s.afe r).exc = 3
      ∧ s.due (t + (if again then 1000000 else 100000)) = true := by
  simp only [Safety.occurs] at h
  split at h
  next t again ht =>
    simp only [Bool.and_eq_true, beq_iff_eq] at h
    obtain ⟨⟨⟨hlive, hdirect⟩, hshort⟩, hdue⟩ := h
    exact ⟨t, again, ht, hlive, hdirect, hshort, hdue⟩
  next => contradiction

/-- A channel goes stale whose latest result had a value, STALE_MS after that result. -/
theorem occurs_channelStale {r : Nat} {s : State} (h : Safety.occurs (.channelStale r) s = true) :
    ∃ t, (s.afe r).goodAt = some t ∧ s.afeLive r = true ∧ fld (s.afd r) 30 2 ≠ 0
      ∧ ((s.afe r).qual = 1 ∨ (s.afe r).qual = 2 ∨ (s.afe r).qual = 3)
      ∧ s.due (t + fld (s.afd r) 30 2 * 1000) = true := by
  simp only [Safety.occurs] at h
  split at h
  next t ht =>
    simp only [Bool.and_eq_true, bne_iff_ne, List.contains_eq_mem, List.mem_cons, List.not_mem_nil, or_false,
      decide_eq_true_eq] at h
    obtain ⟨⟨⟨hlive, hms⟩, hqual⟩, hdue⟩ := h
    exact ⟨t, ht, hlive, hms, hqual, hdue⟩
  next => contradiction

/-! ## The scan plane (R277, R278) -/

section
variable {c i : Nat} {s : State}

theorem scanPlaneStep_occurs (h : Safety.occurs (.scanPlaneStep c) s = true) (hi : Safety.nextScan c s = some i) :
    scanPlaneStep c s = (s.setConv c { s.conv c with
        cur := some i, prev := (s.conv c).cur, t0 := s.aon.nowUs, busy := true }).setAfe (dkey 0x10 i)
      { s.afe (dkey 0x10 i) with restarts := 0, second := false } := by
  simp only [occurs_scanPlaneStep, Bool.and_eq_true, Bool.not_eq_true'] at h
  obtain ⟨⟨⟨hup, hscans⟩, hidle⟩, -⟩ := h
  unfold Safety.nextScan at hi
  unfold scanPlaneStep
  rw [if_neg (by simp [hup, hscans, hidle])]
  cases hcur : (s.conv c).cur with
  | none =>
    simp only [hcur] at hi
    simp only [hi]
  | some j =>
    simp only [hcur] at hi
    simp only [hi]

theorem scanSwitchStuck_occurs (h : Safety.occurs (.scanSwitchStuck c) s = true) (hi : (s.conv c).cur = some i) :
    scanSwitchStuck c s = forAll (s.scanList c)
      (fun j st => judgeAll (dkey 0x10 j) (setQual (dkey 0x10 j) 5 st))
      (ttOccur 1 0x0AC1 (dkey 0x10 i) [BitVec.ofNat 8 c]
        (s.setConv c { s.conv c with stuck := true, busy := false })) := by
  simp only [occurs_scanSwitchStuck, Bool.and_eq_true, Bool.not_eq_true'] at h
  obtain ⟨⟨hup, hscans⟩, -⟩ := h
  simp [scanSwitchStuck, hi, hup, hscans]

end

/-! ## Sources, wiring and ranges (R278 to R281) -/

section
variable {r : Nat} {s : State}

theorem excOpen_occurs (h : Safety.occurs (.excOpen r) s = true) :
    excOpen r s = faultResult r 4 (s.setAfe r { s.afe r with exc := 2 }) :=
  if_neg (by simpa [occurs_excOpen, Decidable.imp_iff_not_or] using h)

theorem excShort_occurs (h : Safety.occurs (.excShort r) s = true) :
    excShort r s = forAll (s.sharers r) (fun k st => faultResult k 4 (st.setAfe k { st.afe k with
      exc := 3, shortAt := some (s.aon.nowUs, (s.afe r).exc == 4) })) s :=
  if_neg (by simpa [occurs_excShort, occurs_excOpen, Decidable.imp_iff_not_or] using h)

theorem excRetry_occurs (h : Safety.occurs (.excRetry r) s = true) :
    excRetry r s = forAll (s.sharers r) (fun k st => st.setAfe k { st.afe k with exc := 4 }) s := by
  obtain ⟨t, again, ht, hlive, hdirect, hshort, hdue⟩ := occurs_excRetry h
  simp [excRetry, ht, hlive, hdirect, hshort, hdue]

theorem inputCommonMode_occurs (h : Safety.occurs (.inputCommonMode r) s = true) :
    inputCommonMode r s = faultResult r 5 s :=
  if_pos (by simpa [occurs_inputCommonMode] using h)

theorem shuntOver_occurs (h : Safety.occurs (.shuntOvercurrent r) s = true) :
    shuntOver r s = faultResult r 5 (s.setAfe r { s.afe r with shuntOpen := true }) :=
  if_pos (by simpa [occurs_shuntOvercurrent] using h)

/-- An overload of a channel that does not range by itself is a fault of its wiring. -/
theorem rangeClip_occurs {second : Bool} (h : Safety.occurs (.rangeClip r second) s = true) :
    rangeClip r second s = faultResult r 5 s := by
  simp only [occurs_rangeClip, Bool.and_eq_true, Bool.not_eq_true'] at h
  obtain ⟨⟨hlive, hstep⟩, hfixed⟩ := h
  simp [rangeClip, hlive, hstep, hfixed]

theorem channelStale_occurs (h : Safety.occurs (.channelStale r) s = true) :
    channelStale r s = judgeAll r (setQual r 6 s) := by
  obtain ⟨t, ht, hlive, hms, hqual, hdue⟩ := occurs_channelStale h
  simp [channelStale, ht, hlive, hms, or_assoc, hqual, hdue]

theorem afeCalibration_occurs (h : Safety.occurs .afeCalibration s = true) :
    afeCalibration s =
      (let s1 : State := { s with start := { s.start with afeCalibrating := false }, io := { s.io with convs := [] } }
       if s1.up && s1.rdy 4 then s1.setRdy 9 else s1) := by
  simp only [occurs_afeCalibration, Bool.and_eq_true, bne_iff_ne] at h
  obtain ⟨⟨hpowered, hruns⟩, hdue⟩ := h
  exact if_neg (by simp [hpowered, hruns, hdue])

end

/-! ## Results (R275, R276, R279, R281) -/

/-- The curve a channel names (R276). -/
def State.curve (s : State) (r : Nat) : Bytes := s.d 0x22 (fld (s.afd r) 18 2)

/-- The state in which a result that found no open input is judged: what its test and its source came to is written. -/
def State.tested (s : State) (r : Nat) : State :=
  s.setAfe r { s.afe r with
    openIn := if s.testRuns r then false else (s.afe r).openIn, tests := ((s.afe r).tests + 1) % 16
    exc := if fld (s.afd r) 2 1 = 0xFF then 0 else 1, shortAt := none }

section
variable {r : Nat} {s : State}

/-- A channel that converts runs in its own step, with its source not held off and its step over. -/
theorem converts_iff : Safety.converts r s = true ↔
    s.afeLive r = true ∧ s.inStep r = true ∧ (keyType r = 0x0F → (s.afe r).shortAt.isSome = true → (s.afe r).exc ≠ 3)
      ∧ (keyType r = 0x10 → s.due ((s.conv (afeConv (s.afd r))).t0 + stepNs (s.afd r) / 1000) = true) := by
  simp [Safety.converts, and_assoc, Decidable.imp_iff_not_or, or_assoc]

/-- A reading fits a current loop where neither fault of R279 stands against it. -/
theorem loopFits_iff {x : Rat} : Safety.loopFits r x s = true ↔
    (afeMeas (s.afd r) = 3 → (s.afe r).shuntOpen = true → ¬ 25 ≤ ratMag x)
      ∧ (afeMeas (s.afd r) = 3 → fld (s.curve r) 1 1 = 9 → ¬ (x < 36 / 10 ∨ 21 < x)) := by
  by_cases hcur : afeMeas (s.afd r) = 3 <;> simp [Safety.loopFits, State.curve, hcur, Decidable.imp_iff_not_or]

end

/-- x of a result with the readings `a` and `b` (R275, R276). -/
def State.resultX (s : State) (y : ConvIn) (a b : Rat) : Rat := afeX (s.afd y.ref) (afeHalves (s.afd y.ref) a b)

/-- What the curve gives for the readings `a` and `b`, with the cold junction's own value where the channel names one. -/
def State.curveValue (s : State) (y : ConvIn) (a b : Rat) : Option (Int × Bool) :=
  sensorCurve (s.curve y.ref) (f32Of (s.resultX y a b))
    (if fld (s.afd y.ref) 20 4 = 0 then y.landTemp else (s.afe (fld (s.afd y.ref) 20 4)).value)

/-- The readings `a` and `b` make a GOOD result, as far as its curve gives a value: the channel converts, and no fault, no
overload, no settling range and no cold junction's quality stands against them. -/
structure GoodReading (y : ConvIn) (a b : Rat) (s : State) : Prop where
  first : f32 y.first.toNat = some a
  second : (if afeSwap (s.afd y.ref) then f32 y.second.toNat else some 0) = some b
  converts : Safety.converts y.ref s = true
  closed : (s.testRuns y.ref && s.pinOpen y.ref y.moved) = false
  loop : Safety.loopFits y.ref (s.resultX y a b) s = true
  firstRanged : ratMag a ≤ afeFull (s.afd y.ref) (s.afe y.ref).range
  secondRanged : afeSwap (s.afd y.ref) = true → ratMag b ≤ afeFull (s.afd y.ref) (s.afe y.ref).range
  settled : (s.afe y.ref).settle = false
  junction : 2 ≤ fld (s.curve y.ref) 1 1 → fld (s.curve y.ref) 1 1 ≤ 6 → fld (s.afd y.ref) 20 4 ≠ 0 →
    s.afeQual (fld (s.afd y.ref) 20 4) = 1

section
variable {y : ConvIn} {s : State}

/-- A GOOD value is what the channel's curve makes of two such readings. -/
theorem goodValue_some {w : Nat × Rat × Int × Bool} (h : Safety.goodValue y s = some w) :
    ∃ a b o, GoodReading y a b s ∧ s.curveValue y a b = some o
      ∧ w = (f32Of (s.resultX y a b), ratMag (afeHalves (s.afd y.ref) a b), o) := by
  unfold Safety.goodValue at h
  dsimp only at h
  split at h
  next a b ha hb =>
    split at h
    next hgood =>
      obtain ⟨o, ho, hw⟩ := Option.map_eq_some_iff.mp h
      simp only [Bool.and_eq_true, Bool.not_eq_true', decide_eq_true_eq] at hgood
      obtain ⟨⟨⟨⟨⟨⟨hconv, hclosed⟩, hloop⟩, hfirst⟩, hsecond⟩, hsettled⟩, hjunction⟩ := hgood
      exact ⟨a, b, o, ⟨ha, hb, hconv, hclosed, hloop, hfirst, by simpa [Rat.not_lt] using hsecond, hsettled,
        by simpa [State.curve, Decidable.imp_iff_not_or, or_assoc] using hjunction⟩, ho, hw.symm⟩
    next => contradiction
  next => contradiction

theorem conversionResult_good {a b : Rat} {o : Int × Bool} (g : GoodReading y a b s) (ho : s.curveValue y a b = some o) :
    conversionResult y s = goodResult y.ref (f32Of (s.resultX y a b))
      (ratMag (afeHalves (s.afd y.ref) a b)) o.1 o.2 (s.tested y.ref) := by
  obtain ⟨hlive, hstep, hheld, hdue⟩ := converts_iff.mp g.converts
  obtain ⟨hshunt, hspan⟩ := loopFits_iff.mp g.loop
  unfold State.curveValue State.curve State.resultX at ho
  unfold conversionResult
  dsimp only
  rw [if_neg (by simpa [hlive, hstep, Decidable.imp_iff_not_or, or_assoc] using And.intro hheld hdue)]
  simp only [g.first, g.second]
  rw [if_neg (by simp [g.closed]), if_neg (by simpa [State.resultX] using hshunt),
    if_neg (by simpa [State.curve, State.resultX] using hspan),
    if_neg (by simpa [Rat.not_lt] using And.intro g.firstRanged g.secondRanged), if_neg (by simp [g.settled]),
    if_neg (by simpa [State.curve] using g.junction)]
  simp only [ho, g.closed]
  rfl

theorem conversionResult_occurs {x : Nat} {sig : Rat} {v : Int} {o : Bool} (h : Safety.goodValue y s = some (x, sig, v, o)) :
    conversionResult y s = goodResult y.ref x sig v o (s.tested y.ref) := by
  obtain ⟨a, b, w, g, hcurve, hw⟩ := goodValue_some h
  simp only [Prod.ext_iff] at hw
  obtain ⟨hx, hsig, hv, ho⟩ := hw
  rw [conversionResult_good g hcurve, hx, hsig, hv, ho]

end

end Sys2Proof.Machine
end

section
/-! The obligation on the rows of the front end. -/
namespace Sys2Proof.Machine

/-- Settles O35: each row under the condition that brings it about; a conversion's by the readings that make it GOOD. -/
theorem frontEndRowsComplete : Obligations.FrontEndRowsComplete :=
  ⟨fun _ _ _ h hi => congrArg Host.Outcome.next (scanPlaneStep_occurs h hi),
   fun _ _ _ _ _ _ _ hgood => congrArg Host.Outcome.next (conversionResult_occurs hgood),
   fun _ _ _ h hi => congrArg Host.Outcome.next (scanSwitchStuck_occurs h hi),
   fun _ _ h => congrArg Host.Outcome.next (excOpen_occurs h),
   fun _ _ h => congrArg Host.Outcome.next (excShort_occurs h),
   fun _ _ h => congrArg Host.Outcome.next (excRetry_occurs h),
   fun _ _ h => congrArg Host.Outcome.next (inputCommonMode_occurs h),
   fun _ _ h => congrArg Host.Outcome.next (shuntOver_occurs h),
   fun _ _ _ h => congrArg Host.Outcome.next (rangeClip_occurs h),
   fun _ _ h => congrArg Host.Outcome.next (channelStale_occurs h),
   fun _ h => congrArg Host.Outcome.next (afeCalibration_occurs h),
   fun _ _ _ => rfl⟩

end Sys2Proof.Machine
end

section
/-! SUPPORT. When the rows of the 24 V channels come about: the condition that `Safety.occurs` gives each. -/
namespace Sys2Proof.Machine

theorem occurs_dioInputChange (i : Nat) (land : Bool) (s : State) : Safety.occurs (.dioInputChange i land) s
    = (s.dioLive i && (s.dio i).land != land && !(s.dio i).first && s.due ((s.dio i).agreeAt + s.dioFilterUs i)) := rfl

theorem occurs_dioOverload (i mA : Nat) (s : State) : Safety.occurs (.dioOverload i mA) s
    = (s.dioOut i && (s.dio i).on && decide (750 ≤ mA) && s.due ((s.dio i).onAt + 1000 * s.df 0x0C i 8 2)) := rfl

theorem occurs_dioThermal (i mA : Nat) (s : State) : Safety.occurs (.dioThermal i mA) s
    = (s.dioOut i && !dioHeld (s.dio i)) := rfl

theorem occurs_dioRetry (i : Nat) (hot : Bool) (s : State) : Safety.occurs (.dioRetry i hot) s
    = (s.dioOut i && !(s.dio i).latched && ((s.dio i).fault == 1 || (s.dio i).fault == 2)
        && s.due ((s.dio i).tripAt + 1000000)) := rfl

theorem occurs_dioGroupShed (g mA : Nat) (s : State) : Safety.occurs (.dioGroupShed g mA) s
    = (s.pwr.phase != .cold && decide (g < 4) && decide (6000 < mA) && (s.dgrp g).shedAt.isNone) := rfl

theorem occurs_dioReadbackHigh (i : Nat) (s : State) : Safety.occurs (.dioReadbackHigh i) s
    = (s.dioOut i && !(s.dio i).on && s.due ((s.dio i).offAt + 10000)) := rfl

theorem occurs_dioExtSupplyEnd (i : Nat) (s : State) : Safety.occurs (.dioExtSupplyEnd i) s
    = (s.pwr.phase != .cold && !(s.dio i).on && Safety.longOff (s.dio i).offAt (s.dio i).highAt s) := rfl

theorem occurs_dioOpenFlag (i : Nat) (o : Bool) (s : State) : Safety.occurs (.dioOpenFlag i o) s
    = (s.dioOut i && (if o then (s.dio i).on && s.db 0x0C i 1 5 1 == 1 && decide ((s.dio i).mA < 2)
          && s.due (max (s.dio i).onAt (s.dio i).mAAt + 100000)
        else !(s.dio i).on || (decide (2 ≤ (s.dio i).mA) && s.due (max (s.dio i).onAt (s.dio i).mAAt + 100000)))) := rfl

theorem occurs_dioSupplyLow (g cV : Nat) (s : State) : Safety.occurs (.dioSupplyLow g cV) s
    = (s.pwr.phase != .cold && decide (g < 4) && (decide (cV < 1000) || decide (1050 ≤ cV))) := rfl

/-- A pulse of a readback test ends where a test runs, 300 µs after the pulse began (R301). -/
theorem occurs_parallelTestPulse {i a : Nat} {rest : List Nat} {fell : Bool} {s : State}
    (h : Safety.occurs (.parallelTestPulse i fell) s = true) (ht : (s.dio i).test = some (a :: rest)) :
    s.due ((s.dio i).pulseAt + 300) = true := by
  simpa only [Safety.occurs, ht] using h

/-- A series of retries ends 60 s after its first trip (R298). -/
theorem occurs_dioRetrySeriesEnd {i : Nat} {s : State} (h : Safety.occurs (.dioRetrySeriesEnd i) s = true) :
    ∃ t, (s.dio i).seriesAt = some t ∧ s.due (t + 60000000) = true := by
  simp only [Safety.occurs] at h
  split at h
  next t ht => exact ⟨t, ht, h⟩
  next => contradiction

end Sys2Proof.Machine
end

section
/-! SUPPORT. The rows of the 24 V channels, past the conditions under which they come about (R296 to R301). -/
namespace Sys2Proof.Machine

section
variable {i g mA : Nat} {s : State}

theorem dioInputChange_occurs {land : Bool} (h : Safety.occurs (.dioInputChange i land) s = true) :
    dioInputChange i land s = (let s1 := s.setDio i { s.dio i with land := land, comp := land, agreeAt := s.aon.nowUs }
      if !s.dioLand i && s1.dioLand i then s1.setDio i { s1.dio i with edges := ((s1.dio i).edges + 1) % 4294967296 }
      else s1) := by
  simp only [occurs_dioInputChange, Bool.and_eq_true, bne_iff_ne, Bool.not_eq_true'] at h
  obtain ⟨⟨⟨hlive, hland⟩, hlater⟩, hdue⟩ := h
  simp [dioInputChange, hlive, hland, hlater, hdue]

theorem dioOverload_occurs (h : Safety.occurs (.dioOverload i mA) s = true) : dioOverload i mA s = dioTrip i 1 mA s :=
  if_pos (occurs_dioOverload i mA s ▸ h)

theorem dioThermal_occurs (h : Safety.occurs (.dioThermal i mA) s = true) :
    dioThermal i mA s = (dioTrip i 2 mA s).setDio i { (dioTrip i 2 mA s).dio i with hot := true } :=
  if_pos (occurs_dioThermal i mA s ▸ h)

theorem dioRetry_occurs {hot : Bool} (h : Safety.occurs (.dioRetry i hot) s = true) :
    dioRetry i hot s = if (s.dio i).fault = 2 && hot then s.setDio i { s.dio i with hot := true }
      else (let run := seriesNow (s.dio i).seriesAt s.aon.nowUs
            driveDio i (s.setDio i { s.dio i with
              fault := 0, hot := hot, seriesAt := run, retries := if run.isSome then (s.dio i).retries + 1 else 0 })) := by
  simp only [occurs_dioRetry, Bool.and_eq_true, Bool.not_eq_true'] at h
  obtain ⟨⟨⟨hout, hopen⟩, hfault⟩, hdue⟩ := h
  exact if_neg (by simp [hout, hopen, hfault, hdue])

/-- With one output of the group on, that one is shed. -/
theorem dioGroupShed_occurs (h : Safety.occurs (.dioGroupShed g mA) s = true)
    (hon : ((List.range 24).map (fun j => 24 * g + j)).filter (fun i => s.dioOut i && (s.dio i).on) = [i]) :
    dioGroupShed g mA s = dioTrip i 3 (s.dio i).mA (s.setDgrp g { s.dgrp g with shedAt := some s.aon.nowUs }) := by
  simp only [occurs_dioGroupShed, Bool.and_eq_true, bne_iff_ne, decide_eq_true_eq, Option.isNone_iff_eq_none] at h
  obtain ⟨⟨⟨hphase, hgroup⟩, hsum⟩, hfirst⟩ := h
  unfold dioGroupShed
  dsimp only
  rw [if_neg (by simp [hphase, Nat.not_le.mpr hgroup, Nat.not_le.mpr hsum, hfirst]), hon]
  rfl

theorem dioReadbackHigh_occurs (h : Safety.occurs (.dioReadbackHigh i) s = true) :
    dioReadbackHigh i s = (let s1 := s.setDio i { s.dio i with high := true, highAt := s.aon.nowUs }
      if (s.dio i).fault = 0 && (s.dio i).test.isNone then startTest i s1 else s1) := by
  simp only [occurs_dioReadbackHigh, Bool.and_eq_true, Bool.not_eq_true'] at h
  obtain ⟨⟨hout, hoff⟩, hdue⟩ := h
  exact if_neg (by simp [hout, hoff, hdue])

theorem dioExtEnd_occurs (h : Safety.occurs (.dioExtSupplyEnd i) s = true) :
    dioExtEnd i s = s.setDio i { s.dio i with
      high := false, fault := if (s.dio i).fault = 4 || (s.dio i).fault = 5 then 0 else (s.dio i).fault, test := none } := by
  simp only [occurs_dioExtSupplyEnd, Safety.longOff, Bool.and_eq_true, Bool.not_eq_true'] at h
  obtain ⟨⟨hphase, hoff⟩, hoffDue, hlowDue⟩ := h
  exact if_pos (by simp [hphase, hoff, hoffDue, hlowDue])

theorem dioOpenFlag_occurs {o : Bool} (h : Safety.occurs (.dioOpenFlag i o) s = true) :
    dioOpenFlag i o s = s.setDio i { s.dio i with open_ := o } := by
  rw [occurs_dioOpenFlag, Bool.and_eq_true] at h
  obtain ⟨hout, hflag⟩ := h
  unfold dioOpenFlag
  rw [if_neg (by simp [hout])]
  cases o with
  | true => exact (if_pos rfl).trans (if_pos (by simpa using hflag))
  | false => exact (if_neg Bool.false_ne_true).trans (if_pos (by simpa using hflag))

/-- A reading below 10 V sets the group's LOW, and one of 10.5 V or more clears it. -/
theorem dioSupplyLow_occurs {cV : Nat} (h : Safety.occurs (.dioSupplyLow g cV) s = true) :
    dioSupplyLow g cV s = (let s1 : State := { s with pwr := { s.pwr with vdio := Tbl.wr 0 s.pwr.vdio g cV } }
      s1.setDgrp g { s1.dgrp g with low := decide (cV < 1000) }) := by
  simp only [occurs_dioSupplyLow, Bool.and_eq_true, Bool.or_eq_true, bne_iff_ne, decide_eq_true_eq] at h
  obtain ⟨⟨hphase, hgroup⟩, hreading⟩ := h
  unfold dioSupplyLow
  rw [if_neg (by simp [hphase, hgroup])]
  rcases hreading with hlow | hhigh
  · simp [hlow]
  · simp [hhigh, show ¬ cV < 1000 by omega]

theorem testPulse_occurs {a : Nat} {rest : List Nat} {fell : Bool}
    (h : Safety.occurs (.parallelTestPulse i fell) s = true) (ht : (s.dio i).test = some (a :: rest)) :
    testPulse i fell s = if fell && !s.dioTestBar a then nextTest i (dioVerdict i (some a) s)
      else if rest.isEmpty then nextTest i (dioVerdict i none s)
      else s.setDio i { s.dio i with test := some rest, pulseAt := (s.dio i).pulseAt + 1300 } := by
  simp only [testPulse, ht, occurs_parallelTestPulse h ht, Bool.not_true, Bool.false_eq_true, if_false]

theorem dioSeriesEnd_occurs (h : Safety.occurs (.dioRetrySeriesEnd i) s = true) :
    dioSeriesEnd i s = s.setDio i { s.dio i with seriesAt := none, retries := 0 } := by
  obtain ⟨t, ht, hdue⟩ := occurs_dioRetrySeriesEnd h
  simp only [dioSeriesEnd, ht, hdue, if_true]

end

end Sys2Proof.Machine
end

section
/-! The obligation on the rows of the 24 V channels. -/
namespace Sys2Proof.Machine

/-- Settles O36: each row under the condition that brings it about, and what a trip leaves. -/
theorem dioRowsComplete : Obligations.DioRowsComplete :=
  ⟨fun _ _ _ h => congrArg Host.Outcome.next (dioInputChange_occurs h),
   fun _ _ _ h => congrArg Host.Outcome.next (dioOverload_occurs h),
   fun _ _ _ h => congrArg Host.Outcome.next (dioThermal_occurs h),
   fun _ _ _ h => congrArg Host.Outcome.next (dioRetry_occurs h),
   fun _ _ _ _ h hon => congrArg Host.Outcome.next (dioGroupShed_occurs h hon),
   fun _ _ h => congrArg Host.Outcome.next (dioReadbackHigh_occurs h),
   fun _ _ h => congrArg Host.Outcome.next (dioExtEnd_occurs h),
   fun _ _ _ h => congrArg Host.Outcome.next (dioOpenFlag_occurs h),
   fun _ _ _ h => congrArg Host.Outcome.next (dioSupplyLow_occurs h),
   fun _ _ _ _ _ h ht => congrArg Host.Outcome.next (testPulse_occurs h ht),
   fun _ _ h => congrArg Host.Outcome.next (dioSeriesEnd_occurs h),
   fun _ _ _ _ => rfl⟩

end Sys2Proof.Machine
end

section
/-! SUPPORT. When the rows of loads and of banks come about: the condition that `Safety.occurs` gives each. -/
namespace Sys2Proof.Machine

theorem occurs_fuseModelStep (q : List (Nat × Nat)) (s : State) : Safety.occurs (.fuseModelStep q) s
    = (s.pwr.phase != .cold && s.due (s.io.fuseAt + 1000)) := rfl

theorem occurs_loadShort (i : Nat) (hit : ClampIn) (s : State) : Safety.occurs (.loadShort i hit) s
    = (s.loadLive i && (s.load i).on && decide (13500 ≤ hit.mA)) := rfl

theorem occurs_loadThermal (i mA : Nat) (s : State) : Safety.occurs (.loadThermal i mA) s
    = (s.loadLive i && !loadHeld (s.load i)) := rfl

theorem occurs_loadRetry (i : Nat) (hot : Bool) (s : State) : Safety.occurs (.loadRetry i hot) s
    = (s.loadLive i && !(s.load i).latched && ((s.load i).fault == 1 || (s.load i).fault == 3)
        && s.due ((s.load i).tripAt + 1000000)) := rfl

theorem occurs_loadReverse (i mA : Nat) (s : State) : Safety.occurs (.loadReverse i mA) s
    = (s.loadLive i && (s.load i).on) := rfl

theorem occurs_loadExtSupply_high (i : Nat) (s : State) : Safety.occurs (.loadExtSupply i true) s
    = (s.loadLive i && !(s.load i).on && ((s.bank (i / 12)).st != 1 && s.due ((s.load i).offAt + 20000)
        && (s.load i).fault == 0 && !((s.out (dkey 0x0B i)).sel == 1 && (s.out (dkey 0x0B i)).row != 1))) := rfl

theorem occurs_loadExtSupply_low (i : Nat) (s : State) : Safety.occurs (.loadExtSupply i false) s
    = (s.loadLive i && !(s.load i).on && Safety.longOff (s.load i).offAt (s.load i).highAt s) := rfl

theorem occurs_loadOpenFlag (i : Nat) (o : Bool) (s : State) : Safety.occurs (.loadOpenFlag i o) s
    = (s.loadLive i && (s.bank (i / 12)).st == 0 && (if o then (s.load i).on && s.db 0x0B i 0 4 1 == 1
          && decide ((s.load i).mA < fld (s.ld i) 12 2) && s.due (max (s.load i).onAt (s.load i).mAAt + 100000)
        else !(s.load i).on || (!decide ((s.load i).mA < fld (s.ld i) 12 2)
          && s.due (max (s.load i).onAt (s.load i).mAAt + 100000)))) := rfl

theorem occurs_channelRestartDelay (i : Nat) (s : State) : Safety.occurs (.channelRestartDelay i) s = s.loadLive i := rfl

/-- A series of retries ends 60 s after its first trip (R319). -/
theorem occurs_loadRetrySeriesEnd {i : Nat} {s : State} (h : Safety.occurs (.loadRetrySeriesEnd i) s = true) :
    ∃ t, (s.load i).seriesAt = some t ∧ s.due (t + 60000000) = true := by
  simp only [Safety.occurs] at h
  split at h
  next t ht => exact ⟨t, ht, h⟩
  next => contradiction

theorem occurs_bankShed (b cA : Nat) (s : State) : Safety.occurs (.bankShed b cA) s
    = (s.pwr.phase != .cold && decide (b < 4) && (s.die (if b < 2 then 2 else 3)).conf && (s.bank b).shedAt.isNone
        && decide (2000 < cA)) := rfl

theorem occurs_moduleShedCheck (l : List Nat) (s : State) : Safety.occurs (.moduleShedCheck l) s
    = (s.up && s.due (s.io.modAt + 100000) && !(s.noBosun 2 && s.noBosun 3)) := rfl

theorem occurs_bankHold (b cV : Nat) (s : State) : Safety.occurs (.bankHold b cV) s
    = (s.bankLive b && (s.bank b).st == 0 && decide (cV < 1000)) := rfl

theorem occurs_bankHoldExit (b cV : Nat) (s : State) : Safety.occurs (.bankHoldExit b cV) s
    = (s.bankLive b && (s.bank b).st == 1 && decide (1050 ≤ cV)) := rfl

theorem occurs_bankUndervoltage (b cV : Nat) (s : State) : Safety.occurs (.bankUndervoltage b cV) s
    = (s.bankLive b && (s.bank b).st == 1 && (decide (cV < 600) || s.due ((s.bank b).at_ + 500000))) := rfl

theorem occurs_bankRestart (b cV : Nat) (s : State) : Safety.occurs (.bankRestart b cV) s
    = (s.bankLive b && decide (1100 ≤ cV) && (s.bank b).st == 2) := rfl

end Sys2Proof.Machine
end

section
/-! SUPPORT. The rows of loads, past the conditions under which they come about (R309, R310, R314, R319, R320). -/
namespace Sys2Proof.Machine

section
variable {i mA : Nat} {s : State}

theorem fuseModelStep_occurs {q : List (Nat × Nat)} (h : Safety.occurs (.fuseModelStep q) s = true) :
    fuseModelStep q s = forAll (s.enabled 0x0B) (fun i st => fuseStep i (Tbl.rd 0 q i) st)
      { s with io := { s.io with fuseAt := s.io.fuseAt + 1000 } } := by
  simp only [occurs_fuseModelStep, Bool.and_eq_true, bne_iff_ne] at h
  obtain ⟨hphase, hdue⟩ := h
  exact if_neg (by simp [hphase, hdue])

/-- The readings of the four banks reach the lamps of the four banks: a channel beyond them has none. -/
theorem lampUpdate_four {v : List Nat} (h : v.length = 4) (s : State) :
    lampUpdate v s = forAll (s.enabled 0x0B) (fun i st =>
      if st.loadLive i && (st.load i).on && st.db 0x0B i 0 1 1 = 1 && decide (i / 12 < 4) then
        (let w := if (st.bank (i / 12)).st = 1 then 1024 else lampDuty (fld (st.ld i) 16 2) (v.getD (i / 12) 0)
         st.setLoad i { st.load i with duty := w })
      else st) s := by
  unfold lampUpdate
  congr 1
  funext i st
  by_cases hb : i / 12 < 4
  · have hv : v[i / 12]? = some (v.getD (i / 12) 0) := by
      rw [List.getD_eq_getElem?_getD, List.getElem?_eq_getElem (h ▸ hb), Option.getD_some]
    simp only [hv, hb, decide_true, Bool.and_true]
  · have hv : v[i / 12]? = none := List.getElem?_eq_none (by omega)
    simp [hv, hb]

theorem loadShort_occurs {us : Nat} (h : Safety.occurs (.loadShort i { mA := mA, us := us }) s = true) :
    loadShort i mA us s = if s.lampOpen i && (s.load i).clampUs + us < 5000 then
      s.setLoad i { s.load i with clampUs := (s.load i).clampUs + us } else loadTrip i 1 mA s := by
  simp only [occurs_loadShort, Bool.and_eq_true, decide_eq_true_eq] at h
  obtain ⟨⟨hlive, hon⟩, hclamps⟩ := h
  exact if_neg (by simp [hlive, hon, hclamps])

theorem loadThermal_occurs (h : Safety.occurs (.loadThermal i mA) s = true) :
    loadThermal i mA s = (loadTrip i 3 mA s).setLoad i { (loadTrip i 3 mA s).load i with hot := true } :=
  if_pos (occurs_loadThermal i mA s ▸ h)

theorem loadRetry_occurs {hot : Bool} (h : Safety.occurs (.loadRetry i hot) s = true) :
    loadRetry i hot s = if (s.load i).fault = 3 && hot then s.setLoad i { s.load i with hot := true }
      else (let run := seriesNow (s.load i).seriesAt s.aon.nowUs
            driveLoad i (s.setLoad i { s.load i with
              fault := 0, hot := hot, seriesAt := run, retries := if run.isSome then (s.load i).retries + 1 else 0 })) := by
  simp only [occurs_loadRetry, Bool.and_eq_true, Bool.not_eq_true'] at h
  obtain ⟨⟨⟨hlive, hopen⟩, hfault⟩, hdue⟩ := h
  exact if_neg (by simp [hlive, hopen, hfault, hdue])

theorem loadReverse_occurs (h : Safety.occurs (.loadReverse i mA) s = true) :
    loadReverse i mA s = (loadTrip i 6 mA s).setLoad i { (loadTrip i 6 mA s).load i with
      senseCv := max ((loadTrip i 6 mA s).load i).senseCv (Tbl.rd 0 s.pwr.vbb (i / 12) + 51) } :=
  if_pos (occurs_loadReverse i mA s ▸ h)

/-- A foreign supply on an off channel without a fault is a fault of its own, with its record. -/
theorem loadExtSupply_high_occurs (h : Safety.occurs (.loadExtSupply i true) s = true) :
    loadExtSupply i true s = loadRecord2 i 5 (s.load i).rms (s.setLoad i { s.load i with
      fault := 5, ext := true, highAt := s.aon.nowUs, latched := true }) := by
  simp only [occurs_loadExtSupply_high, Bool.and_eq_true, Bool.not_eq_true', beq_iff_eq, bne_iff_ne] at h
  obtain ⟨⟨hlive, hoff⟩, ⟨⟨hbank, hdue⟩, hfault⟩, hsel⟩ := h
  unfold loadExtSupply
  simp [hlive, hoff, hbank, hdue, hfault, hsel]

theorem loadExtSupply_low_occurs (h : Safety.occurs (.loadExtSupply i false) s = true) :
    loadExtSupply i false s = s.setLoad i { s.load i with
      ext := false, fault := if (s.load i).fault = 5 then 0 else (s.load i).fault } := by
  simp only [occurs_loadExtSupply_low, Safety.longOff, Bool.and_eq_true, Bool.not_eq_true'] at h
  obtain ⟨⟨hlive, hoff⟩, hoffDue, hlowDue⟩ := h
  unfold loadExtSupply
  simp [hlive, hoff, hoffDue, hlowDue]

theorem loadOpenFlag_occurs {o : Bool} (h : Safety.occurs (.loadOpenFlag i o) s = true) :
    loadOpenFlag i o s = s.setLoad i { s.load i with open_ := o } := by
  rw [occurs_loadOpenFlag, Bool.and_eq_true, Bool.and_eq_true, beq_iff_eq] at h
  obtain ⟨⟨hlive, hbank⟩, hflag⟩ := h
  unfold loadOpenFlag
  rw [if_neg (by simp [hlive, hbank])]
  cases o with
  | true => exact (if_pos rfl).trans (if_pos (by simpa using hflag))
  | false => exact (if_neg Bool.false_ne_true).trans (if_pos (by simpa using hflag))

theorem restartDelay_occurs (h : Safety.occurs (.channelRestartDelay i) s = true) : restartDelay i s = driveLoad i s :=
  if_pos (occurs_channelRestartDelay i s ▸ h)

theorem loadSeriesEnd_occurs (h : Safety.occurs (.loadRetrySeriesEnd i) s = true) :
    loadSeriesEnd i s = s.setLoad i { s.load i with seriesAt := none, retries := 0 } := by
  obtain ⟨t, ht, hdue⟩ := occurs_loadRetrySeriesEnd h
  simp only [loadSeriesEnd, ht, hdue, if_true]

end

end Sys2Proof.Machine
end

section
/-! SUPPORT. The rows of banks, past the conditions under which they come about (R316 to R318). -/
namespace Sys2Proof.Machine

section
variable {b cA cV : Nat} {s : State}

/-- A bank that has not shed before sheds its newest channel. -/
theorem bankShed_occurs (h : Safety.occurs (.bankShed b cA) s = true) :
    bankShed b cA s = (let s1 := shedLoad (bankChans b) (s.setBank b { s.bank b with cA := cA })
      s1.setBank b { s1.bank b with shedAt := some s.aon.nowUs }) := by
  simp only [occurs_bankShed, Bool.and_eq_true, bne_iff_ne, decide_eq_true_eq, Option.isNone_iff_eq_none] at h
  obtain ⟨⟨⟨⟨hphase, hbank⟩, hconf⟩, hfirst⟩, hsum⟩ := h
  unfold bankShed
  dsimp only
  rw [if_neg (by rw [hconf]; simp [hphase, hbank]), if_neg (by simp [hfirst]), if_pos hsum]

theorem moduleShed_occurs {l : List Nat} (h : Safety.occurs (.moduleShedCheck l) s = true) :
    moduleShed l s =
      (let s1 := forAll [0, 1, 2, 3] (fun b st => st.setBank b { st.bank b with cA := l.getD b (st.bank b).cA })
         { s with io := { s.io with modAt := s.aon.nowUs } }
       let due := match s.io.modShedAt with | none => true | some t => s.due (t + 1000000)
       if 6000 < ([0, 1, 2, 3].map (fun b => (s1.bank b).cA)).sum && due then
         (let s2 := shedLoad (List.range 48) s1
          { s2 with io := { s2.io with modShedAt := some s.aon.nowUs } })
       else s1) := by
  simp only [occurs_moduleShedCheck, Bool.and_eq_true, Bool.not_eq_true'] at h
  obtain ⟨⟨hup, hdue⟩, hbosun⟩ := h
  exact if_neg (by simp only [hup, hdue, hbosun]; decide)

theorem bankHold_occurs (h : Safety.occurs (.bankHold b cV) s = true) :
    bankHold b cV s = forAll (bankChans b) (fun i st =>
      if (st.load i).on then st.setLoad i { st.load i with duty := 1024 } else st) (bankTo b 1 (setVbb b cV s)) :=
  if_pos (occurs_bankHold b cV s ▸ h)

theorem bankHoldExit_occurs (h : Safety.occurs (.bankHoldExit b cV) s = true) :
    bankHoldExit b cV s = bankTo b 0 (setVbb b cV s) :=
  if_pos (occurs_bankHoldExit b cV s ▸ h)

theorem bankUndervoltage_occurs (h : Safety.occurs (.bankUndervoltage b cV) s = true) :
    bankUndervoltage b cV s = forAll (bankChans b) (fun i st =>
      st.setLoad i ((st.load i).turnOff st.aon.nowUs)) (bankTo b 2 (setVbb b cV s)) :=
  if_pos (occurs_bankUndervoltage b cV s ▸ h)

theorem bankRestart_occurs (h : Safety.occurs (.bankRestart b cV) s = true) :
    bankRestart b cV s = (let s2 := bankTo b 3 (setVbb b cV (s.setBank b { s.bank b with risen := true }))
      bankDone b (forAll ((bankChans b).filter s2.loadLive) driveLoad s2)) := by
  simp only [occurs_bankRestart, Bool.and_eq_true, beq_iff_eq, decide_eq_true_eq] at h
  obtain ⟨⟨hlive, hhigh⟩, hundervoltage⟩ := h
  have hpowered := hlive
  simp only [State.bankLive, Bool.and_eq_true, bne_iff_ne, decide_eq_true_eq] at hpowered
  obtain ⟨⟨hphase, hbank⟩, -⟩ := hpowered
  unfold bankRestart
  rw [if_neg (by simp [hphase, hbank, hhigh])]
  dsimp only
  rw [if_pos (by simp [hlive, hundervoltage])]

end

end Sys2Proof.Machine
end

section
/-! The obligations on the rows of loads and of banks. -/
namespace Sys2Proof.Machine

/-- Settles O37: each row under the condition that brings it about, and what a trip leaves. -/
theorem loadRowsComplete : Obligations.LoadRowsComplete :=
  ⟨fun _ _ h => congrArg Host.Outcome.next (fuseModelStep_occurs h),
   fun _ s h => congrArg Host.Outcome.next (lampUpdate_four h s),
   fun _ _ _ _ h => congrArg Host.Outcome.next (loadShort_occurs h),
   fun _ _ _ h => congrArg Host.Outcome.next (loadThermal_occurs h),
   fun _ _ _ h => congrArg Host.Outcome.next (loadRetry_occurs h),
   fun _ _ _ h => congrArg Host.Outcome.next (loadReverse_occurs h),
   fun _ _ h => congrArg Host.Outcome.next (loadExtSupply_high_occurs h),
   fun _ _ h => congrArg Host.Outcome.next (loadExtSupply_low_occurs h),
   fun _ _ _ h => congrArg Host.Outcome.next (loadOpenFlag_occurs h),
   fun _ _ h => congrArg Host.Outcome.next (restartDelay_occurs h),
   fun _ _ h => congrArg Host.Outcome.next (loadSeriesEnd_occurs h),
   fun _ _ _ _ => rfl⟩

/-- Settles O38: each row under the condition that brings it about. -/
theorem bankRowsComplete : Obligations.BankRowsComplete :=
  ⟨fun _ _ _ h => congrArg Host.Outcome.next (bankShed_occurs h),
   fun _ _ h => congrArg Host.Outcome.next (moduleShed_occurs h),
   fun _ _ _ h => congrArg Host.Outcome.next (bankHold_occurs h),
   fun _ _ _ h => congrArg Host.Outcome.next (bankHoldExit_occurs h),
   fun _ _ _ h => congrArg Host.Outcome.next (bankUndervoltage_occurs h),
   fun _ _ _ h => congrArg Host.Outcome.next (bankRestart_occurs h)⟩

end Sys2Proof.Machine
end

section
/-! SUPPORT. When the rows of fans come about: the condition that `Safety.occurs` gives each. -/
namespace Sys2Proof.Machine

theorem occurs_fanDutyUpdate (s : State) : Safety.occurs .fanDutyUpdate s
    = (s.pwr.phase != .cold && (s.die 1).conf && s.due (s.io.fanAt + 10000)) := rfl

theorem occurs_tachEdge (i n : Nat) (s : State) : Safety.occurs (.tachEdge i n) s = s.fanLive i := rfl

theorem occurs_tachTimeout (i : Nat) (s : State) : Safety.occurs (.tachTimeout i) s
    = (s.fanLive i && (s.fan i).edged && s.due ((s.fan i).edgeAt + 2000000)) := rfl

theorem occurs_kickEnd (i : Nat) (s : State) : Safety.occurs (.kickEnd i) s
    = (s.fanLive i && (s.fan i).st == 1 && s.due ((s.fan i).kickAt + fld (s.fd i) 14 2 * 1000)) := rfl

theorem occurs_provingTimeout (i : Nat) (s : State) : Safety.occurs (.provingTimeout i) s
    = (s.fanLive i && s.tachEn i && ((s.fan i).st == 1 || (s.fan i).st == 2)
        && s.due ((s.fan i).kickAt + fld (s.fd i) 16 2 * 1000)) := rfl

theorem occurs_retryWaitEnd (i : Nat) (s : State) : Safety.occurs (.retryWaitEnd i) s
    = (s.fanLive i && (s.fan i).st == 4 && s.due ((s.fan i).waitAt + fld (s.fd i) 24 2 * 1000000)) := rfl

/-- A tachometer is lost LOSS_MS after its reading fell, and that time counts from START_MS after the kick on (R335). -/
theorem occurs_tachLoss {i : Nat} {s : State} (h : Safety.occurs (.tachLoss i) s = true) :
    ∃ t, (s.fan i).lowAt = some t ∧ s.fanLive i = true
      ∧ s.due (max t ((s.fan i).kickAt + fld (s.fd i) 16 2 * 1000) + fld (s.fd i) 22 2 * 1000) = true := by
  simp only [Safety.occurs] at h
  split at h
  next t ht => exact ⟨t, ht, Bool.and_eq_true_iff.mp h⟩
  next => contradiction

/-- The loss ends once the reading has been good for 1 s (R335). -/
theorem occurs_tachLossClear {i : Nat} {s : State} (h : Safety.occurs (.tachLossClear i) s = true) :
    ∃ t, (s.fan i).okAt = some t ∧ s.fanLive i = true ∧ s.due (t + 1000000) = true := by
  simp only [Safety.occurs] at h
  split at h
  next t ht => exact ⟨t, ht, Bool.and_eq_true_iff.mp h⟩
  next => contradiction

theorem occurs_pwmShort (i : Nat) (s : State) : Safety.occurs (.pwmShort i) s
    = (s.fanLive i && (s.fan i).fault != 3) := rfl

theorem occurs_fanTableUpdate (i : Nat) (s : State) : Safety.occurs (.fanTableUpdate i) s
    = (s.fanLive i && s.fanClass i == 1 && (s.afe (fld (s.fd i) 48 4)).qual == 1
        && !(s.afe (fld (s.fd i) 48 4)).overR) := rfl

theorem occurs_fullOnWatchdogExpiry (s : State) : Safety.occurs .fullOnWatchdogExpiry s
    = (s.pwr.phase != .cold && (s.die 1).conf && !s.io.wdZero && s.due (s.io.wdAt + s.io.wdLoad * 1000000)) := rfl

end Sys2Proof.Machine
end

section
/-! SUPPORT. The rows of fans, past the conditions under which they come about (R326, R331, R334 to R337, R339). -/
namespace Sys2Proof.Machine

section
variable {i : Nat} {s : State}

theorem fanDutyUpdate_occurs (h : Safety.occurs .fanDutyUpdate s = true) :
    fanDutyUpdate s = forAll (s.enabled 0x0A) (formFan true) { s with io := { s.io with fanAt := s.io.fanAt + 10000 } } := by
  simp only [occurs_fanDutyUpdate, Bool.and_eq_true, bne_iff_ne] at h
  obtain ⟨⟨hphase, hconf⟩, hdue⟩ := h
  exact if_neg (by simp [hphase, hconf, hdue])

theorem tachEdge_occurs {n : Nat} (h : Safety.occurs (.tachEdge i n) s = true) :
    tachEdge i n s = (let c := s.fan i
      let iv := if c.edged && decide (n < 100000000) then (n :: c.ivals).take (s.df 0x0A i 8 1) else []
      fanSettle i (fanProve i (s.setFan i { c with
        ivals := iv, edged := true, edgeAt := s.aon.nowUs,
        rpm := if iv.length < s.df 0x0A i 8 1 || iv.sum = 0 then 0 else min 30000 (divRound 3000000000 iv.sum).toNat }))) := by
  rw [occurs_tachEdge] at h
  exact if_neg (by simp [h])

theorem tachTimeout_occurs (h : Safety.occurs (.tachTimeout i) s = true) :
    tachTimeout i s = fanSettle i (s.setFan i { s.fan i with ivals := [], rpm := 0, edged := false }) := by
  simp only [occurs_tachTimeout, Bool.and_eq_true] at h
  obtain ⟨⟨hlive, hedged⟩, hdue⟩ := h
  exact if_neg (by simp [hlive, hedged, hdue])

theorem kickEnd_occurs (h : Safety.occurs (.kickEnd i) s = true) : kickEnd i s = fanSettle i (fanKicked i s) := by
  simp only [occurs_kickEnd, Bool.and_eq_true, beq_iff_eq] at h
  obtain ⟨⟨hlive, hkick⟩, hdue⟩ := h
  exact if_neg (by simp [hlive, hkick, hdue])

/-- A start that is not proven in time waits for its next try, or has had its last. -/
theorem provingTimeout_occurs (h : Safety.occurs (.provingTimeout i) s = true) :
    provingTimeout i s = if (s.fan i).tries < 1 + fld (s.fd i) 9 1 then
        fanSettle i (s.setFan i { s.fan i with st := 4, waitAt := s.aon.nowUs })
      else fanSettle i ((fanFault i 1 s).setFan i { (fanFault i 1 s).fan i with
        st := if s.fanClass i = 2 then 3 else 5 }) := by
  simp only [occurs_provingTimeout, Bool.and_eq_true] at h
  obtain ⟨⟨⟨hlive, htach⟩, hstarts⟩, hdue⟩ := h
  exact if_neg (by simp [hlive, htach, hstarts, hdue])

theorem retryWaitEnd_occurs (h : Safety.occurs (.retryWaitEnd i) s = true) :
    retryWaitEnd i s = fanSettle i (fanKick i ((s.fan i).tries + 1) s) := by
  simp only [occurs_retryWaitEnd, Bool.and_eq_true, beq_iff_eq] at h
  obtain ⟨⟨hlive, hwaits⟩, hdue⟩ := h
  exact if_neg (by simp [hlive, hwaits, hdue])

/-- Under KEEP a lost tachometer is a fault alone; under RESTART a series of starts begins. -/
theorem tachLoss_occurs (h : Safety.occurs (.tachLoss i) s = true) :
    tachLoss i s = fanSettle i (if fanKeeps (s.fd i) then fanFault i 2 s
      else (fanFault i 2 s).setFan i { (fanFault i 2 s).fan i with st := 4, tries := 0, waitAt := s.aon.nowUs }) := by
  obtain ⟨t, ht, hlive, hdue⟩ := occurs_tachLoss h
  simp only [tachLoss, ht, hlive, hdue, Bool.not_true, Bool.or_self, Bool.false_eq_true, if_false]
  rw [apply_ite (fanSettle i)]

theorem tachLossClear_occurs (h : Safety.occurs (.tachLossClear i) s = true) :
    tachLossClear i s = fanSettle i (s.setFan i { s.fan i with fault := 0 }) := by
  obtain ⟨t, ht, hlive, hdue⟩ := occurs_tachLossClear h
  simp only [tachLossClear, ht, hlive, hdue, Bool.not_true, Bool.or_self, Bool.false_eq_true, if_false]

theorem pwmShort_occurs (h : Safety.occurs (.pwmShort i) s = true) :
    pwmShort i s = fanSettle i ((fanFault i 3 s).setFan i { (fanFault i 3 s).fan i with st := 0 }) := by
  simp only [occurs_pwmShort, Bool.and_eq_true, bne_iff_ne] at h
  obtain ⟨hlive, hfirst⟩ := h
  exact if_neg (by simp [hlive, hfirst])

/-- A GOOD reading of the table's source moves the table value towards f, with its hysteresis. -/
theorem fanTable_occurs (h : Safety.occurs (.fanTableUpdate i) s = true) :
    (if s.fanLive i then fanTable i s else s) = (let e := s.afe (fld (s.fd i) 48 4)
      let up := tblAt (s.fd i) e.value
      let dn := tblAt (s.fd i) (e.value + fld (s.fd i) 54 2)
      s.setFan i { s.fan i with
        tbl := (if ((s.fan i).tbl : Int) < up then up else if dn < (s.fan i).tbl then dn else ((s.fan i).tbl : Int)).toNat,
        tblVal := e.value }) := by
  simp only [occurs_fanTableUpdate, Bool.and_eq_true, beq_iff_eq, Bool.not_eq_true'] at h
  obtain ⟨⟨⟨hlive, hclass⟩, hgood⟩, hrange⟩ := h
  have hen : s.en 0x0A i = true := by
    simp only [State.fanLive, Bool.and_eq_true] at hlive
    exact hlive.2
  simp [fanTable, hlive, hen, hclass, hgood, hrange]

theorem watchdogExpiry_occurs (h : Safety.occurs .fullOnWatchdogExpiry s = true) :
    watchdogExpiry s = { s with io := { s.io with wdZero := true } } := by
  simp only [occurs_fullOnWatchdogExpiry, Bool.and_eq_true, bne_iff_ne, Bool.not_eq_true'] at h
  obtain ⟨⟨⟨hphase, hconf⟩, hfirst⟩, hdue⟩ := h
  exact if_neg (by simp [hphase, hconf, hfirst, hdue])

end

end Sys2Proof.Machine
end

section
/-! The obligation on the rows of fans. -/
namespace Sys2Proof.Machine

/-- Settles O39: each row under the condition that brings it about; a start that is not proven, by the tries it has left. -/
theorem fanRowsComplete : Obligations.FanRowsComplete :=
  ⟨fun _ h => congrArg Host.Outcome.next (fanDutyUpdate_occurs h),
   fun _ _ _ h => congrArg Host.Outcome.next (tachEdge_occurs h),
   fun _ _ h => congrArg Host.Outcome.next (tachTimeout_occurs h),
   fun _ _ h => congrArg Host.Outcome.next (kickEnd_occurs h),
   fun _ _ h hleft => congrArg Host.Outcome.next ((provingTimeout_occurs h).trans (if_pos hleft)),
   fun _ _ h hlast => congrArg Host.Outcome.next ((provingTimeout_occurs h).trans (if_neg (Nat.not_lt.mpr hlast))),
   fun _ _ h => congrArg Host.Outcome.next (retryWaitEnd_occurs h),
   fun _ _ h => congrArg Host.Outcome.next (tachLoss_occurs h),
   fun _ _ h => congrArg Host.Outcome.next (tachLossClear_occurs h),
   fun _ _ h => congrArg Host.Outcome.next (pwmShort_occurs h),
   fun _ _ h => congrArg Host.Outcome.next (fanTable_occurs h),
   fun _ h => congrArg Host.Outcome.next (watchdogExpiry_occurs h),
   fun _ _ _ => rfl,
   fun _ _ => rfl⟩

end Sys2Proof.Machine
end

section
/-! SUPPORT. The Telltale's own rows, past the conditions under which they come about (R347 to R350). -/
namespace Sys2Proof.Machine

theorem occurs_ttOccurrence (o : OccIn) (s : State) : Safety.occurs (.ttOccurrence o) s
    = (ttCodes.contains o.code && o.code != 0x0B01 && o.code != 0x0B81 && decide (o.die < 4)) := rfl

theorem occurs_ttRecordWrite (s : State) : Safety.occurs .ttRecordWrite s
    = (s.up && (s.tt.lost != 0 || !s.tt.fifo.isEmpty)) := rfl

theorem occurs_ttTokenRefill (c : Nat) (s : State) : Safety.occurs (.ttTokenRefill c) s
    = (s.up && !s.tt.lx20 && ttLimited.contains c && decide (b2n (s.ttBkt c).heldAt.isSome < (s.ttBkt c).spent)
        && s.due ((s.ttBkt c).refillAt + (s.ttLim c).refillMs * 1000)) := rfl

section
variable {code : Nat} {s : State}

/-- In RUN an occurrence goes to the limiter, whichever die detects it. -/
theorem ttOccur_run (die source : Nat) (data : Bytes) (hp : s.pwr.phase = .run) :
    ttOccur die code source data s = ttLimit s.optime code source data s := by
  simp only [ttOccur, hp]

theorem execTtOccurrence_occurs {o : OccIn} (h : Safety.occurs (.ttOccurrence o) s = true) :
    execTtOccurrence o s = .next (ttOccur o.die o.code o.source (fit 12 o.data) s) :=
  congrArg Host.Outcome.next (if_pos (occurs_ttOccurrence o s ▸ h))

theorem ttRecordWrite_occurs (h : Safety.occurs .ttRecordWrite s = true) : ttRecordWrite s = ttWriteStep s := by
  rw [occurs_ttRecordWrite, Bool.and_eq_true] at h
  exact if_pos h.1

theorem ttWriteStep_lost (h : s.tt.lost ≠ 0) : ttWriteStep s = ttOverflow s := if_pos h

theorem ttWriteStep_fifo {o : TOcc} {q : List TOcc} (h : s.tt.lost = 0) (hq : s.tt.fifo = o :: q) :
    ttWriteStep s = ttHeld (ttWriteOcc o { s with tt := { s.tt with fifo := q } }) := by
  simp only [ttWriteStep, h, hq, ne_eq, not_true_eq_false, if_false]

/-- A bucket that is due gains a token, which a summary takes while occurrences are suppressed and none waits. -/
theorem ttRefill_occurs (h : Safety.occurs (.ttTokenRefill code) s = true) :
    ttRefill code s = (let b := s.ttBkt code
      let t := b.refillAt + (s.ttLim code).refillMs * 1000
      if b.supp ≠ 0 && b.heldAt.isNone then ttSummary (t / 1000) code (s.setBkt code { b with refillAt := t })
      else s.setBkt code { b with refillAt := t, spent := b.spent - 1 }) := by
  simp only [occurs_ttTokenRefill, Bool.and_eq_true, Bool.not_eq_true', decide_eq_true_eq] at h
  obtain ⟨⟨⟨⟨hup, hmode⟩, hlimited⟩, hspent⟩, hdue⟩ := h
  exact if_neg (by simp only [hup, hmode, hlimited, Nat.not_le.mpr hspent, hdue]; decide)

theorem ttRefill_token (h : Safety.occurs (.ttTokenRefill code) s = true) (hs : (s.ttBkt code).supp = 0) :
    ttRefill code s = s.setBkt code { s.ttBkt code with
      spent := (s.ttBkt code).spent - 1, refillAt := (s.ttBkt code).refillAt + (s.ttLim code).refillMs * 1000 } :=
  (ttRefill_occurs h).trans (if_neg (by simp [hs]))

theorem ttRefill_summary (h : Safety.occurs (.ttTokenRefill code) s = true) (hs : (s.ttBkt code).supp ≠ 0)
    (hh : (s.ttBkt code).heldAt = none) :
    ttRefill code s = (let t := (s.ttBkt code).refillAt + (s.ttLim code).refillMs * 1000
      ttSummary (t / 1000) code (s.setBkt code { s.ttBkt code with refillAt := t })) :=
  (ttRefill_occurs h).trans (if_pos (by simp [hs, hh]))

end

end Sys2Proof.Machine
end

section
/-! The obligation on the Telltale's own rows. -/
namespace Sys2Proof.Machine

/-- Settles O40: the writer by what waits, and a refill by whether a summary is due. -/
theorem telltaleRowsComplete : Obligations.TelltaleRowsComplete :=
  ⟨fun _ _ h hrun => (execTtOccurrence_occurs h).trans (congrArg Host.Outcome.next (ttOccur_run _ _ _ hrun)),
   fun _ h hlost => congrArg Host.Outcome.next ((ttRecordWrite_occurs h).trans (ttWriteStep_lost hlost)),
   fun _ _ _ h hlost hq => congrArg Host.Outcome.next ((ttRecordWrite_occurs h).trans (ttWriteStep_fifo hlost hq)),
   fun _ _ h hs => congrArg Host.Outcome.next (ttRefill_token h hs),
   fun _ _ h hs hh => congrArg Host.Outcome.next (ttRefill_summary h hs hh)⟩

end Sys2Proof.Machine
end

section
/-! SUPPORT. The opcodes of the Telltale, past the conditions under which each takes effect (R352 to R355, R357). -/
namespace Sys2Proof.Machine

section
variable {c : Cmd} {s : State}

/-! ## TT_OPEN by its ACTION (R353) -/

theorem runTtOpen_open {i : Nat} (ha : fld c.payload 0 1 = 1)
    (hfree : [0, 1, 2, 3, 4, 5, 6, 7].find? (fun i => (s.cursor i).sess == 0) = some i)
    (hquota : ([0, 1, 2, 3, 4, 5, 6, 7].filter (fun i => (s.cursor i).sess == c.sess)).length
      < (s.ses c.slot).quota.cursor) :
    runTtOpen c s = (s.setCursor i {
        sess := c.sess
        pos := if fld c.payload 8 8 = 0 then s.tt.oldest else if fld c.payload 8 8 = 0xFFFFFFFFFFFFFFFF then s.tt.next
          else fld c.payload 8 8
        pin := none, lost := false },
      Res.ok ([BitVec.ofNat 8 i] ++ zeros 7 ++ le 8 s.tt.oldest ++ le 8 s.newest)) := by
  simp only [runTtOpen, ha, hfree, Nat.not_le.mpr hquota, if_false]

theorem runTtOpen_close (ha : fld c.payload 0 1 = 2) (hown : (s.cursor (fld c.payload 1 1)).sess = c.sess) :
    runTtOpen c s = (s.setCursor (fld c.payload 1 1) Cursor.dflt, Res.ok []) := by
  simp only [runTtOpen, ha, hown, ne_eq, not_true_eq_false, if_false]

theorem runTtOpen_notify (ha : fld c.payload 0 1 = 3) :
    runTtOpen c s = (s.setSes c.slot { s.ses c.slot with fams := fld c.payload 2 2 }, Res.ok []) := by
  simp only [runTtOpen, ha]

/-! ## TT_READ and TT_PIN on a cursor of the session's own (R354, R355) -/

section
variable (hown : (s.cursor (fld c.payload 0 1)).sess = c.sess) (hlost : (s.cursor (fld c.payload 0 1)).lost = false)
include hown hlost

theorem runTtRead_own : runTtRead c s = (let x := s.cursor (fld c.payload 0 1)
    let first := max x.pos s.tt.oldest
    let n := min (fld c.payload 2 2) (s.tt.next - first)
    let flags := b2n (decide (x.pos < first)) + 2 * b2n (s.tt.lx20 && decide (0 < n) && first + n == s.tt.next)
    (s.setCursor (fld c.payload 0 1) { x with pos := first + n },
      Res.ok (le 8 first ++ le 2 n ++ [BitVec.ofNat 8 flags] ++ zeros 5 ++ le 8 s.tt.oldest ++ le 8 s.newest
        ++ (List.range n).flatMap (fun j => (s.trec (first + j)).bytes (first + j))))) := by
  simp only [runTtRead, hown, hlost, ne_eq, not_true_eq_false, Bool.false_eq_true, if_false]

theorem runTtPin_pin (ha : fld c.payload 1 1 = 1) : runTtPin c s = (let x := s.cursor (fld c.payload 0 1)
    (s.setCursor (fld c.payload 0 1) { x with pin := some (max x.pos s.tt.oldest, fld c.payload 2 2) },
      Res.ok (le 8 (max x.pos s.tt.oldest) ++ zeros 8))) := by
  simp only [runTtPin, hown, hlost, ha, ne_eq, not_true_eq_false, Bool.false_eq_true, if_false, if_true]

theorem runTtPin_unpin (ha : fld c.payload 1 1 = 0) : runTtPin c s =
    (s.setCursor (fld c.payload 0 1) { s.cursor (fld c.payload 0 1) with pin := none }, Res.ok (zeros 16)) := by
  simp only [runTtPin, hown, hlost, ha, ne_eq, not_true_eq_false, Bool.false_eq_true, if_false, Nat.zero_ne_one]

end

/-! ## TT_LIMITS by its ACTION (R352) -/

/-- SET of one code that leaves the mode alone. -/
theorem runTtLimits_set (ha : fld c.payload 0 1 = 1) (hmode : fld c.payload 1 1 = 0xFF) (hcode : fld c.payload 4 2 ≠ 0xFFFF)
    (hburst : fld c.payload 6 1 ≠ 0) :
    runTtLimits c s = (let u := ttSetLimit (fld c.payload 6 1) (fld c.payload 8 4) (fld c.payload 4 2) s
      (u, Res.ok (Safety.limitPage u (fld c.payload 4 2)))) := by
  simp [runTtLimits, Safety.limitPage, ha, hmode, hcode, hburst, forAll]

theorem runTtLimits_get (ha : fld c.payload 0 1 = 2) :
    runTtLimits c s = (s, Res.ok (Safety.limitPage s (fld c.payload 4 2))) := by
  simp [runTtLimits, Safety.limitPage, ha]

end

end Sys2Proof.Machine
end

section
/-! The obligation on the Telltale's opcodes. -/
namespace Sys2Proof.Machine

/-- Settles O57: each opcode is served, and takes effect under the condition that its clause names. -/
theorem telltaleOpcodesResult : Obligations.TelltaleOpcodesResult :=
  ⟨fun _ _ _ h ha hfree hquota =>
     congrArg Host.Outcome.next (hostRow_finish runTtOpen h rfl (runTtOpen_open ha hfree hquota)),
   fun _ _ h ha hown => congrArg Host.Outcome.next (hostRow_finish runTtOpen h rfl (runTtOpen_close ha hown)),
   fun _ _ h ha => congrArg Host.Outcome.next (hostRow_finish runTtOpen h rfl (runTtOpen_notify ha)),
   fun _ _ h hown hlost => congrArg Host.Outcome.next (hostRow_finish runTtRead h rfl (runTtRead_own hown hlost)),
   fun _ _ h ha hown hlost => congrArg Host.Outcome.next (hostRow_finish runTtPin h rfl (runTtPin_pin hown hlost ha)),
   fun _ _ h ha hown hlost => congrArg Host.Outcome.next (hostRow_finish runTtPin h rfl (runTtPin_unpin hown hlost ha)),
   fun _ _ h => congrArg Host.Outcome.next (hostRow_finish runTtClear h rfl rfl),
   fun _ _ h ha hmode hcode hburst =>
     congrArg Host.Outcome.next (hostRow_finish runTtLimits h rfl (runTtLimits_set ha hmode hcode hburst)),
   fun _ _ h ha => congrArg Host.Outcome.next (hostRow_finish runTtLimits h rfl (runTtLimits_get ha))⟩

end Sys2Proof.Machine
end

section
/-! SUPPORT. The opcodes of the system, past the conditions under which each takes effect (R358, R373, R375, R391). -/
namespace Sys2Proof.Machine

section
variable {c : Cmd} {s : State}

/-- The first TIME_MARK has no mark before it: its change is 0, and it is recorded. -/
theorem runTimeMark_first (h : s.tt.offset = none) :
    runTimeMark c s =
      (let off : Int := clampI (-2 ^ 63) (2 ^ 63 - 1)
         (((fld c.payload 0 8 * 1000 + fld c.payload 8 2 : Nat) : Int) - s.optime)
       (ttOccur 0 0x0B03 0 (leInt 8 off ++ leInt 4 0) { s with tt := { s.tt with offset := some off } },
         Res.ok (leInt 8 off ++ le 8 0x8000000000000000))) := by
  simp only [runTimeMark, h, if_true]

theorem runReset_warm (ha : fld c.payload 0 1 = 1) :
    runReset c s = ({ s with start := { s.start with
      resetReq := some { kind := 0x11, port := c.port, at_ := s.aon.nowUs } } }, Res.ok []) := by
  simp only [runReset, ha, if_true]

theorem runReset_cold (ha : fld c.payload 0 1 = 2) :
    runReset c s = ({ s with start := { s.start with
      resetReq := some { kind := 4, port := c.port, at_ := s.aon.nowUs } } }, Res.ok []) := by
  simp [runReset, ha]

theorem runPowerPlan_get (ha : fld c.payload 0 1 = 1) : runPowerPlan c s = (s, Res.ok (planData s)) := by
  simp only [runPowerPlan, ha]

theorem runPowerPlan_clear (ha : fld c.payload 0 1 = 2) :
    runPowerPlan c s = (clearStats s, Res.ok (planData (clearStats s))) := by
  simp only [runPowerPlan, ha]

theorem runPowerPlan_set (ha : fld c.payload 0 1 = 3)
    (hcap : ({ s with pwr := { s.pwr with capMw := fld c.payload 2 2 } } : State).overCap s.rig.live = false) :
    runPowerPlan c s = (let u : State := { s with pwr := { s.pwr with capMw := fld c.payload 2 2 } }
      (u, Res.ok (planData u))) := by
  simp only [runPowerPlan, ha, hcap, Bool.false_eq_true, if_false]

end

end Sys2Proof.Machine
end

section
/-! The obligation on the system's opcodes. -/
namespace Sys2Proof.Machine

/-- Settles O58: each opcode is served, and takes effect by its ACTION. -/
theorem systemOpcodesResult : Obligations.SystemOpcodesResult :=
  ⟨fun _ _ h => congrArg Host.Outcome.next (hostRow_finish runSysInfo h rfl rfl),
   fun _ _ h hfirst => congrArg Host.Outcome.next (hostRow_finish runTimeMark h rfl (runTimeMark_first hfirst)),
   fun _ _ h ha => congrArg Host.Outcome.next (hostRow_finish runReset h rfl (runReset_warm ha)),
   fun _ _ h ha => congrArg Host.Outcome.next (hostRow_finish runReset h rfl (runReset_cold ha)),
   fun _ _ h ha => congrArg Host.Outcome.next (hostRow_finish runPowerPlan h rfl (runPowerPlan_get ha)),
   fun _ _ h ha => congrArg Host.Outcome.next (hostRow_finish runPowerPlan h rfl (runPowerPlan_clear ha)),
   fun _ _ h ha hcap => congrArg Host.Outcome.next (hostRow_finish runPowerPlan h rfl (runPowerPlan_set ha hcap))⟩

end Sys2Proof.Machine
end

section
/-! SUPPORT. What only the resets and the starts change: POWERCYCLE, and the end of a cold reset (R378, R380). -/
namespace Sys2Proof.Machine

/-! ## POWERCYCLE -/

theorem powercycle_of_stable {s t : State} (h : t.stable = s.stable) : t.aon.powercycle = s.aon.powercycle :=
  congrArg (fun k => k.2.1) h

/-- A cold start that happens lifts POWERCYCLE by one, and one that does not leaves it. -/
theorem coldStart_powercycle (cV : Nat) (s : State) : (coldStart cV s).aon.powercycle = s.aon.powercycle
    ∨ (coldStart cV s).aon.powercycle = (s.aon.powercycle + 1) % 4294967296 := by
  rcases coldStart_spec cV s with ⟨-, h⟩ | ⟨-, h⟩
  · exact Or.inl h.powercycle
  · exact Or.inr h.powercycle

theorem coldStart_powercycle_of_mayStart {cV : Nat} {s : State} (hm : s.mayStart cV = true) :
    (coldStart cV s).aon.powercycle = (s.aon.powercycle + 1) % 4294967296 := by
  rcases coldStart_spec cV s with ⟨hnot, -⟩ | ⟨-, h⟩
  · rw [hm] at hnot
    contradiction
  · exact h.powercycle

theorem nrstRelease_powercycle (s : State) : (nrstRelease s).aon.powercycle = s.aon.powercycle
    ∨ (nrstRelease s).aon.powercycle = (s.aon.powercycle + 1) % 4294967296 := by
  rcases nrstRelease_spec s with h | h
  · exact Or.inl (powercycle_of_stable (stable_of_kept h))
  · rw [h]
    exact coldStart_powercycle _ _

/-- No command but the two cold starts touches POWERCYCLE. -/
theorem exec_powercycle {c : Instr} {s t : State} (h : exec c s = .next t) (hc : ∀ cV, c ≠ .coldStart cV)
    (hn : c ≠ .nrstRelease) : t.aon.powercycle = s.aon.powercycle := by
  by_cases hs : ofStart c = true
  · cases c with
    | adoption => exact holds_of_next (fun t => t.aon.powercycle = s.aon.powercycle) (adoption_stable s).2.1 h
    | coldStart cV => exact absurd rfl (hc cV)
    | nrstRelease => exact absurd rfl hn
    | _ => contradiction
  · by_cases hm : ofMailbox c = true
    · exact powercycle_of_stable (mailbox_steady h hm).stable
    · exact powercycle_of_stable (exec_works h (by simpa using hm) (by simpa using hs)).steady.stable

/-! ## The end of a cold reset -/

theorem phase_of_kept {s t : State} (h : t.kept = s.kept) : t.pwr.phase = s.pwr.phase :=
  congrArg (fun k => k.2.2.2.2.2.2) h

/-- Work, resets and the passing of time do not end a cold reset. -/
theorem Works.cold_stays {s t : State} (h : Works s t) (hp : s.pwr.phase = .cold) : t.pwr.phase = .cold := by
  induction h with
  | kept h => rw [phase_of_kept h, hp]
  | cold kind s => rfl
  | warm kind s => simp [warmReset, hp]
  | pass s => rw [pass_phase, hp]
  | trans _ _ ih ik => exact ik (ih hp)

section
variable {s : State} (h : s.portOn 7 = false)
include h

theorem spiWrite_off (a : Nat) (data : Bytes) : spiWrite a data s = s := by simp [spiWrite, h]
theorem spiTaken_off : spiTaken s = s := by simp [spiTaken, h]
theorem spiPlace_off : spiPlace s = s := by simp [spiPlace, h]

end

/-- In a cold reset the mailbox does nothing. -/
theorem mailbox_cold {c : Instr} {s t : State} (h : exec c s = .next t) (hm : ofMailbox c = true)
    (hp : s.pwr.phase = .cold) : t = s := by
  have hoff : s.portOn 7 = false := portOn_cold hp 7
  cases c with
  | spiInGo | spiOutDone | spiInBufferWrite | spiIrqStatusClear | spiRegisterWrite =>
    exact holds_of_next (fun t => t = s) (spiWrite_off hoff _ _) h
  | spiInTaken => exact holds_of_next (fun t => t = s) (spiTaken_off hoff) h
  | spiOutPlace => exact holds_of_next (fun t => t = s) (spiPlace_off hoff) h
  | _ => contradiction

theorem adoption_of_cold {s : State} (hp : s.pwr.phase = .cold) : adoption s = s := by
  simp [adoption, hp]

/-- What is no cold start leaves a cold reset in it. -/
theorem exec_cold_stays {c : Instr} {s t : State} (h : exec c s = .next t) (hp : s.pwr.phase = .cold)
    (hc : ∀ cV, c ≠ .coldStart cV) (hn : c ≠ .nrstRelease) : t.pwr.phase = .cold := by
  by_cases hs : ofStart c = true
  · cases c with
    | adoption => exact holds_of_next (fun t => t.pwr.phase = .cold) ((adoption_of_cold hp).symm ▸ hp) h
    | coldStart cV => exact absurd rfl (hc cV)
    | nrstRelease => exact absurd rfl hn
    | _ => contradiction
  · by_cases hm : ofMailbox c = true
    · rw [mailbox_cold h hm hp, hp]
    · exact (exec_works h (by simpa using hm) (by simpa using hs)).cold_stays hp

end Sys2Proof.Machine
end

section
/-! SUPPORT. When the rows of supplies, resets and starts come about: the condition that `Safety.occurs` gives each. -/
namespace Sys2Proof.Machine

theorem occurs_vsupSag (cV : Nat) (s : State) : Safety.occurs (.vsupSag cV) s
    = (s.pwr.phase != .cold && !s.pwr.sag && decide (cV < 850)) := rfl

theorem occurs_vsupSagEnd (cV : Nat) (s : State) : Safety.occurs (.vsupSagEnd cV) s
    = (s.pwr.sag && decide (900 ≤ cV)) := rfl

theorem occurs_vioLow (cV : Nat) (s : State) : Safety.occurs (.vioLow cV) s
    = (decide (cV < 270) && !s.pwr.vioLow) := rfl

theorem occurs_vioRecovery (cV : Nat) (s : State) : Safety.occurs (.vioRecovery cV) s
    = (decide (290 ≤ cV) && s.pwr.vioLow) := rfl

theorem occurs_optimeSave (s : State) : Safety.occurs .optimeSave s
    = (s.up && s.due (s.aon.optimeSavedAt + 60000000)) := rfl

theorem occurs_powerFail (cV : Nat) (s : State) : Safety.occurs (.powerFail cV) s
    = (s.up && (decide (cV < 550) || (s.pwr.sag && s.due (s.pwr.sagAt + 500000)))) := rfl

theorem occurs_nrstAssert (s : State) : Safety.occurs .nrstAssert s = (s.pwr.phase != .cold) := rfl

theorem occurs_coldStart (cV : Nat) (s : State) : Safety.occurs (.coldStart cV) s = s.mayStart cV := rfl

theorem occurs_nrstRelease (s : State) : Safety.occurs .nrstRelease s
    = (s.pwr.nrstLow && s.pwr.phase == .cold && decide (850 ≤ s.pwr.vsup)) := rfl

theorem occurs_adoption (s : State) : Safety.occurs .adoption s = (s.pwr.phase == .warm) := rfl

end Sys2Proof.Machine
end

section
/-! SUPPORT. A cold reset, and the rows that bring one (R362, R377, R378, R390). -/
namespace Sys2Proof.Machine

/-- A cold reset drives nothing, ends the sessions and clears READY, whatever brought it. -/
theorem coldReset_leaves (kind : Nat) (s : State) :
    (coldReset kind s).pwr.phase = .cold ∧ Safety.allOff (coldReset kind s) ∧ (coldReset kind s).sess = []
      ∧ (coldReset kind s).start.ready = 0 ∧ (coldReset kind s).pwr.coldKind = kind :=
  ⟨rfl, ⟨fun _ => rfl, fun _ => rfl, fun _ => rfl, fun _ => rfl, fun _ => rfl⟩, rfl, rfl, rfl⟩

/-! ## What a cold reset leaves of what is saved -/

theorem closeTxn_only (s : State) : closeTxn s = { s with rig := (closeTxn s).rig } := by
  unfold closeTxn State.setRigBank
  (repeat' split) <;> rfl

theorem rigReset_only (s : State) : rigReset s = { s with rig := (rigReset s).rig } := by
  unfold rigReset
  split
  · rfl
  · split
    · rfl
    · exact closeTxn_only s

theorem coldReset_aon (kind : Nat) (s : State) : (coldReset kind s).aon = s.aon := by
  unfold coldReset controlReset
  rw [rigReset_only]
  rfl

theorem coldReset_saved (kind : Nat) (s : State) : (coldReset kind s).masts.saved = s.masts.saved := by
  unfold coldReset controlReset
  rw [rigReset_only]
  rfl

theorem coldReset_saveDone (kind : Nat) (s : State) : (coldReset kind s).pwr.saveDone = s.pwr.saveDone := by
  unfold coldReset controlReset
  rw [rigReset_only]
  rfl

theorem coldReset_nrstLow (kind : Nat) (s : State) : (coldReset kind s).pwr.nrstLow = s.pwr.nrstLow := by
  unfold coldReset controlReset
  rw [rigReset_only]
  rfl

/-! ## POWER_FAIL (R362) -/

/-- What a failing supply leaves written: the ledger, the save records of dryers and routes, and OPTIME last. -/
def failSaved (s : State) : State :=
  saveOptime true (forAll (s.enabled 0x08) routeSave (forAll (s.enabled 0x07) drySave (saveLedger s)))

theorem failSaved_optime (s : State) : (failSaved s).aon.savedOptime = s.optime ∧ (failSaved s).aon.savedAtFail = true := by
  have haon : (forAll (s.enabled 0x08) routeSave (forAll (s.enabled 0x07) drySave (saveLedger s))).aon = s.aon := by
    rw [forAll_same State.aon _ _ (fun _ _ => by rfl), forAll_same State.aon _ _ (fun _ _ => by rfl)]
    rfl
  exact ⟨congrArg (fun a : Aon => a.nowUs / 1000) haon, rfl⟩

theorem failSaved_ledger (s : State) : (failSaved s).masts.saved = s.masts.led := by
  have hmasts : (forAll (s.enabled 0x08) routeSave (forAll (s.enabled 0x07) drySave (saveLedger s))).masts
      = (saveLedger s).masts := by
    rw [forAll_same State.masts _ _ (fun _ _ => by rfl), forAll_same State.masts _ _ (fun _ _ => by rfl)]
  exact congrArg Masts.saved hmasts

/-- A module that runs saves, and a cold reset of the kind of a loss of power follows. -/
theorem powerFail_occurs {cV : Nat} {s : State} (h : Safety.occurs (.powerFail cV) s = true) :
    powerFail cV s = (let s1 := failSaved { s with pwr := { s.pwr with vsup := cV } }
      coldReset 0 { s1 with pwr := { s1.pwr with saveDone := true } }) := by
  simp only [occurs_powerFail, State.up, Bool.and_eq_true, Bool.or_eq_true, beq_iff_eq, decide_eq_true_eq] at h
  obtain ⟨hrun, hfails⟩ := h
  unfold powerFail
  dsimp only
  rw [if_neg, hrun]
  · rfl
  · rcases hfails with hlow | ⟨hsag, hdue⟩
    · simp [Nat.not_le.mpr hlow]
    · simp [hsag, hdue]

/-! ## NRST_ASSERT (R378) -/

theorem nrstAssert_occurs {s : State} (h : Safety.occurs .nrstAssert s = true) :
    nrstAssert s = coldReset 3 { s with pwr := { s.pwr with nrstLow := true } } := by
  rw [occurs_nrstAssert, bne_iff_ne] at h
  exact if_neg (by simpa using h)

end Sys2Proof.Machine
end

section
/-! SUPPORT. Starts, and the end of a die's hold: the phase that a start leaves, and what the drive of a die's outputs leaves
of the dies (R380, R385, R387). -/
namespace Sys2Proof.Machine

/-! ## The phase after a start -/

theorem startFirmware_pwr (s : State) : (startFirmware s).pwr = s.pwr := by
  unfold startFirmware
  dsimp only
  split
  · rfl
  · exact ttOccur_pwr _ _ _ _ _

theorem coldStart_phase {cV : Nat} {s : State} (hm : s.mayStart cV = true) : (coldStart cV s).pwr.phase = .run := by
  unfold coldStart
  rw [if_neg (by simp [hm])]
  dsimp only
  generalize hs2 : ({ coldTime s with
    pwr := { (coldTime s).pwr with phase := .run, vsup := cV, saveDone := false, coldKind := 0, pgood := true }
    start := { (coldTime s).start with startOptime := (coldTime s).optime, kind := s.coldKindNow, keep := 0, correctedN := 0,
                                       corrected := 0, ready := 0, ports := 0 } } : State) = s2
  have hrun : s2.pwr.phase = .run := hs2 ▸ rfl
  have hhoist : (hoist 12 (hoist 1 (clearStats s2))).kept = s2.kept := by simp
  generalize hoist 12 (hoist 1 (clearStats s2)) = s3 at hhoist ⊢
  have hfw : (startFirmware s3).pwr.phase = .run := by rw [startFirmware_pwr, phase_of_kept hhoist, hrun]
  generalize startFirmware s3 = s4 at hfw ⊢
  refine (phase_of_kept ?_).trans hfw
  simp

theorem adoption_phase {s : State} (hp : s.pwr.phase = .warm) : (adoption s).pwr.phase = .run := by
  unfold adoption
  rw [hp]
  dsimp only
  generalize hs0 : ({ s with pwr := { s.pwr with phase := .run }, start := { s.start with warmRun := 0 } } : State) = s0
  have hrun : s0.pwr.phase = .run := hs0 ▸ rfl
  have hmerge : (ttMerge (keepersShow s0)).kept = s0.kept := by simp
  generalize ttMerge (keepersShow s0) = s1 at hmerge ⊢
  have hfw : (startFirmware s1).pwr.phase = .run := by rw [startFirmware_pwr, phase_of_kept hmerge, hrun]
  generalize startFirmware s1 = s2 at hfw ⊢
  refine (phase_of_kept ?_).trans hfw
  simp

theorem adoption_warmRun {s : State} (hp : s.pwr.phase = .warm) : (adoption s).start.warmRun = 0 := by
  rcases adoption_spec s with h | h
  · have hphase := adoption_phase hp
    rw [h, hp] at hphase
    contradiction
  · exact h.warmRun

/-- The rising edge of nRST starts the module when VSUP stands (R378). -/
theorem nrstRelease_occurs {s : State} (h : Safety.occurs .nrstRelease s = true) :
    nrstRelease s = coldStart s.pwr.vsup { s with pwr := { s.pwr with nrstLow := false } }
      ∧ ({ s with pwr := { s.pwr with nrstLow := false } } : State).mayStart s.pwr.vsup = true := by
  simp only [occurs_nrstRelease, Bool.and_eq_true, beq_iff_eq, decide_eq_true_eq] at h
  obtain ⟨⟨hlow, hcold⟩, hvsup⟩ := h
  exact ⟨if_pos hlow, by simp [State.mayStart, hcold, hvsup]⟩

/-! ## The dies, under the drive of outputs -/

@[simp] theorem ite_dies (c : Prop) [Decidable c] (s t : State) :
    (if c then s else t).io.dies = if c then s.io.dies else t.io.dies := apply_ite (fun s : State => s.io.dies) c s t

@[simp] theorem fanProve_dies (i : Nat) (s : State) : (fanProve i s).io.dies = s.io.dies := by simp [fanProve]
@[simp] theorem fanSettle_dies (i : Nat) (s : State) : (fanSettle i s).io.dies = s.io.dies := rfl
@[simp] theorem fanKicked_dies (i : Nat) (s : State) : (fanKicked i s).io.dies = s.io.dies := by simp [fanKicked]
@[simp] theorem fanKick_dies (i tries : Nat) (s : State) : (fanKick i tries s).io.dies = s.io.dies := by simp [fanKick]
@[simp] theorem fanSeq_dies (i : Nat) (s : State) : (fanSeq i s).io.dies = s.io.dies := by simp [fanSeq]
@[simp] theorem formFan_dies (step : Bool) (i : Nat) (s : State) : (formFan step i s).io.dies = s.io.dies := by
  simp [formFan]

@[simp] theorem bankTo_dies (b st : Nat) (s : State) : (bankTo b st s).io.dies = s.io.dies := by simp [bankTo]
@[simp] theorem bankDone_dies (b : Nat) (s : State) : (bankDone b s).io.dies = s.io.dies := by simp [bankDone]
@[simp] theorem driveLoad_dies (i : Nat) (s : State) : (driveLoad i s).io.dies = s.io.dies := by
  unfold driveLoad
  extract_lets k o die io s0 c now bk wait may want n lamp duty io1 s1
  have hstart : s0.io.dies = s.io.dies := by
    unfold s0
    split <;> rfl
  have hswitch : s1.io.dies = s0.io.dies := by
    unfold s1
    (repeat' split) <;> rfl
  exact (bankDone_dies _ _).trans (hswitch.trans hstart)

@[simp] theorem barTest_dies (i : Nat) (s : State) : (barTest i s).io.dies = s.io.dies := by simp [barTest]
@[simp] theorem endTests_dies (i : Nat) (s : State) : (endTests i s).io.dies = s.io.dies := by
  unfold endTests
  exact forAll_same (fun s => s.io.dies) _ _ (fun _ _ => by rfl) s
@[simp] theorem driveDio_dies (i : Nat) (s : State) : (driveDio i s).io.dies = s.io.dies := by
  unfold driveDio
  dsimp only
  split
  · exact barTest_dies i s
  · split <;> exact (endTests_dies i _).trans (barTest_dies i s)
@[simp] theorem driveAo_dies (i : Nat) (s : State) : (driveAo i s).io.dies = s.io.dies := rfl

@[simp] theorem applyOut_dies (k : Nat) (s : State) : (applyOut k s).io.dies = s.io.dies := by
  unfold applyOut
  dsimp only
  (repeat' split) <;> simp

/-- The drive of a die's outputs leaves every die's own state as it is. -/
theorem applyDie_die (d j : Nat) (s : State) : (applyDie d s).die j = s.die j :=
  congrArg (fun t => Tbl.rd Die.dflt t j) (forAll_same (fun s => s.io.dies) _ _ applyOut_dies s)

/-! ## WARM_RUN and the keepers (R387, R388) -/

/-- The third warm reset of a run is a cold one of kind ESCALATED. -/
theorem warmReset_escalates {s : State} (kind : Nat) (hp : s.pwr.phase ≠ .cold) (hn : s.start.warmRun + 1 = 3) :
    warmReset kind s = coldReset 5 s := by
  unfold warmReset
  split
  · contradiction
  · exact if_pos hn

theorem notice_of_keeping {d : Nat} {s : State} (h : (s.die d).keeping = true) : notice d s = s :=
  if_pos (by simp [h])

/-- A die whose hold is over reads back as it is written, whatever the table: no unlisted die's hold is. -/
theorem setDie_die_over {s : State} {d : Nat} {x : Die} (h : x.keepOver = true) : (s.setDie d x).die d = x :=
  Tbl.rd_wr_ne _ _ _ _ fun e => by
    rw [e] at h
    contradiction

theorem keepExpiry_ends {d : Nat} {s : State} (h : Safety.occurs (.keepWindowExpiry d) s = true) :
    ((keepExpiry d s).die d).keeping = false := by
  rw [keepExpiry_occurs h, applyDie_die, setDie_die_over rfl]

end Sys2Proof.Machine
end

section
/-! SUPPORT. The rows of supplies and of OPTIME's saving, past the conditions under which they come about (R362, R363, R365). -/
namespace Sys2Proof.Machine

section
variable {cV : Nat} {s : State}

theorem vsupSag_occurs (h : Safety.occurs (.vsupSag cV) s = true) : vsupSag cV s = { s with pwr := { s.pwr with
    vsup := cV, sag := true, sagAt := s.aon.nowUs, sags := satInc 0xFFFFFFFF s.pwr.sags } } := by
  simp only [occurs_vsupSag, Bool.and_eq_true, bne_iff_ne, Bool.not_eq_true', decide_eq_true_eq] at h
  obtain ⟨⟨hphase, hfirst⟩, hlow⟩ := h
  exact if_neg (by simp [hphase, hfirst, hlow])

theorem vsupSagEnd_occurs (h : Safety.occurs (.vsupSagEnd cV) s = true) :
    vsupSagEnd cV s = { s with pwr := { s.pwr with vsup := cV, sag := false } } := by
  simp only [occurs_vsupSagEnd, Bool.and_eq_true, decide_eq_true_eq] at h
  obtain ⟨-, hhigh⟩ := h
  simp [vsupSagEnd, Nat.not_lt.mpr hhigh]

theorem vioLow_occurs (h : Safety.occurs (.vioLow cV) s = true) :
    vioLow cV s = lockoutSense 7 { s with pwr := { s.pwr with vio := cV, vioLow := true } } := by
  simp only [occurs_vioLow, Bool.and_eq_true, Bool.not_eq_true', decide_eq_true_eq] at h
  obtain ⟨hlow, hfirst⟩ := h
  exact if_neg (by simp [hlow, hfirst])

theorem vioRecovery_occurs (h : Safety.occurs (.vioRecovery cV) s = true) :
    vioRecovery cV s = lockoutSense s.io.lockLand { s with pwr := { s.pwr with vio := cV, vioLow := false } } := by
  simp only [occurs_vioRecovery, Bool.and_eq_true, decide_eq_true_eq] at h
  obtain ⟨hhigh, hlow⟩ := h
  exact if_neg (by simp [hlow, hhigh])

theorem optimeSave_occurs (h : Safety.occurs .optimeSave s = true) : optimeSave s = { s with aon := { s.aon with
    savedOptime := s.optime, savedAtFail := false, optimeSavedAt := s.aon.nowUs } } :=
  if_pos (occurs_optimeSave s ▸ h)

end

end Sys2Proof.Machine
end

section
/-! The obligations on supplies, on resets and starts, and on the invariant at reset. -/
namespace Sys2Proof.Machine

/-- Settles O41: each row under the condition that brings it about. -/
theorem supplyRowsComplete : Obligations.SupplyRowsComplete :=
  ⟨fun _ _ h => congrArg Host.Outcome.next (vsupSag_occurs h),
   fun _ _ h => congrArg Host.Outcome.next (vsupSagEnd_occurs h),
   fun _ _ h => congrArg Host.Outcome.next (vioLow_occurs h),
   fun _ _ h => congrArg Host.Outcome.next (vioRecovery_occurs h),
   fun _ => rfl, fun _ => rfl, fun _ => rfl, fun _ => rfl,
   fun _ h => congrArg Host.Outcome.next (optimeSave_occurs h)⟩

/-- Settles O7: what is no cold start leaves POWERCYCLE alone, and a cold start lifts it by one or does not take place. -/
theorem powercycleOnlyAtStarts : Obligations.PowercycleOnlyAtStarts := by
  intro c s t h
  by_cases hc : ∃ cV, c = .coldStart cV
  · obtain ⟨cV, rfl⟩ := hc
    obtain rfl := Host.Outcome.next.inj h
    exact (coldStart_powercycle cV s).imp_right fun hup => ⟨hup, Or.inl ⟨cV, rfl⟩⟩
  · by_cases hn : c = .nrstRelease
    · subst hn
      obtain rfl := Host.Outcome.next.inj h
      exact (nrstRelease_powercycle s).imp_right fun hup => ⟨hup, Or.inr rfl⟩
    · exact Or.inl (exec_powercycle h (fun cV e => hc ⟨cV, e⟩) hn)

/-- Settles O9: what is no cold start leaves a cold reset in it. -/
theorem coldEndsOnlyAtStarts : Obligations.ColdEndsOnlyAtStarts := by
  intro c s t h hcold hends
  refine Classical.byContradiction fun hother => ?_
  obtain ⟨hc, hn⟩ := not_or.mp hother
  exact hends (exec_cold_stays h hcold (fun cV e => hc ⟨cV, e⟩) hn)

/-- Settles O19, by whether the warm reset is the third of its run. -/
theorem warmRunEscalates : Obligations.WarmRunEscalates := by
  refine ⟨fun kind s hp hn => ?_, fun kind s hp hn => ?_, fun s hp => adoption_warmRun hp,
    fun d s h => notice_of_keeping h, fun d s _ h => keepExpiry_ends h⟩
  · obtain ⟨hphase, hrun, -⟩ := warmReset_restarts kind hp hn
    exact ⟨hphase, hrun⟩
  · rw [warmReset_escalates kind hp hn]
    obtain ⟨hphase, hoff, -, -, hkind⟩ := coldReset_leaves 5 s
    exact ⟨hphase, hkind, hoff⟩

/-- Settles O44: both rows end in a cold reset; a failing supply is saved before it. -/
theorem coldResetRowsComplete : Obligations.ColdResetRowsComplete := by
  refine ⟨fun cV s h => ⟨powerFail cV s, rfl, ?_⟩, fun s h => ⟨nrstAssert s, rfl, ?_⟩⟩
  · rw [powerFail_occurs h]
    dsimp only
    obtain ⟨hphase, hoff, hsess, hready, hkind⟩ := coldReset_leaves 0 _
    refine ⟨hphase, hoff, hsess, hready, hkind, coldReset_saveDone _ _, ?_, ?_, ?_⟩
    · rw [coldReset_aon]
      exact (failSaved_optime _).1
    · rw [coldReset_aon]
      exact (failSaved_optime _).2
    · rw [coldReset_saved]
      exact failSaved_ledger _
  · rw [nrstAssert_occurs h]
    obtain ⟨hphase, hoff, hsess, hready, hkind⟩ := coldReset_leaves 3 _
    exact ⟨hphase, hoff, hsess, hready, hkind, coldReset_nrstLow _ _⟩

/-- Settles O46: the three starts end in RUN; only the cold ones lift POWERCYCLE, and adoption ends WARM_RUN. -/
theorem startRowsComplete : Obligations.StartRowsComplete := by
  refine ⟨fun cV s h => ⟨coldStart cV s, rfl, ?_⟩, fun s h => ⟨nrstRelease s, rfl, ?_⟩, fun s h => ⟨adoption s, rfl, ?_⟩⟩
  · exact ⟨coldStart_phase h, coldStart_powercycle_of_mayStart h⟩
  · obtain ⟨hstart, hmay⟩ := nrstRelease_occurs h
    rw [hstart]
    exact ⟨coldStart_phase hmay, coldStart_powercycle_of_mayStart hmay⟩
  · rw [occurs_adoption, beq_iff_eq] at h
    exact ⟨adoption_phase h, adoption_warmRun h, (adoption_stable s).2.1⟩

/-- Settles O3: the module leaves manufacture with WARM_RUN 0 and the mailbox in its reset state. -/
theorem invariantAtReset : Obligations.InvariantAtReset := inv_mk (by decide) rfl

end Sys2Proof.Machine
end

section
/-! SUPPORT. What every command leaves of the queue of waiting commands, and that none lowers SEC_FLOOR (R84, R86). -/
namespace Sys2Proof.Machine

/-- The queue stands as it was, and SEC_FLOOR has not fallen. -/
structure QueueAndFloor (s t : State) : Prop where
  pending : t.pending = s.pending
  floor : s.fw.floor ≤ t.fw.floor

theorem QueueAndFloor.of_stable {s t : State} (h : t.stable = s.stable) : QueueAndFloor s t :=
  ⟨congrArg (fun k => k.1) h, Nat.le_of_eq (congrArg (fun k => k.2.2) h).symm⟩

theorem coldStart_queueAndFloor (cV : Nat) (s : State) : QueueAndFloor s (coldStart cV s) := by
  rcases coldStart_spec cV s with ⟨-, h⟩ | ⟨-, h⟩
  · exact ⟨h.pending, h.floor⟩
  · exact ⟨h.pending, h.floor⟩

theorem nrstRelease_queueAndFloor (s : State) : QueueAndFloor s (nrstRelease s) := by
  rcases nrstRelease_spec s with h | h
  · exact .of_stable (stable_of_kept h)
  · rw [h]
    obtain ⟨hpending, hfloor⟩ := coldStart_queueAndFloor s.pwr.vsup { s with pwr := { s.pwr with nrstLow := false } }
    exact ⟨hpending, hfloor⟩

theorem adoption_queueAndFloor (s : State) : QueueAndFloor s (adoption s) := by
  obtain ⟨hpending, -, hfloor⟩ := adoption_stable s
  exact ⟨hpending, hfloor⟩

/-- Only a start may raise SEC_FLOOR (R86); every other command leaves it, as it leaves the queue. -/
theorem exec_queueAndFloor {c : Instr} {s t : State} (h : exec c s = .next t) : QueueAndFloor s t := by
  by_cases hs : ofStart c = true
  · cases c with
    | coldStart cV => exact holds_of_next (QueueAndFloor s) (coldStart_queueAndFloor cV s) h
    | nrstRelease => exact holds_of_next (QueueAndFloor s) (nrstRelease_queueAndFloor s) h
    | adoption => exact holds_of_next (QueueAndFloor s) (adoption_queueAndFloor s) h
    | _ => contradiction
  · by_cases hm : ofMailbox c = true
    · exact .of_stable (mailbox_steady h hm).stable
    · exact .of_stable (exec_works h (by simpa using hm) (by simpa using hs)).steady.stable

end Sys2Proof.Machine
end

section
/-! The obligations on the step, on the queue and on SEC_FLOOR. -/
namespace Sys2Proof.Machine

/-- Settles O1: the two equations of `step`. -/
theorem stepRunsFront : Obligations.StepRunsFront := by
  refine ⟨fun c q s h => ?_, fun s h => ?_⟩
  · simp only [step, h]
  · simp only [step, h]

/-- Settles O5: starts, the mailbox and all other work leave the queue alone. -/
theorem execKeepsQueue : Obligations.ExecKeepsQueue := fun _ _ _ h => (exec_queueAndFloor h).pending

/-- Settles O6: SEC_FLOOR stays, but where a start takes a higher SEC_VERSION. -/
theorem floorNeverFalls : Obligations.FloorNeverFalls := fun _ _ _ h => (exec_queueAndFloor h).floor

end Sys2Proof.Machine
end

section
/-! SUPPORT. What R61 discards and what it passes, and where a packet goes that arrives (R58 to R61). -/
namespace Sys2Proof.Machine

section
variable {bs : Bytes} {s : State}

/-- The reasons that PACKET_DISCARD counts are 1 to 6 (R346). -/
theorem discardReason_range {r : Nat} (h : discardReason bs s = some r) : 1 ≤ r ∧ r ≤ 6 := by
  unfold discardReason at h
  dsimp only at h
  (repeat' split at h) <;> cases h <;> decide

/-- A packet that R61 passes has a right header, and it opens a session or carries the right tag of a live slot. -/
theorem header_session_of_passed (h : discardReason bs s = none) :
    (40 ≤ bs.length ∧ bs.length ≤ 8232 ∧ fld bs 0 2 = 0x4C58 ∧ fld bs 2 1 = 1 ∧ bit (fld bs 3 1) 0 = false
      ∧ 40 + fld bs 16 2 = bs.length)
    ∧ (((fld bs 6 2 = 0x0101 ∨ fld bs 6 2 = 0x0102)
          ∧ (fld bs 4 1 = 0xFF ∨ (fld bs 4 1 < 8 ∧ (s.ses (fld bs 4 1)).live = true)))
        ∨ (fld bs 4 1 < 8 ∧ (s.ses (fld bs 4 1)).live = true
          ∧ (hmac (s.ses (fld bs 4 1)).ks (bs.take (bs.length - 16))).take 16 = bs.drop (bs.length - 16))) := by
  unfold discardReason at h
  dsimp only at h
  split at h
  · cases h
  next hlen =>
  split at h
  · cases h
  next hmagic =>
  split at h
  · cases h
  next hflags =>
  split at h
  · cases h
  next hplen =>
  simp only [Bool.or_eq_true, decide_eq_true_eq, not_or, ne_eq, not_not, Nat.not_lt] at hlen hmagic hplen
  refine ⟨⟨hlen.1, hlen.2, hmagic.1, hmagic.2, by simpa using hflags, hplen⟩, ?_⟩
  split at h
  next hopens =>
    simp only [Bool.and_eq_true, Bool.or_eq_true, decide_eq_true_eq] at hopens
    exact Or.inl hopens
  split at h
  · cases h
  next hslot =>
  split at h
  · cases h
  next htag =>
  simp only [Bool.or_eq_true, decide_eq_true_eq, Bool.not_eq_true', not_or, Nat.not_le, Bool.not_eq_false] at hslot
  exact Or.inr ⟨hslot.1, hslot.2, not_not.mp htag⟩

/-- A packet that R61 passes opens a session, or names a live slot. -/
theorem slot_of_passed (h : discardReason bs s = none) :
    (fld bs 4 1 = 0xFF ∧ (fld bs 6 2 = 0x0101 ∨ fld bs 6 2 = 0x0102))
      ∨ (fld bs 4 1 < 8 ∧ (s.ses (fld bs 4 1)).live = true) := by
  rcases (header_session_of_passed h).2 with ⟨hop, hnew | hslot⟩ | ⟨hlt, hlive, -⟩
  · exact Or.inl ⟨hnew, hop⟩
  · exact Or.inr hslot
  · exact Or.inr ⟨hlt, hlive⟩

end

theorem ttDiscard_only (r port k : Nat) (s : State) : ttDiscard r port k s = { s with tt := (ttDiscard r port k s).tt } :=
  ttOccur_only _ _ _ _ s

theorem arrive_discarded {port addr r : Nat} {bs : Bytes} {ecc : List HoldEcc} {s : State} (hport : s.portOn port = true)
    (hreq : s.start.resetReq = none) (hroom : s.roomFor bs.length = true) (h : discardReason bs s = some r) :
    arrive port addr bs ecc s = ttDiscard r port (fld bs 4 1) s := by
  simp [arrive, hport, hreq, hroom, h]

/-- A packet that its transport delivers and R61 passes: HELLO, AUTH, or a packet of a session, which is heard. -/
theorem arrive_passed {op : Nat} {p : Packet} {s : State} (h : Safety.arrives op p s = true)
    (hpass : discardReason (packetBytes op p) s = none) :
    arrive p.port p.addr (packetBytes op p) p.ecc s =
      if op = 0x0101 then
        if p.session.toNat = 0xFF && headerRsv (packetBytes op p) && p.payload.length == 16 then
          hello p.hostTag.toNat p.port p.addr p.payload s
        else s
      else if op = 0x0102 then authPacket p.hostTag.toNat p.port p.addr (packetBytes op p) [] s
      else sessionPacket p.session.toNat op p.hostTag.toNat p.port p.addr (headerRsv (packetBytes op p)) p.payload []
        (heard p.session.toNat p.port p.addr s) := by
  simp only [Safety.arrives, Bool.and_eq_true, decide_eq_true_eq, Option.isNone_iff_eq_none, List.isEmpty_iff] at h
  obtain ⟨⟨⟨⟨⟨⟨⟨hwf, hlt⟩, hport⟩, hreq⟩, hroom⟩, hecc⟩, -⟩, -⟩ := h
  unfold arrive
  simp only [packet_session, packet_opcode op p hlt, packet_tag, packet_payload op p hwf, hport, hreq, hroom, hpass, hecc,
    Option.isSome_none, Bool.false_and, Bool.not_true, Bool.or_self, Bool.false_eq_true, if_false]

/-- A packet that leaves no command waiting: its row ends with its arrival. -/
theorem hostRow_of_idle {op : Nat} {p : Packet} {s t : State} (h : arrive p.port p.addr (packetBytes op p) p.ecc s = t)
    (hq : t.host.queue = []) : hostRow op p s = t := by
  simp [hostRow, h, State.nextCmd, hq]

theorem queues_of_arrives {op : Nat} {p : Packet} {s : State} (h : Safety.arrives op p s = true) :
    s.host.queue = [] ∧ s.host.running = [] := by
  simp only [Safety.arrives, Bool.and_eq_true, List.isEmpty_iff] at h
  obtain ⟨⟨-, hq⟩, hr⟩ := h
  exact ⟨hq, hr⟩

end Sys2Proof.Machine
end

section
/-! The obligation on packets that R61 discards. -/
namespace Sys2Proof.Machine

/-- Settles O10: a packet with one of the faults is not one that R61 passes, and what is discarded is counted only. -/
theorem discardsAreSilent : Obligations.DiscardsAreSilent := by
  intro port addr bs ecc s hport hreq hroom hfault
  cases hd : discardReason bs s with
  | some r =>
    obtain ⟨hlo, hhi⟩ := discardReason_range hd
    exact ⟨r, hlo, hhi, arrive_discarded hport hreq hroom hd, ttDiscard_only _ _ _ s⟩
  | none =>
    exfalso
    obtain ⟨⟨hmin, hmax, hmagic, hversion, hflags, hplen⟩, hsession⟩ := header_session_of_passed hd
    rcases hfault with h | h | h | h | h | h | ⟨hopens, hslot⟩ | ⟨hello, auth, htag⟩
    · omega
    · omega
    · exact h hmagic
    · exact h hversion
    · rw [hflags] at h
      contradiction
    · exact h hplen
    · rcases slot_of_passed hd with h | ⟨hlt, hlive⟩
      · exact hopens h
      · rcases hslot with h | h
        · omega
        · rw [hlive] at h
          contradiction
    · rcases hsession with ⟨hop | hop, -⟩ | ⟨-, -, hright⟩
      · exact hello hop
      · exact auth hop
      · exact htag hright

end Sys2Proof.Machine
end

section
/-! SUPPORT. The opcode rows of the table, and what hearing and answering a session leave of it (R66 to R68, R91). -/
namespace Sys2Proof.Machine

/-- What a row of the opcode table is: its packet arrives with the byte that the row fixes, and its opcode is one of R76 that
opens no session. -/
structure IsOpRow (e : Nat × (Packet → Packet) × (Packet → Instr)) : Prop where
  exec_row : ∀ p s, exec (e.2.2 p) s = .next (hostRow e.1 (e.2.1 p) s)
  packet : ∀ p, e.2.1 p = { p with payload := (e.2.1 p).payload }
  listed : (opSpec e.1).isSome = true
  hello : e.1 ≠ 0x0101
  auth : e.1 ≠ 0x0102

theorem isOpRow_of_mem : ∀ e ∈ Safety.opRows, IsOpRow e := by
  simp only [Safety.opRows, Safety.opRowsA, Safety.opRowsB, Safety.opRowsC, Safety.opRowsD, Safety.opRowsE,
    List.forall_mem_append, List.forall_mem_cons, List.not_mem_nil, false_imp_iff, implies_true, and_true]
  and_intros
  all_goals exact ⟨fun _ _ => rfl, fun _ => rfl, rfl, by decide, by decide⟩

/-- A live session that is written reads back. -/
theorem State.setSes_ses_live {s : State} {k : Nat} {v : Sess} (h : v.live = true) : (s.setSes k v).ses k = v := by
  refine Tbl.rd_wr_ne _ _ _ _ fun e => ?_
  rw [e] at h
  contradiction

/-- Hearing a packet writes the slot of its session, and no other. -/
theorem heard_sess (k port addr : Nat) (s : State) : (heard k port addr s).sess
    = (s.setSes k { s.ses k with heardAt := s.aon.nowUs, silent := false, port := port, addr := addr }).sess := by
  unfold heard silenceEnds wdReload
  dsimp only
  split
  · split
    · rw [ttOccur_sess]
    · rfl
  · rfl

theorem heard_ses {k port addr : Nat} {s : State} (h : (s.ses k).live = true) : (heard k port addr s).ses k
    = { s.ses k with heardAt := s.aon.nowUs, silent := false, port := port, addr := addr } := by
  unfold State.ses
  rw [heard_sess]
  exact State.setSes_ses_live h

theorem heard_ses_other {k port addr i : Nat} {s : State} (h : i ≠ k) : (heard k port addr s).ses i = s.ses i := by
  unfold State.ses
  rw [heard_sess]
  exact State.setSes_ses_other s k _ i h

theorem heard_highTag {k : Nat} (port addr : Nat) {s : State} (h : (s.ses k).live = true) :
    ((heard k port addr s).ses k).highTag = (s.ses k).highTag := by
  rw [heard_ses h]

theorem heard_io_values (k port addr : Nat) (s : State) :
    (heard k port addr s).io.host = s.io.host ∧ (heard k port addr s).io.outs = s.io.outs := by
  unfold heard silenceEnds wdReload
  dsimp only
  split
  · split <;> simp
  · simp

theorem dropFor_highTag (slot sess : Nat) (s : State) (k : Nat) :
    ((dropFor slot sess s).ses k).highTag = (s.ses k).highTag := by
  unfold dropFor
  dsimp only
  split
  next h =>
    by_cases hk : k = slot
    · subst hk
      rw [State.setSes_ses_live (by simpa using (Bool.and_eq_true_iff.mp h).1)]
    · rw [State.setSes_ses_other _ _ _ _ hk]
  next => rfl

theorem send_highTag (port addr slot sess : Nat) (notice : Bool) (bytes : Bytes) (s : State) (k : Nat) :
    ((send port addr slot sess notice bytes s).ses k).highTag = (s.ses k).highTag := by
  unfold send
  dsimp only
  split
  · rfl
  · exact dropFor_highTag slot sess s k

end Sys2Proof.Machine
end

section
/-! SUPPORT. Packets of a session that admission refuses, and resends (R67, R68). -/
namespace Sys2Proof.Machine

section
variable {k op tag port addr : Nat} {r : Bool} {p : Bytes} {ecc : List HoldEcc} {s : State}

theorem sessionPacket_refused (hne : admission k op tag r p s ≠ 0) (hnew : admission k op tag r p s ≠ 0x0500) :
    sessionPacket k op tag port addr r p ecc s = refuse k op tag port addr (admission k op tag r p s) s := by
  unfold sessionPacket
  split
  · contradiction
  · contradiction
  · rfl

/-- A resend with nothing before it is answered at once. -/
theorem sessionPacket_resent (h : admission k op tag r p s = 0x0500) (hq : s.host.queue = []) (hr : s.host.running = []) :
    sessionPacket k op tag port addr r p ecc s = dupReply k op tag port addr s := by
  unfold sessionPacket
  rw [h]
  simp [resend, hq, hr]

/-- DUPLICATE is an answer like any other. -/
theorem dupReply_sends (k op tag port addr : Nat) (s : State) :
    ∃ bytes, dupReply k op tag port addr s = send port addr k (s.ses k).jseq false bytes s := ⟨_, rfl⟩

/-- The highest tag is checked right after the reserved bits and the opcode (R68). -/
theorem admission_resent (hop : (opSpec op).isSome = true) (htag : tag ≤ (s.ses k).highTag) :
    admission k op tag true p s = 0x0500 := by
  obtain ⟨o, ho⟩ := Option.isSome_iff_exists.mp hop
  simp [admission, ho, htag]

end

/-- A packet of a session that arrives, in the row of its opcode: R61 has found its session live. -/
theorem row_arrives {e : Nat × (Packet → Packet) × (Packet → Instr)} (hrow : IsOpRow e) {p : Packet} {s : State}
    (h : Safety.arrives e.1 (e.2.1 p) s = true) (hpass : discardReason (packetBytes e.1 (e.2.1 p)) s = none) :
    arrive (e.2.1 p).port (e.2.1 p).addr (packetBytes e.1 (e.2.1 p)) (e.2.1 p).ecc s =
        sessionPacket p.session.toNat e.1 p.hostTag.toNat p.port p.addr (headerRsv (packetBytes e.1 (e.2.1 p)))
          (e.2.1 p).payload [] (heard p.session.toNat p.port p.addr s)
      ∧ (s.ses p.session.toNat).live = true := by
  have hpkt := hrow.packet p
  have hsession : (e.2.1 p).session = p.session := by rw [hpkt]
  have htag : (e.2.1 p).hostTag = p.hostTag := by rw [hpkt]
  have hport : (e.2.1 p).port = p.port := by rw [hpkt]
  have haddr : (e.2.1 p).addr = p.addr := by rw [hpkt]
  constructor
  · rw [arrive_passed h hpass, if_neg hrow.hello, if_neg hrow.auth, hsession, htag, hport, haddr]
  · simp only [Safety.arrives, Bool.and_eq_true, decide_eq_true_eq] at h
    obtain ⟨⟨⟨⟨⟨⟨⟨-, hlt⟩, -⟩, -⟩, -⟩, -⟩, -⟩, -⟩ := h
    have hslot := slot_of_passed hpass
    rw [packet_session, packet_opcode _ _ hlt, hsession] at hslot
    rcases hslot with ⟨-, h | h⟩ | ⟨-, hlive⟩
    · exact absurd h hrow.hello
    · exact absurd h hrow.auth
    · exact hlive

/-- Of what the module does with commands, sending an answer in a session that was just heard leaves everything. -/
theorem send_heard_frame (port addr slot sess : Nat) (notice : Bool) (bytes : Bytes) (k port' addr' : Nat) (s : State) :
    let t := send port addr slot sess notice bytes (heard k port' addr' s)
    t.jrnl = s.jrnl ∧ t.own = s.own ∧ t.rig = s.rig ∧ t.fw = s.fw ∧ t.shv = s.shv ∧ t.masts = s.masts
      ∧ t.dryers = s.dryers ∧ t.routes = s.routes ∧ t.io.host = s.io.host ∧ t.io.outs = s.io.outs
      ∧ t.host.queue = s.host.queue := by
  obtain ⟨hhost, houts⟩ := heard_io_values k port' addr' s
  simp [hhost, houts, heard_queue]

end Sys2Proof.Machine
end

section
/-! The obligations on refusals, on resends and on the service of every opcode row. -/
namespace Sys2Proof.Machine

/-- Settles O11: the packet is heard and refused, nothing waits after it, and a reply is all that is sent. -/
theorem refusalsChangeNothing : Obligations.RefusalsChangeNothing := by
  intro e he p s h hpass _ heardState a hne hnew
  have hrow := isOpRow_of_mem e he
  obtain ⟨harr, hlive⟩ := row_arrives hrow h hpass
  rw [sessionPacket_refused hne hnew] at harr
  obtain ⟨hj, ho, hrig, hfw, hshv, hm, hd, hr, hhost, houts, hq⟩ := send_heard_frame p.port p.addr p.session.toNat
    (heardState.ses p.session.toNat).jseq false
    (packetOut p.session.toNat e.1 p.hostTag.toNat (replyBlock a 0 0 0 0) (heardState.ses p.session.toNat).ks)
    p.session.toNat p.port p.addr s
  have hidle := hostRow_of_idle harr (hq.trans (queues_of_arrives h).1)
  refine ⟨_, (hrow.exec_row p s).trans (congrArg Host.Outcome.next hidle), rfl, hj, ho, hrig, hfw, hshv, hm, hd, hr, hhost,
    houts, hq, ?_⟩
  exact (send_highTag _ _ _ _ _ _ _ _).trans (heard_highTag p.port p.addr hlive)

/-- Settles O12: hearing the session leaves its highest tag, so the command is a resend, and nothing is before it. -/
theorem resendsExecuteNothing : Obligations.ResendsExecuteNothing := by
  intro e he p s h hpass _ hrsv htag
  have hrow := isOpRow_of_mem e he
  obtain ⟨harr, hlive⟩ := row_arrives hrow h hpass
  obtain ⟨hqueue, hrunning⟩ := queues_of_arrives h
  obtain ⟨hq, hr⟩ := heard_queue p.session.toNat p.port p.addr s
  have hhigh : p.hostTag.toNat ≤ ((heard p.session.toNat p.port p.addr s).ses p.session.toNat).highTag := by
    rwa [heard_highTag p.port p.addr hlive]
  rw [hrsv, sessionPacket_resent (admission_resent hrow.listed hhigh) (hq.trans hqueue) (hr.trans hrunning)] at harr
  obtain ⟨bytes, hsent⟩ := dupReply_sends p.session.toNat e.1 p.hostTag.toNat p.port p.addr
    (heard p.session.toNat p.port p.addr s)
  have hframe := send_heard_frame p.port p.addr p.session.toNat
    ((heard p.session.toNat p.port p.addr s).ses p.session.toNat).jseq false bytes p.session.toNat p.port p.addr s
  rw [← hsent] at hframe
  have hidle := hostRow_of_idle harr (by rw [hsent, send_host, hq, hqueue])
  exact ⟨_, (hrow.exec_row p s).trans (congrArg Host.Outcome.next hidle), rfl, hframe⟩

/-- Settles O47: every row of the table goes through the one lemma of a served packet. -/
theorem opcodeRowsServed : Obligations.OpcodeRowsServed := by
  intro e he p s h
  have hrow := isOpRow_of_mem e he
  rw [hrow.exec_row, served_row e.1 (e.2.1 p) s h hrow.hello hrow.auth]

end Sys2Proof.Machine
end

section
/-! SUPPORT. HELLO and AUTH as they arrive (R62 to R64), and the slots of sessions after an AUTH is admitted (R98). -/
namespace Sys2Proof.Machine

/-! ## HELLO (R63) -/

/-- A HELLO that finds a token. -/
theorem hello_answers {tag port addr : Nat} {nonce : Bytes} {s : State}
    (h : 1000000 ≤ refill s.auth.tok 100 100 (s.aon.nowUs - s.auth.tokAt)) :
    hello tag port addr nonce s = (let dev := le 16 (Config.freeBits s.free).toNat
      let cs := s.auth.ctxs.filter s.ctxLive
      send port addr 0xFF 0 false (packetOut 0xFF 0x0101 tag (replyBlock 0 0 0 0 0
         ++ (dev ++ le 8 Config.deviceId.toNat ++ [BitVec.ofNat 8 s.liveCount] ++ zeros 7)) [])
       { s with
         free := s.free + 1
         auth := { s.auth with
           ctxs := cs.drop (cs.length - 7) ++ [{ hostNonce := nonce, devNonce := dev, at_ := s.aon.nowUs }]
           tok := refill s.auth.tok 100 100 (s.aon.nowUs - s.auth.tokAt) - 1000000
           tokAt := s.aon.nowUs } }) :=
  if_neg (Nat.not_lt.mpr h)

theorem hostRow_hello {p : Packet} {s : State} (h : Safety.helloAnswered p s = true) :
    hostRow 0x0101 p s = hello p.hostTag.toNat p.port p.addr p.payload s
      ∧ 1000000 ≤ refill s.auth.tok 100 100 (s.aon.nowUs - s.auth.tokAt) := by
  simp only [Safety.helloAnswered, Bool.and_eq_true, decide_eq_true_eq, beq_iff_eq, Option.isNone_iff_eq_none] at h
  obtain ⟨⟨⟨⟨⟨harrives, hpass⟩, hsession⟩, hrsv⟩, hlen⟩, htok⟩ := h
  refine ⟨hostRow_of_idle ?_ ?_, htok⟩
  · rw [arrive_passed harrives hpass]
    simp [hsession, hrsv, hlen]
  · rw [hello_answers htok]
    dsimp only
    rw [send_host]
    exact (queues_of_arrives harrives).1

/-! ## The slots of sessions -/

/-- Which session holds a slot. -/
def State.holder (s : State) (i : Nat) : Bool × Nat := ((s.ses i).live, (s.ses i).jseq)

theorem slotOf_some {s : State} {j k : Nat} (h : s.slotOf j = some k) : s.holder k = (true, j) := by
  have hk := List.find?_some h
  rw [Bool.and_eq_true, beq_iff_eq] at hk
  exact Prod.ext hk.1 hk.2

/-- A slot is written for the session that holds it. -/
theorem holder_setSes {s : State} {k : Nat} {v : Sess} (hlive : v.live = true) (h : s.holder k = (true, v.jseq)) (i : Nat) :
    (s.setSes k v).holder i = s.holder i := by
  by_cases hi : i = k
  · subst hi
    rw [h]
    unfold State.holder
    rw [State.setSes_ses_live hlive, hlive]
  · unfold State.holder
    rw [State.setSes_ses_other _ _ _ _ hi]

theorem holder_jWrite (e : JEntry) (s : State) (i : Nat) : (jWrite e s).holder i = s.holder i := by
  unfold jWrite tailWrite
  dsimp only
  split
  next k hk =>
    split
    · obtain ⟨hlive, -⟩ := Prod.ext_iff.mp (slotOf_some hk)
      refine holder_setSes ?_ ?_ i
      · exact hlive
      · exact Prod.ext hlive rfl
    · rfl
  next => rfl

theorem holder_jAdmit (c : Cmd) (n : Nat) (m : Bool) (s : State) (i : Nat) : (jAdmit c n m s).holder i = s.holder i :=
  forAll_same (fun s => s.holder i) _ _ (fun e s => holder_jWrite e s i) _

/-- An AUTH that is admitted writes no slot but the one it takes. -/
theorem holder_admitAuth {k i : Nat} (hi : i ≠ k) (tag port addr : Nat) (payload ks : Bytes) (x : HelloCtx)
    (ecc : List HoldEcc) (s : State) : (admitAuth k tag port addr payload ks x ecc s).holder i = s.holder i := by
  unfold admitAuth
  dsimp only
  have hnew : ((dropCtx x s).setSes k (newSession (fld payload 16 1) (s.jrnl.head + 1) tag port addr ks s)).ses i
      = s.ses i := State.setSes_ses_other _ _ _ _ hi
  refine (congrArg (fun v : Sess => (v.live, v.jseq)) (heard_ses_other hi)).trans ((holder_jAdmit _ _ _ _ i).trans ?_)
  exact congrArg (fun v : Sess => (v.live, v.jseq)) hnew

/-! ## AUTH as it arrives (R63, R64) -/

section
variable {p : Packet} {s : State} {k : Nat} {x : HelloCtx} {ks : Bytes}

theorem authKey_some (h : Safety.authKey p s = some (x, ks)) :
    s.ctxOf p.payload = some x ∧ sessionKey (fld p.payload 16 1) x s = some ks := by
  unfold Safety.authKey at h
  split at h
  next y hy =>
    obtain ⟨ks', hks, heq⟩ := Option.map_eq_some_iff.mp h
    cases heq
    exact ⟨hy, hks⟩
  next => contradiction

theorem arrives_of_authOpens (h : Safety.authOpens p s = true) :
    Safety.arrives 0x0102 p s = true ∧ s.slotOf (fld p.payload 24 8) = none := by
  simp only [Safety.authOpens, Bool.and_eq_true, Option.isNone_iff_eq_none] at h
  obtain ⟨⟨⟨⟨⟨⟨⟨⟨⟨⟨harrives, -⟩, -⟩, -⟩, -⟩, -⟩, -⟩, -⟩, -⟩, hpred⟩, -⟩ := h
  exact ⟨harrives, hpred⟩

/-- A module that a packet reaches runs. -/
theorem up_of_arrives {op : Nat} (h : Safety.arrives op p s = true) : s.up = true := by
  simp only [Safety.arrives, State.portOn, Bool.and_eq_true] at h
  obtain ⟨⟨⟨⟨⟨⟨-, ⟨⟨hup, -⟩, -⟩, -⟩, -⟩, -⟩, -⟩, -⟩, -⟩ := h
  exact hup

/-- An AUTH that opens a session is admitted to the first free slot. -/
theorem arrive_auth (h : Safety.authOpens p s = true) (hslot : slots.find? (fun k => !(s.ses k).live) = some k)
    (hkey : Safety.authKey p s = some (x, ks)) :
    arrive p.port p.addr (packetBytes 0x0102 p) p.ecc s
      = admitAuth k p.hostTag.toNat p.port p.addr p.payload ks x [] s := by
  simp only [Safety.authOpens, Bool.and_eq_true, decide_eq_true_eq, beq_iff_eq, Option.isNone_iff_eq_none, hkey] at h
  obtain ⟨⟨⟨⟨⟨⟨⟨⟨⟨⟨harrives, hpass⟩, hsession⟩, hrsv⟩, hlen⟩, hres⟩, hready⟩, -⟩, hagg⟩, -⟩, htag⟩ := h
  obtain ⟨hctx, hks⟩ := authKey_some hkey
  rw [arrive_passed harrives hpass]
  simp only [Safety.arrives, Bool.and_eq_true, Option.isNone_iff_eq_none] at harrives
  obtain ⟨⟨⟨⟨⟨⟨⟨hwf, -⟩, -⟩, hreq⟩, -⟩, -⟩, -⟩, -⟩ := harrives
  have hidle : s.activating = false := by simp [State.activating, hreq]
  have hfull : ¬ refill s.host.aggTok 10000 1000 (s.aon.nowUs - s.host.aggAt) < 1000000 := Nat.not_lt.mpr hagg
  simp only [authPacket, packet_payload _ _ hwf, packet_session, hctx, hks, htag, hsession, hrsv, hlen, hres, hready, hslot,
    hidle, hfull]
  simp

end

end Sys2Proof.Machine
end

section
/-! SUPPORT. The command of an AUTH that was just admitted: it is next, and no live session is its predecessor (R98, R100). -/
namespace Sys2Proof.Machine

/-- The command that AUTH makes of itself (R63). -/
def authCmd (k : Nat) (p : Packet) (s : State) : Cmd :=
  { jseq := s.jrnl.head + 1, slot := k, sess := s.jrnl.head + 1, role := fld p.payload 16 1, op := 0x0102,
    tag := p.hostTag.toNat, payload := p.payload, port := p.port, addr := p.addr, at_ := s.aon.nowUs, ecc := [] }

section
variable {p : Packet} {s : State} {k : Nat} {x : HelloCtx} {ks : Bytes}

theorem admitAuth_host (hq : s.host.queue = []) (hr : s.host.running = []) :
    let t := admitAuth k p.hostTag.toNat p.port p.addr p.payload ks x [] s
    t.host.queue = [authCmd k p s] ∧ t.host.running = [] ∧ t.pwr = s.pwr := by
  simp [admitAuth, heard_queue, dropCtx, hq, hr, authCmd]

/-- The only session that an AUTH brings is its own. -/
theorem admitAuth_slotOf {j i tag port addr : Nat} {payload : Bytes} {ecc : List HoldEcc} (hnone : s.slotOf j = none)
    (h : (admitAuth k tag port addr payload ks x ecc s).slotOf j = some i) : i = k := by
  refine Classical.byContradiction fun hi => ?_
  have hheld : s.holder i = (true, j) := (holder_admitAuth hi tag port addr payload ks x ecc s).symm.trans (slotOf_some h)
  obtain ⟨hlive, hjseq⟩ := Prod.ext_iff.mp hheld
  have hnot := List.find?_eq_none.mp hnone i (List.mem_of_find?_eq_some h)
  exact hnot (Bool.and_eq_true_iff.mpr ⟨hlive, beq_iff_eq.mpr hjseq⟩)

end

section
variable {c : Cmd} {s : State} (h : ∀ i, s.slotOf (fld c.payload 24 8) = some i → i = c.slot)
include h

/-- An AUTH waits for no predecessor but one in another slot. -/
theorem authWaits_own : s.authWaits c = false := by
  unfold State.authWaits
  split
  next i hi => simp [h i hi]
  next => exact Bool.and_false _

theorem takeOver_own : takeOver c s = s := by
  unfold takeOver
  split
  next i hi => simp [h i hi]
  next => rfl

end

/-! ## Execution without errors of the Hold -/

section
variable {c : Cmd} {s : State} (hup : s.up = true)
include hup

theorem execute_auth (hop : c.op = 0x0102) : execute c [] s = executeAuth c s.host.queue
    { s with host := { s.host with queue := s.host.queue.filter (fun d => d.jseq != c.jseq) } } :=
  (if_neg (by simpa using hup : ¬ (!s.up) = true)).trans ((if_neg Bool.false_ne_true).trans (if_pos hop))

theorem execute_opcode (hop : c.op ≠ 0x0102) : execute c [] s =
    (let s1 : State := { s with host := { s.host with queue := s.host.queue.filter (fun d => d.jseq != c.jseq) } }
     let r := runCmd c (if c.op / 256 = 3 then txnHeard c.sess s1 else s1)
     if r.2.deferred then { r.1 with host := { r.1.host with running := r.1.host.running ++ [c] } } else finish c r.2 r.1) :=
  (if_neg (by simpa using hup : ¬ (!s.up) = true)).trans ((if_neg Bool.false_ne_true).trans (if_neg hop))

end

section
variable {c : Cmd} {s : State} (hq : s.host.queue = [c])
include hq

theorem nextCmd_auth (hr : s.host.running = []) (hown : ∀ i, s.slotOf (fld c.payload 24 8) = some i → i = c.slot) :
    s.nextCmd = some c := by
  simp [State.nextCmd, hq, hr, authWaits_own hown]

/-- An AUTH alone in the queue, with no predecessor in another slot. -/
theorem execute_auth_alone (hup : s.up = true) (hop : c.op = 0x0102)
    (hown : ∀ i, s.slotOf (fld c.payload 24 8) = some i → i = c.slot) :
    execute c [] s = (let r := runAuth c { s with host := { s.host with queue := [] } }; finish c r.2 r.1) := by
  have hnone : s.host.queue.filter (fun d => d.jseq != c.jseq) = [] := by simp [hq]
  have hown' : ∀ i, ({ s with host := { s.host with queue := [] } } : State).slotOf (fld c.payload 24 8) = some i →
      i = c.slot := hown
  rw [execute_auth hup hop, hnone]
  unfold executeAuth
  dsimp only
  rw [takeOver_own hown', authWaits_own hown', if_neg Bool.false_ne_true]

end

section
variable {p : Packet} {s : State} {k : Nat} {x : HelloCtx} {ks : Bytes}

/-- An AUTH that opens a session runs as its first command, with no predecessor to take over. -/
theorem hostRow_auth (h : Safety.authOpens p s = true) (hslot : slots.find? (fun k => !(s.ses k).live) = some k)
    (hkey : Safety.authKey p s = some (x, ks)) :
    hostRow 0x0102 p s = (let t := admitAuth k p.hostTag.toNat p.port p.addr p.payload ks x [] s
      let r := runAuth (authCmd k p s) { t with host := { t.host with queue := [] } }
      finish (authCmd k p s) r.2 r.1) := by
  have harr := arrive_auth h hslot hkey
  obtain ⟨harrives, hpred⟩ := arrives_of_authOpens h
  obtain ⟨hq, hr⟩ := queues_of_arrives harrives
  obtain ⟨hqueue, hrunning, hpwr⟩ := admitAuth_host (p := p) (k := k) (x := x) (ks := ks) hq hr
  have hown : ∀ i, (admitAuth k p.hostTag.toNat p.port p.addr p.payload ks x [] s).slotOf (fld p.payload 24 8) = some i →
      i = k := fun i hi => admitAuth_slotOf hpred hi
  generalize admitAuth k p.hostTag.toNat p.port p.addr p.payload ks x [] s = t at *
  have hup : t.up = true := (congrArg (fun w : Pwr => w.phase == .run) hpwr).trans (up_of_arrives harrives)
  unfold hostRow
  dsimp only
  rw [harr, nextCmd_auth hqueue hrunning hown]
  dsimp only
  exact (if_pos (Nat.lt_succ_self s.jrnl.head)).trans (execute_auth_alone hqueue hup rfl hown)

end

end Sys2Proof.Machine
end

section
/-! The obligation on HELLO and AUTH. -/
namespace Sys2Proof.Machine

/-- Settles O26: a HELLO is answered as it arrives, and an AUTH is the first command of the session it opens. -/
theorem openingRowsComplete : Obligations.OpeningRowsComplete := by
  refine ⟨fun p s h => ?_, fun p s k x ks h hslot hkey => ?_⟩
  · obtain ⟨hrow, htok⟩ := hostRow_hello h
    exact congrArg Host.Outcome.next (hrow.trans (hello_answers htok))
  · obtain ⟨hq, -⟩ := queues_of_arrives (arrives_of_authOpens h).1
    refine congrArg Host.Outcome.next ((hostRow_auth h hslot hkey).trans ?_)
    unfold admitAuth
    dsimp only
    rw [State.setSes_host, show (dropCtx x s).host.queue = [] from hq]
    rfl

end Sys2Proof.Machine
end

section
/-! SUPPORT. The rows of the timers of sessions and orphans, of host silence and of READY, past the conditions under which they
come about (R90, R92, R94, R384, R424). -/
namespace Sys2Proof.Machine

section
variable {s : State}

theorem hostSilence_occurs (h : Safety.occurs .hostSilence s = true) :
    hostSilence s = ttOccur 0 0x0141 0 [1#8] { s with host := { s.host with silence := true } } := if_pos h

theorem sessionSilent_occurs {k : Nat} (h : Safety.occurs (.sessionSilent k) s = true) :
    sessionSilent k s = s.setSes k { s.ses k with silent := true } := if_pos h

/-- A session that expires has no mark yet, so the mark of its expiry stands. -/
theorem sessionExpiry_occurs {k : Nat} (h : Safety.occurs (.sessionExpiry k) s = true) :
    sessionExpiry k s
      = endIdle (s.setSes k { s.ses k with ending := some { reason := 1, orphan := true, jseq := 0 } }) := by
  have hnone : (s.ses k).ending = none :=
    Option.isNone_iff_eq_none.mp (Bool.and_eq_true_iff.mp (Bool.and_eq_true_iff.mp h).1).2
  refine (if_pos h).trans ?_
  simp only [markEnd, hnone, Option.getD_none]

theorem orphanExpiry_occurs {o : Nat} (h : Safety.occurs (.orphanHoldExpiry o) s = true) :
    orphanExpiry o s = forAll ((s.own.filter (fun e => e.2.own == 2 && e.2.owner == o
        && s.due ((e.2.orphanMs + s.orphanHold * 1000) * 1000))).map (fun e => e.1))
      (releaseObj (jDevice 5 o 0xFF 1 s).jrnl.head) (jDevice 5 o 0xFF 1 s) := by
  have hcond : s.up = true ∧ s.rdy 0 = true ∧ s.own.any (fun e => e.2.own == 2 && e.2.owner == o
      && s.due ((e.2.orphanMs + s.orphanHold * 1000) * 1000)) = true := by
    simpa only [Safety.occurs, Bool.and_eq_true, and_assoc] using h
  obtain ⟨hup, hrdy, hany⟩ := hcond
  have hsome : s.own.filter (fun e => e.2.own == 2 && e.2.owner == o
      && s.due ((e.2.orphanMs + s.orphanHold * 1000) * 1000)) ≠ [] := by
    obtain ⟨e, he, hdue⟩ := List.any_eq_true.mp hany
    exact List.ne_nil_of_mem (List.mem_filter.mpr ⟨he, hdue⟩)
  exact if_neg (by simp [hup, hrdy, hsome])

theorem readyNotice_occurs (h : Safety.occurs .readyNotice s = true) :
    readyNotice s = notify 0 0x8106
      (le 8 s.readyWord ++ le 8 (s.readyWord ^^^ s.start.seenReady) ++ le 16 s.start.ports)
      { s with start := { s.start with seenReady := s.readyWord, seenPorts := s.start.ports, readyAt := none } } := by
  cases hat : s.start.readyAt with
  | none => simp [Safety.occurs, hat] at h
  | some t =>
    simp only [Safety.occurs, hat, Bool.and_eq_true] at h
    obtain ⟨⟨hup, hchanged⟩, hdue⟩ := h
    simp only [readyNotice, hat, hup, hchanged, hdue, Bool.not_true, Bool.or_self, Bool.false_eq_true, if_false]

end

end Sys2Proof.Machine
end

section
/-! The obligation on the timers of sessions. -/
namespace Sys2Proof.Machine

/-- Settles O27: each row under the condition that brings it about. -/
theorem sessionTimersComplete : Obligations.SessionTimersComplete :=
  ⟨fun _ _ _ => rfl,
   fun _ h => congrArg Host.Outcome.next (hostSilence_occurs h),
   fun _ _ h => congrArg Host.Outcome.next (sessionSilent_occurs h),
   fun _ _ h => congrArg Host.Outcome.next (sessionExpiry_occurs h),
   fun _ _ h => congrArg Host.Outcome.next (orphanExpiry_occurs h),
   fun _ h => congrArg Host.Outcome.next (readyNotice_occurs h)⟩

end Sys2Proof.Machine
end

section
/-! SUPPORT. Queued commands, and the ends of the deferred ones (R69, R85, R100, R101, R128, R132, R133, R139). -/
namespace Sys2Proof.Machine

section
variable {c : Cmd} {s : State}

/-! ## COMMAND_EXECUTION (R100, R111) -/

theorem commandExecution_occurs (h : Safety.occurs (.commandExecution []) s = true) (hnext : s.nextCmd = some c) :
    s.up = true ∧ commandExecution [] s = execute c [] s := by
  simp only [Safety.occurs, hnext, Bool.and_eq_true, List.isEmpty_iff] at h
  obtain ⟨⟨hup, -⟩, hecc⟩ := h
  refine ⟨hup, ?_⟩
  simp only [commandExecution, hup, hnext, hecc, Bool.not_true, Bool.false_eq_true, if_false, List.append_nil]

/-! ## The ends of deferred commands (R101) -/

/-- The deferred command with an opcode ends as its work does. -/
theorem endRun_occurs {op : Nat} {f : Cmd → State → State × Res}
    (h : (s.up && s.host.running.any (fun d => d.op == op)) = true) (hc : s.host.running.find? (fun d => d.op == op) = some c) :
    endRun op f s = finishRun c (f c s).2 (f c s).1 := by
  have hup : s.up = true := (Bool.and_eq_true_iff.mp h).1
  simp only [endRun, hup, hc, Bool.not_true, Bool.false_eq_true, if_false]

theorem fwEnd_of_open {u : FwUpd} (hu : s.fw.upd = some u) : fwEnd s =
    ({ s with fw := { s.fw with upd := some { u with endOk := fwEndOk u s } } },
      Res.of (if fwEndOk u s then 0 else 0x0600) []) := by
  simp only [fwEnd, hu]

/-- RIG_SAVE ends by whether the signature of what is read back holds (R139). -/
theorem rigSaveEnd_good (h : sigOk s (s.rigBank s.idleBank) = true) : rigSaveEnd c s =
    (let s1 := s.setRigBank s.idleBank { s.rigBank s.idleBank with st := 2 }
     ({ s1 with rig := { s1.rig with
        base := s.idleBank, next := s.idleBank
        delta := s.rig.delta.filter (fun r => !s.rig.imaged.contains r), imaged := [] } },
      Res.ok (BitVec.ofNat 8 s.idleBank :: zeros 3))) :=
  if_neg (by rw [h]; decide)

theorem rigSaveEnd_bad (h : sigOk s (s.rigBank s.idleBank) = false) : rigSaveEnd c s = (s, Res.of 0x0600 []) :=
  if_pos (by rw [h]; decide)

/-! ## A commit of fields (R132) -/

/-- The delta records of a commit's fields, in their order (log 56). -/
def fieldDeltas (c : Cmd) (t : Txn) : List Delta :=
  let recs := t.commitSet.filter (fun f => !f.signer)
  (List.range recs.length).filterMap (fun j => recs[j]?.map (fun f =>
    { jseq := c.jseq, item := j, key := f.key, off := f.off, bytes := f.bytes }))

/-- A commit of fields that passes its validation, with room for its records, waits for its boundary. -/
theorem commitFields_passes {t : Txn}
    (hvalid : validate { t := putStaged s.rig.live t.commitSet, s := s, named := stagedKeys t.commitSet } = [])
    (hroom : s.rig.delta.length + (t.commitSet.filter (fun f => !f.signer)).length ≤ 4096) :
    commitFields c t s =
      (let scan := (stagedKeys t.commitSet).any (fun k =>
         keyType k == 0x01 || keyType k == 0x02 || keyType k == 0x03 || keyType k == 0x22)
       commitWait c { t with staged := t.commitSet, commitSet := [], scan := scan } t.commitSet.length
         { s with rig := { s.rig with
           delta := (fieldDeltas c t).foldl (fun l r => insertDelta r l) s.rig.delta
           live := putStaged s.rig.live (t.commitSet.filter Staged.signer) } }) := by
  have herrs : (validate { t := putStaged s.rig.live t.commitSet, s := s, named := stagedKeys t.commitSet }
      ++ vIf (4096 < s.rig.delta.length + (t.commitSet.filter (fun f => !f.signer)).length) 0x0018 (dkey 0x20 0) 0).isEmpty
      = true := by
    simp [hvalid, vIf, Nat.not_lt.mpr hroom]
  exact if_neg (by rw [herrs]; decide)

theorem rigCommitEnd_fields {t : Txn} (ht : s.rig.txn = some t) (hs : t.sess = c.sess) (hw : t.waiting = false)
    (hm : t.mode = 0) : rigCommitEnd c s = commitFields c t s := by
  simp [rigCommitEnd, ht, hs, hw, hm]

/-! ## The transaction's timeout and its boundary (R128, R133) -/

theorem txnTimeout_occurs {t : Txn} (h : Safety.occurs .rigTxnTimeout s = true) (ht : s.rig.txn = some t) :
    txnTimeout s = closeTxn s := by
  simp only [Safety.occurs, ht] at h
  simp only [txnTimeout, ht, h, if_true]

theorem fwTimeout_occurs (h : Safety.occurs .fwUpdateTimeout s = true) :
    fwTimeout s = { s with fw := { s.fw with upd := none } } := by
  unfold fwTimeout
  cases hu : s.fw.upd with
  | none => simp [Safety.occurs, hu] at h
  | some u =>
    simp only [Safety.occurs, hu] at h
    exact if_pos h

theorem rigActivation_occurs (h : Safety.occurs .rigActivation s = true) : rigActivation s = activate s := if_pos h

end

end Sys2Proof.Machine
end

section
/-! The obligation on queued commands and on the ends of deferred ones. -/
namespace Sys2Proof.Machine

/-- Settles O28: a queued command by whether it is an AUTH, each deferred one by what its work ends with. -/
theorem commandRowsComplete : Obligations.CommandRowsComplete := by
  refine ⟨fun c s h hnext hop => ?_, fun c s h hnext hop => ?_, fun c s h hc => ?_, fun c t s h hc ht hs hw hm => ?_,
    fun c s h hc => ?_, fun c u s h hc hu => ?_, fun s h => ?_, fun t s h ht => ?_, fun t s h ht => ?_⟩
  · obtain ⟨hup, hexec⟩ := commandExecution_occurs h hnext
    exact congrArg Host.Outcome.next (hexec.trans (execute_opcode hup hop))
  · obtain ⟨hup, hexec⟩ := commandExecution_occurs h hnext
    exact congrArg Host.Outcome.next (hexec.trans (execute_auth hup hop))
  · exact congrArg Host.Outcome.next (endRun_occurs h hc)
  · intro recs keys scan row t1 s1 hvalid hroom
    refine congrArg Host.Outcome.next ((endRun_occurs h hc).trans ?_)
    rw [rigCommitEnd_fields ht hs hw hm, commitFields_passes hvalid hroom]
    rfl
  · intro i s1
    refine congrArg Host.Outcome.next ((endRun_occurs h hc).trans ?_)
    cases hsig : sigOk s (s.rigBank i) with
    | true => rw [rigSaveEnd_good hsig, if_pos rfl]
    | false => rw [rigSaveEnd_bad hsig, if_neg Bool.false_ne_true]
  · refine congrArg Host.Outcome.next ((endRun_occurs h hc).trans ?_)
    rw [fwEnd_of_open hu]
  · exact congrArg Host.Outcome.next (fwTimeout_occurs h)
  · exact congrArg Host.Outcome.next ((txnTimeout_occurs h ht).trans (closeTxn_open ht))
  · refine ⟨_, congrArg Host.Outcome.next (rigActivation_occurs h), ?_⟩
    rw [activate_rig t s ht]
    exact ⟨rfl, rfl, rfl⟩

end Sys2Proof.Machine
end

section
/-! SUPPORT. FW_UPDATE by its STEP, past the conditions under which each takes effect (R85). -/
namespace Sys2Proof.Machine

section
variable {c : Cmd} {s : State}

theorem runFwUpdate_begin (ha : fld c.payload 0 1 = 1) (hnone : s.fw.upd = none) :
    runFwUpdate c s = (let s1 := s.setFwSlot (1 - s.fw.running) { factory := false, mem := [], bad := false }
      { s1 with fw := { s1.fw with upd := some {
        slot := 1 - s.fw.running, sess := c.sess, length := fld c.payload 8 4, got := 0
        at_ := s.aon.nowUs, endOk := false } } },
      Res.ok []) := by
  simp only [runFwUpdate, runFwUpdate.fwBegin, ha, hnone]

section
variable {u : FwUpd} (hu : s.fw.upd = some u) (hown : u.sess = c.sess)
include hu hown

/-- DATA at the offset reached, within LENGTH. -/
theorem runFwUpdate_data (ha : fld c.payload 0 1 = 2) (hoff : fld c.payload 4 4 = u.got)
    (hlen : u.got + fld c.payload 8 4 ≤ u.length) :
    runFwUpdate c s =
      (let x := s.fwSlot u.slot
       let s1 := s.setFwSlot u.slot { x with mem := Memory.write x.mem u.got (c.payload.drop 16) }
       { s1 with fw := { s1.fw with upd := some { u with
         got := u.got + fld c.payload 8 4, at_ := s.aon.nowUs, endOk := false } } }, Res.ok []) := by
  simp [runFwUpdate, ha, hu, hown, hoff, Nat.not_lt.mpr hlen]

theorem runFwUpdate_end (ha : fld c.payload 0 1 = 3) :
    runFwUpdate c s = ({ s with fw := { s.fw with upd := some { u with at_ := s.aon.nowUs } } }, Res.later) := by
  simp [runFwUpdate, ha, hu, hown]

theorem runFwUpdate_activate (ha : fld c.payload 0 1 = 4) (hend : u.endOk = true) :
    runFwUpdate c s = ({ s with
      fw := { s.fw with upd := none, marked := u.slot }
      start := { s.start with resetReq := some { kind := 0x12, port := c.port, at_ := s.aon.nowUs } } }, Res.ok []) := by
  simp [runFwUpdate, ha, hu, hown, hend]

theorem runFwUpdate_abort (ha : fld c.payload 0 1 = 5) :
    runFwUpdate c s = ({ s with fw := { s.fw with upd := none } }, Res.ok []) := by
  simp [runFwUpdate, ha, hu, hown]

end

end

end Sys2Proof.Machine
end

section
/-! The obligations on the session's own opcodes and on firmware updates. -/
namespace Sys2Proof.Machine

/-- Settles O48: each opcode is served, and its entry of the table says what it leaves and replies. -/
theorem sessionOpcodesResult : Obligations.SessionOpcodesResult :=
  ⟨fun _ _ h => congrArg Host.Outcome.next (hostRow_finish runKeepalive h rfl rfl),
   fun _ _ h => congrArg Host.Outcome.next (hostRow_finish runBye h rfl rfl),
   fun _ _ h => congrArg Host.Outcome.next (hostRow_finish runSubscribe h rfl rfl),
   fun _ _ h => congrArg Host.Outcome.next (hostRow_finish runGetReady h rfl rfl)⟩

/-- Settles O60: each step is served; END goes on at work, and the others end at once. -/
theorem firmwareOpcodesResult : Obligations.FirmwareOpcodesResult := by
  refine ⟨fun p s h ha hnone => ?_, fun p s u h ha hu hown hoff hlen => ?_, fun p s u h ha hu hown => ?_,
    fun p s u h ha hu hown hend => ?_, fun p s u h ha hu hown => ?_⟩
  · refine congrArg Host.Outcome.next ((hostRow_finish runFwUpdate h rfl (runFwUpdate_begin ha hnone)).trans ?_)
    -- Both sides name the slot that idles; unfolding it would run the admission of the packet.
    with_reducible rfl
  · exact congrArg Host.Outcome.next (hostRow_finish runFwUpdate h rfl (runFwUpdate_data hu hown ha hoff hlen))
  · refine congrArg Host.Outcome.next ((hostRow_deferred runFwUpdate h rfl (runFwUpdate_end hu hown ha)).trans ?_)
    with_reducible rfl
  · exact congrArg Host.Outcome.next (hostRow_finish runFwUpdate h rfl (runFwUpdate_activate hu hown ha hend))
  · exact congrArg Host.Outcome.next (hostRow_finish runFwUpdate h rfl (runFwUpdate_abort hu hown ha))

end Sys2Proof.Machine
end

section
/-! SUPPORT. Writes of the field side and FAULT_CLEAR, past the checks of an item (R81, R97). -/
namespace Sys2Proof.Machine

/-- A field within bytes that are cut from a payload. -/
theorem fld_cut {p : Bytes} {a n o m : Nat} (h : o + m ≤ n) : fld (cut p a n) o m = fld p (a + o) m := by
  simp only [fld, cut, List.drop_take, List.drop_drop, List.take_take, Nat.min_eq_left (Nat.le_sub_of_add_le' h)]

section
variable {c : Cmd} {s : State} {k : Nat} (hk : fld c.payload 4 4 = k) (hn : fld c.payload 0 2 = 1)
  (hready : s.fieldReady k = true) (hmay : s.mayOperate k c.sess = true) (hlock : s.lockForces k = false)
include hk hn hready hmay hlock

/-- A write of one item to an enabled output whose source is the host. -/
theorem runWrite_one (hon : s.outOn k = true) (hsrc : s.srcKind k = 0) :
    runWrite c s =
      (let v := if keyType k = 0x0A || keyType k = 0x0D then fld c.payload 8 2 else fld c.payload 8 1
       (commitItem k c.jseq c.sess c.role { s with io := { s.io with host := Tbl.wr 0 s.io.host k v } },
         Res.multi [0] [])) := by
  refine multi_one hn ?_
  simp [writeItem, fld_cut, hk, hready, itemGate_passes hmay, hon, hsrc, hlock]

/-- FAULT_CLEAR of one item whose fault may be cleared. -/
theorem runFaultClear_one (hclear : (clearFault k s).1 = false) :
    runFaultClear c s = (commitItem k c.jseq c.sess c.role (clearFault k s).2, Res.multi [0] []) := by
  refine multi_one hn ?_
  simp [clearItem, hk, hready, itemGate_passes hmay, hlock, hclear]

end

/-- The four write opcodes share one effect (R81). -/
theorem hostRow_write {op : Nat} {p : Packet} {s : State} (h : Safety.servable op p s = true)
    (htaken : Safety.writeTaken op p s = true) (hop : (opSpec op).map OpSpec.run = some runWrite)
    (hello : op ≠ 0x0101 := by decide) (auth : op ≠ 0x0102 := by decide) : hostRow op p s = Safety.wrote op p s := by
  simp only [Safety.writeTaken, Bool.and_eq_true, beq_iff_eq, Bool.not_eq_true'] at htaken
  obtain ⟨⟨⟨⟨⟨hn, hready⟩, hmay⟩, hon⟩, hsrc⟩, hlock⟩ := htaken
  exact hostRow_finish runWrite h hop (runWrite_one rfl hn hready hmay hlock hon hsrc) rfl hello auth

end Sys2Proof.Machine
end

section
/-! The obligation on the opcodes of the field side. -/
namespace Sys2Proof.Machine

/-- Settles O56: each opcode is served; the writes share one effect, and the reads leave all as it is. -/
theorem fieldOpcodesResult : Obligations.FieldOpcodesResult :=
  ⟨fun _ _ h htaken => congrArg Host.Outcome.next (hostRow_write h htaken rfl),
   fun _ _ h htaken => congrArg Host.Outcome.next (hostRow_write h htaken rfl),
   fun _ _ h htaken => congrArg Host.Outcome.next (hostRow_write h htaken rfl),
   fun _ _ h htaken => congrArg Host.Outcome.next (hostRow_write h htaken rfl),
   fun _ _ h hn hready hmay hlock hclear => congrArg Host.Outcome.next
     (hostRow_finish runFaultClear h rfl (runFaultClear_one rfl hn hready hmay hlock hclear)),
   fun _ _ h => congrArg Host.Outcome.next (hostRow_finish runDioRead h rfl rfl),
   fun _ _ h => congrArg Host.Outcome.next (hostRow_finish runLoadRead h rfl rfl),
   fun _ _ h => congrArg Host.Outcome.next (hostRow_finish runFanRead h rfl rfl),
   fun _ _ h => congrArg Host.Outcome.next (hostRow_finish runAfeRead h rfl rfl),
   fun _ _ h => congrArg Host.Outcome.next (hostRow_finish runThreshRead h rfl rfl)⟩

end Sys2Proof.Machine
end

section
/-! SUPPORT. The opcodes of scans, enumeration, point thresholds and trend memory, past the conditions under which each takes
effect (R157 to R159, R178, R189, R192 to R194). -/
namespace Sys2Proof.Machine

section
variable {c : Cmd} {s : State}

/-! ## SCAN_SET by its ACTION (R189) -/

/-- A period that no transaction holds, with room in the delta log, under an estimate that does not rise. -/
theorem runScanSet_period (ha : fld c.payload 4 1 = 0) (hheld : s.held (dkey 0x20 0) 0 4 = false) (hroom : s.deltaFull = false)
    (hmw : estMwOf (descPut s.rig.live (dkey 0x20 0) (patch (s.d 0x20 0) 0 (le 4 (fld c.payload 0 4)))) ≤ estMwOf s.rig.live) :
    runScanSet c s =
      (let u := periodChanged s.scanPeriod (rigWrite (dkey 0x20 0) 0 (le 4 (fld c.payload 0 4)) c.jseq 0 s)
       (u, Res.ok (le 4 u.scan.cycle ++ zeros 4 ++ le 6 u.nextStartMs ++ zeros 2))) := by
  simp [runScanSet, ha, hheld, hroom, not_lt.mpr hmw]

theorem runScanSet_extra (ha : fld c.payload 4 1 = 1) :
    runScanSet c s = (let u : State := { s with scan := { s.scan with extra := true } }
      (u, Res.ok (le 4 u.scan.cycle ++ zeros 4 ++ le 6 u.nextStartMs ++ zeros 2))) := by
  simp only [runScanSet, ha, if_true]

/-! ## PORT_ENUMERATE by its MODE (R157, R158) -/

section
variable (hmay : Safety.mayEnumerate s (keyIdx (fld c.payload 0 4)) = true)
include hmay

theorem runEnumerate_asks (hmode : fld c.payload 4 1 ≠ 2) :
    runEnumerate c s = (s.setHp (keyIdx (fld c.payload 0 4))
      { s.hp (keyIdx (fld c.payload 0 4)) with asked := some (fld c.payload 4 1 = 1) }, Res.later) := by
  simp only [Safety.mayEnumerate, Bool.and_eq_true, Option.isNone_iff_eq_none, Bool.not_eq_true', bne_iff_ne] at hmay
  obtain ⟨⟨⟨⟨⟨⟨hen, hasked⟩, hrun⟩, htxn⟩, hshort⟩, hforeign⟩, hlow⟩ := hmay
  simp [runEnumerate, hen, hasked, hrun, htxn, hshort, hforeign, hlow, hmode]

theorem runEnumerate_reports (hmode : fld c.payload 4 1 = 2) :
    runEnumerate c s = (s, Res.ok (enumReport s (keyIdx (fld c.payload 0 4)) (fld c.payload 6 2))) := by
  simp only [Safety.mayEnumerate, Bool.and_eq_true, Option.isNone_iff_eq_none, Bool.not_eq_true', bne_iff_ne] at hmay
  obtain ⟨⟨⟨⟨⟨⟨hen, hasked⟩, hrun⟩, htxn⟩, hshort⟩, hforeign⟩, hlow⟩ := hmay
  simp [runEnumerate, hen, hasked, hrun, htxn, hshort, hforeign, hlow, hmode]

end

/-! ## POINT_THRESH_SET (R178) -/

theorem runThreshSet_one {k : Nat} (hn : fld c.payload 0 2 = 1) (hk : fld (cut c.payload 4 8) 0 4 = k)
    (hen : s.ptEn (keyIdx k) = true) (hheld : s.held k 12 4 = false) (hroom : s.deltaFull = false) :
    runThreshSet c s = (rigWrite k 12 (cut (cut c.payload 4 8) 4 4) c.jseq 0 s, Res.multi [0] []) := by
  refine multi_one hn ?_
  simp [threshItem, hk, hen, hheld, hroom]

/-! ## TREND_READ by its ACTION (R192 to R194) -/

/-- The stream that OPEN asks for. -/
def openStream (c : Cmd) (s : State) : Stream :=
  { Stream.dflt with
    sess := c.sess, fronts := decide (fld c.payload 1 1 = 1), first := keyIdx (fld c.payload 4 4),
    count := fld c.payload 8 2, every := fld c.payload 10 2, units := fld c.payload 12 2,
    spill := decide (fld c.payload 3 1 = 1), openCycle := s.scan.cycle, unitsAt := s.freeUnits (fld c.payload 12 2) }

theorem runTrend_open {i : Nat} (ha : fld c.payload 0 1 = 1)
    (hquota : s.trendUsed c.sess + fld c.payload 12 2 ≤ (s.ses c.slot).quota.trend)
    (hfree : (List.range 16).find? (fun i => (s.stream (c.slot * 16 + i)).sess == 0) = some i) :
    runTrend c s = (s.setStream (c.slot * 16 + i) (openStream c s),
      Res.ok ([BitVec.ofNat 8 (c.slot * 16 + i)] ++ zeros 3 ++ le 4 (openStream c s).ringGroups
        ++ le 4 (if (openStream c s).spill then (openStream c s).ringGroups else 0) ++ zeros 4)) := by
  simp only [runTrend, runTrendOpen, ha, hfree, Nat.not_lt.mpr hquota, if_false]
  rfl

theorem runTrend_read (ha : fld c.payload 0 1 = 2) (hv : (s.stream (fld c.payload 2 1)).sess ≠ 0) :
    runTrend c s = (let v := s.stream (fld c.payload 2 1)
      let frm := max (fld c.payload 16 4) v.oldest
      let gs := (v.groups.filter (fun g => decide (frm ≤ g.seq))).take (8160 / v.groupLen)
      (s, Res.ok (le 4 ((gs.getLast?.map (fun g => g.seq + 1)).getD frm) ++ le 4 v.oldest ++ le 2 gs.length ++ zeros 6
        ++ gs.flatMap TGroup.bytes))) := by
  simp only [runTrend, runTrendRead, ha, hv, if_false]

theorem runTrend_close (ha : fld c.payload 0 1 = 3) (hown : (s.stream (fld c.payload 2 1)).sess = c.sess) :
    runTrend c s = (s.setStream (fld c.payload 2 1) Stream.dflt, Res.ok []) := by
  simp only [runTrend, runTrendClose, ha, hown, if_true]

theorem runTrend_status (ha : fld c.payload 0 1 = 4) (hv : (s.stream (fld c.payload 2 1)).sess ≠ 0) :
    runTrend c s = (let v := s.stream (fld c.payload 2 1)
      (s, Res.ok (le 4 (v.seq - 1) ++ le 4 v.oldest ++ le 4 v.lost ++ zeros 4))) := by
  simp only [runTrend, runTrendStatus, ha, hv, if_false]

theorem runTrend_frontLog (ha : fld c.payload 0 1 = 5) :
    runTrend c s = (let l := Tbl.rd [] s.trend.logs (keyIdx (fld c.payload 4 4))
      (s, Res.ok (le 2 l.length ++ zeros 14 ++ l.flatMap FLog.bytes))) := by
  simp only [runTrend, runFrontLog, ha]

end

/-- An enumeration that is asked for runs on after its command is served (R159). -/
theorem hostRow_asks {p : Packet} {s : State} {assign : Bool} (h : Safety.servable 0x0403 p s = true)
    (hmode : fld (Safety.cmdOf 0x0403 p s).payload 4 1 = b2n assign)
    (hmay : Safety.mayEnumerate (Safety.before 0x0403 p s) (keyIdx (fld (Safety.cmdOf 0x0403 p s).payload 0 4)) = true) :
    hostRow 0x0403 p s = Safety.asked (Safety.before 0x0403 p s) (keyIdx (fld (Safety.cmdOf 0x0403 p s).payload 0 4)) assign
      (Safety.cmdOf 0x0403 p s) := by
  have hassign : decide (fld (Safety.cmdOf 0x0403 p s).payload 4 1 = 1) = assign := by
    rw [hmode]
    cases assign <;> rfl
  have hnot : fld (Safety.cmdOf 0x0403 p s).payload 4 1 ≠ 2 := by
    rw [hmode]
    cases assign <;> decide
  have hrun := runEnumerate_asks hmay hnot
  rw [hassign] at hrun
  exact hostRow_deferred runEnumerate h rfl hrun

end Sys2Proof.Machine
end

section
/-! The obligation on the opcodes of points. -/
namespace Sys2Proof.Machine

/-- Settles O51: each opcode is served, and takes effect by its ACTION or MODE. -/
theorem pointOpcodesResult : Obligations.PointOpcodesResult :=
  ⟨fun _ _ h => congrArg Host.Outcome.next (hostRow_finish runPointRead h rfl rfl),
   fun _ _ h => congrArg Host.Outcome.next (hostRow_finish runFrontRead h rfl rfl),
   fun _ _ h ha hheld hroom hmw => congrArg Host.Outcome.next
     (hostRow_finish runScanSet h rfl (runScanSet_period ha hheld hroom hmw)),
   fun _ _ h ha => congrArg Host.Outcome.next (hostRow_finish runScanSet h rfl (runScanSet_extra ha)),
   fun _ _ h ha hmay => congrArg Host.Outcome.next (hostRow_asks (assign := false) h ha hmay),
   fun _ _ h ha hmay => congrArg Host.Outcome.next (hostRow_asks (assign := true) h ha hmay),
   fun _ _ h ha hmay => congrArg Host.Outcome.next (hostRow_finish runEnumerate h rfl (runEnumerate_reports hmay ha)),
   fun _ _ h hn hen hheld hroom => congrArg Host.Outcome.next
     (hostRow_finish runThreshSet h rfl (runThreshSet_one hn rfl hen hheld hroom)),
   fun _ _ _ h ha hquota hfree => congrArg Host.Outcome.next
     (hostRow_finish runTrend h rfl (runTrend_open ha hquota hfree)),
   fun _ _ h ha hv => congrArg Host.Outcome.next (hostRow_finish runTrend h rfl (runTrend_read ha hv)),
   fun _ _ h ha hown => congrArg Host.Outcome.next (hostRow_finish runTrend h rfl (runTrend_close ha hown)),
   fun _ _ h ha hv => congrArg Host.Outcome.next (hostRow_finish runTrend h rfl (runTrend_status ha hv)),
   fun _ _ h ha => congrArg Host.Outcome.next (hostRow_finish runTrend h rfl (runTrend_frontLog ha))⟩

end Sys2Proof.Machine
end
